-- ==== Sys2Proof/Word.lean ====
section
/-! DEFINITION. The words the ports carry and the indexes of the tables. -/

namespace Sys2Proof

/-- One byte of a transaction, of a frame or of the EEPROM. -/
abbrev Byte := BitVec 8

/-- A 16-bit cumulative station counter (0.4), and a notice set as its mask names it (R170). -/
abbrev Half := BitVec 16

/-- A result field (R164). -/
abbrev Word := BitVec 32

/-- A line index, 0-15 (0.4). -/
abbrev LineIx := Fin 16

/-- A packer index, 0-7 (0.4). -/
abbrev PackerIx := Fin 8

/-- A station, by its link address 1-30 (0.4) less one. -/
abbrev StationIx := Fin 30

/-- An entry index of the lot table (1.1). -/
abbrev LotIx := Fin 32

/-- An entry index of the coil table (1.1). -/
abbrev CoilIx := Fin 96

end Sys2Proof
end

