-- ==== Sys2Proof/Config.lean ====
section
/-! DEFINITION. The fixed figures of the part, and the one value the spec leaves free. -/

namespace Sys2Proof.Config

/-- The 48-bit limit of positions and lot lengths, in mm (R9, R39). -/
def positionLimit : Nat := 281474976710655

/-- Where the five line counters, the coil's knot and slip counters and the two station counts stop
(R16, R87, R159). -/
def counterLimit : Nat := 65535

/-- Where the joint count, the unlisted-zone count and the failure count stop (R101, R104, 8.2). -/
def byteLimit : Nat := 255

/-- The largest value a 32-bit view field shows (R21, R62, R145). -/
def wordLimit : Nat := 4294967295

/-- The value of the next coil sequence of an exhausted lot (R10). -/
def sequenceExhausted : Nat := 10000

/-- Places at one packer (R139). -/
def packerPlaces : Nat := 6

/-- Zones a coil lists (R101). -/
def zoneLimit : Nat := 8

/-- Segments the twist window holds (R58). -/
def windowLimit : Nat := 16

/-- The floor of the slip check, in micrometres (R42). -/
def slipFloor : Nat := 100000

/-- The resume timer's end, in ms (R175). -/
def resumeTime : Nat := 50

/-- Rounds after which a probe falls due (R154). -/
def probeRounds : Nat := 32

/-- Extra exchanges of a turn (R157). -/
def extraLimit : Nat := 3

/-- The largest payload of a frame (R151, R152). -/
def payloadLimit : Nat := 48

/-- Bytes of the settings image (R172). -/
def imageSize : Nat := 195

/-- What an EEPROM byte that nothing has written reads as.
DESIGN CHOICE, unsafe: the spec does not give the EEPROM's first contents (entry 3). -/
def eepromBlank : Byte := 0xFF

/-- Free value: whether the EEPROM had already acknowledged the data byte of a write that a restart
ends at its next byte boundary (R167). The spec does not say how far a transfer has come when a
restart is taken; nothing constrains this value (entry 12). Safe. -/
opaque abortedWriteAcknowledged : Nat → Bool

end Sys2Proof.Config
end

