-- ==== Sys2Proof/Syntax.lean ====
section
/-! DEFINITION. The commands and events of the part: one constructor per row of the opcode table. -/

namespace Sys2Proof

/-- Why a frame in reception was not received intact (R152). -/
inductive NotIntact where
  /-- The payload length byte is above 48. -/
  | lengthByte
  /-- A character arrived with its stop bit low. -/
  | stopBit
  /-- The complete frame carries a wrong CRC. -/
  | crc
  deriving DecidableEq, Repr

/-- The rows of the opcode table. A host command carries the argument bytes of its transaction
(R162), a frame its address, sequence and payload bytes (R151). -/
inductive Instr where
  -- Host commands (table 9.1)
  | lotOpen (args : List Byte)
  | lotAmend (args : List Byte)
  | lotClose (args : List Byte)
  | lotRetire (args : List Byte)
  | lineAssign (args : List Byte)
  | lineRelease (args : List Byte)
  | lineWheels (args : List Byte)
  | laneSet (args : List Byte)
  | coilMark (args : List Byte)
  | coilSeal (args : List Byte)
  | coilRetire (args : List Byte)
  | readRecord (args : List Byte)
  | listKeys (args : List Byte)
  | noticeRead (args : List Byte)
  | noticeClear (args : List Byte)
  | storeRead (args : List Byte)
  | storeWrite (args : List Byte)
  | stationProbe (args : List Byte)
  | restartWarm (args : List Byte)
  | restartCold (args : List Byte)
  | result (args : List Byte)
  | unknownCommandCode (code : Byte) (args : List Byte)
  -- Host port and EEPROM events
  | transactionStart
  | storeTransferDone (acknowledged : Bool)
  -- Part states
  | powerOn
  | resetnAssert
  | loadComplete (acknowledged : Bool)
  | supplyOkFall
  | supplyOkRise
  | resumeTimerExpiry
  -- The Link Engine's own steps and failed receptions
  | roundStart
  | pollSend
  | pollTransmitDone
  | replyTimeout
  | characterTimeout
  | frameNotIntact (cause : NotIntact)
  | frameWrongAddress
  -- Intact frames
  | idle (address sequence : Byte) (payload : List Byte)
  | tally (address sequence : Byte) (payload : List Byte)
  | mark (address sequence : Byte) (payload : List Byte)
  | cutDone (address sequence : Byte) (payload : List Byte)
  | askSpec (address sequence : Byte) (payload : List Byte)
  | askNext (address sequence : Byte) (payload : List Byte)
  | askCoil (address sequence : Byte) (payload : List Byte)
  | taken (address sequence : Byte) (payload : List Byte)
  | sealed (address sequence : Byte) (payload : List Byte)
  | invalidFrameKind (kind address sequence : Byte) (payload : List Byte)
  | characterReceived (character : Byte)
  deriving DecidableEq, Repr

end Sys2Proof
end

