-- ==== Sys2Proof/Machine/Bytes.lean ====
section
/-! DEFINITION. Byte order, bit fields of the views, and the link's CRC. -/

namespace Sys2Proof.Machine

/-- The number that bytes spell, most significant first (R151, table 9.1, 10.2). -/
def beNat (bs : List Byte) : Nat := bs.foldl (fun n b => n * 256 + b.toNat) 0

/-- The number in `n` bytes of `bs` from the byte at `at0` on. -/
def bytesAt (bs : List Byte) (at0 n : Nat) : Nat := beNat ((bs.drop at0).take n)

/-- A number in `n` bytes, most significant first. -/
def toBytes : Nat → Nat → List Byte
  | 0, _ => []
  | n + 1, v => BitVec.ofNat 8 (v / 256 ^ n) :: toBytes n v

/-- A value in bits `hi` down to `lo` of a view field (R27). -/
def bitsAt (v hi lo : Nat) : Nat := v % 2 ^ (hi - lo + 1) * 2 ^ lo

/-- A flag at one bit of a view field. -/
def flagAt (b : Bool) (n : Nat) : Nat := if b then 2 ^ n else 0

/-- The 32 fields of a view from the ones it lists; a field not listed reads 0 (1.9). -/
def viewOf (listed : List (Nat × Nat)) : List Word :=
  (List.range 32).map fun n => BitVec.ofNat 32 ((listed.lookup n).getD 0)

/-- R27: a signed value as a 16-bit number, the nearer limit for one outside its range. -/
def signed16 (x : Int) : Nat := ((max (-32768) (min 32767 x)) % 65536).toNat

/-- One bit of the CRC register's division by 1021h (table 8.1). -/
def crcBit (r : Half) : Half := if r.msb then (r <<< 1) ^^^ 0x1021 else r <<< 1

/-- A byte enters the CRC register, most significant bit first. -/
def crcByte (r : Half) (b : Byte) : Half :=
  crcBit (crcBit (crcBit (crcBit (crcBit (crcBit (crcBit (crcBit
    (r ^^^ (b.zeroExtend 16 <<< 8)))))))))

/-- CRC-16 of table 8.1: polynomial 1021h, initial value FFFFh, no reflection, no final XOR. -/
def crc16 (bs : List Byte) : Half := bs.foldl crcByte 0xFFFF

end Sys2Proof.Machine
end

