-- ==== Sys2Proof/Machine/State.lean ====
section
/-! DEFINITION. The state of the part: the records, the Link Engine, the Host Port, the notices, the
settings and the part state, as plain data, and its values right after power-on. -/

namespace Sys2Proof.Machine

/-- A step of the part never faults: no rule of the spec stops the part. There is no constructor. -/
inductive Fault where
  deriving DecidableEq, Repr

/-- Why a command has no meaning in the model. -/
inductive Refusal where
  /-- Raised by an arm of `exec` whose meaning is not written. No arm raises it. Safe. -/
  | notModelled (mnemonic : String)
  deriving DecidableEq, Repr

/-! ## Lots (1.2) -/

/-- The product kind of a specification. -/
inductive ProductKind where
  | laid
  | net
  /-- A code that names no product kind; only a block given by the host, or the copy of a line that
  no lot has been assigned to (R116), holds it. -/
  | other (code : Nat)
  deriving DecidableEq, Repr

/-- The specification fields of table 1.2, in the order of the SPEC content of table 8.1. -/
structure Spec where
  kind : ProductKind
  layDirection : Nat
  nominalTwist : Nat
  twistTolerance : Nat
  twistSpan : Nat
  persistence : Nat
  knotsPerRow : Nat
  rowPitch : Nat
  faultRowsToOpen : Nat
  soundRowsToClose : Nat
  target : Nat
  cutLead : Nat
  allowance : Nat
  minSound : Nat
  maxJoints : Nat
  jointMargin : Nat
  rejectShare : Nat
  densityNominal : Nat
  densityTolerance : Nat
  deriving DecidableEq, Repr

/-- The copy of a line that no lot has been assigned to: every field 0 (R116). -/
def Spec.zero : Spec :=
  { kind := .other 0, layDirection := 0, nominalTwist := 0, twistTolerance := 0, twistSpan := 0,
    persistence := 0, knotsPerRow := 0, rowPitch := 0, faultRowsToOpen := 0, soundRowsToClose := 0,
    target := 0, cutLead := 0, allowance := 0, minSound := 0, maxJoints := 0, jointMargin := 0,
    rejectShare := 0, densityNominal := 0, densityTolerance := 0 }

inductive LotState where
  | opened
  | closing
  | closed
  deriving DecidableEq, Repr

/-- A lot record (1.2). Coils held and the running set are computed (R9, R10; entry 13). -/
structure Lot where
  number : Nat
  state : LotState
  spec : Spec
  revision : Nat
  produced : Nat
  unassigned : Nat
  retired : Nat
  coilsMade : Nat
  coilsRetired : Nat
  nextSequence : Nat
  deriving DecidableEq, Repr

/-! ## Coils (1.6) -/

/-- A coil's key: its lot number and its sequence within the lot (0.4). -/
structure CoilKey where
  lot : Nat
  sequence : Nat
  deriving DecidableEq, Repr

inductive CoilState where
  | opened
  | full
  | taken
  | sealed
  deriving DecidableEq, Repr

/-- The causes of a zone (5.1). -/
inductive Cause where
  | twist
  | knot
  | slip
  | joint
  | operator
  deriving DecidableEq, Repr

/-- A zone, in coil-local mm; `stop` is none while it is open (5.1). -/
structure Zone where
  cause : Cause
  start : Nat
  stop : Option Nat
  extreme : Int
  deriving DecidableEq, Repr

/-- The reasons of R110, in the order of the bits of coil view field 5. -/
inductive Reason where
  | zones
  | zoneOverflow
  | jointsOver
  | short
  | overlength
  | density
  | lengthUncertain
  | unplannedCut
  | loose
  | unweighed
  deriving DecidableEq, Repr

inductive Grade where
  | first
  | second
  | reject
  deriving DecidableEq, Repr

/-- The five values of the specification that a coil keeps through its life (R99). -/
structure GradeLimits where
  maxJoints : Nat
  minSound : Nat
  rejectShare : Nat
  densityNominal : Nat
  densityTolerance : Nat
  deriving DecidableEq, Repr

/-- A coil record (1.6, 5.1). -/
structure Coil where
  key : CoilKey
  state : CoilState
  line : LineIx
  packer : Option PackerIx
  revision : Nat
  start : Nat
  stop : Option Nat
  joints : Nat
  zones : List Zone
  unlisted : Nat
  unlistedOpen : List Cause
  faultRows : Nat
  missedKnots : Nat
  excessKnots : Nat
  slipTallies : Nat
  weight : Option Nat
  density : Option Nat
  reasons : List Reason
  grade : Grade
  final : Bool
  limits : GradeLimits
  deriving DecidableEq, Repr

/-! ## Lines (1.4) -/

inductive LineKind where
  | unused
  | twist
  | knot
  deriving DecidableEq, Repr

inductive MeasureSource where
  | wheelA
  | wheelB
  | rows
  deriving DecidableEq, Repr

inductive CheckSource where
  | off
  | wheelA
  | wheelB
  deriving DecidableEq, Repr

/-- The run states but SUSPENDED, which `Line.suspended` holds: while it is set, the state here is
the remembered state (R17, R18; entry 14). -/
inductive RunState where
  | idle
  | primed
  | running
  | starved
  | releasing
  deriving DecidableEq, Repr

inductive CutState where
  | noCut
  | ordered
  | held
  deriving DecidableEq, Repr

/-- The standing orders (R117). -/
inductive Order where
  | run
  | cut
  | halt
  deriving DecidableEq, Repr

/-- Why a coil could not open, and so why a line starves (R20, R128). -/
inductive StarveReason where
  | noEntry
  | seqExhausted
  deriving DecidableEq, Repr

/-- The four station counters (2.3). -/
structure Counts where
  spindle : Half
  wheelA : Half
  wheelB : Half
  rows : Half
  deriving DecidableEq, Repr

/-- The slip detector (R31). -/
structure SlipDetector where
  slipping : Bool
  slipRun : Nat
  slipStart : Nat
  slipPeak : Nat
  cleanRun : Nat
  cleanStart : Nat
  deriving DecidableEq, Repr

/-- One credited stretch of rope and the quarter-turns laid into it (3.3). -/
structure Segment where
  length : Nat
  quarters : Nat
  deriving DecidableEq, Repr

inductive Band where
  | warming
  | inBand
  | suspect
  | out
  | recovering
  deriving DecidableEq, Repr

/-- The Twist Monitor of a line (3.1); `window` is oldest first. -/
structure TwistMonitor where
  window : List Segment
  lastValue : Nat
  band : Band
  suspectStart : Nat
  recoveryStart : Nat
  extreme : Int
  deriving DecidableEq, Repr

/-- The Knot Monitor of a line (4.1). -/
structure KnotMonitor where
  faulted : Bool
  faultRun : Nat
  faultStart : Nat
  soundRun : Nat
  soundStart : Nat
  extreme : Nat
  deriving DecidableEq, Repr

/-- A line record (1.4). The standing order is computed (R117; entry 13). -/
structure Line where
  kind : LineKind
  address : Nat
  wheelA : Nat
  wheelB : Nat
  measure : MeasureSource
  check : CheckSource
  state : RunState
  suspended : Bool
  lot : Option Nat
  spec : Spec
  revision : Nat
  amendPending : Bool
  coil : Option CoilKey
  position : Nat
  remainder : Nat
  baselines : Counts
  baselinesValid : Bool
  cut : CutState
  reserved : Option PackerIx
  cutPoint : Nat
  halted : Bool
  starve : Option StarveReason
  jointClose : Option Nat
  slip : SlipDetector
  slipTallies : Nat
  resyncs : Nat
  sequenceGaps : Nat
  staleEntries : Nat
  unrecorded : Nat
  twist : TwistMonitor
  knot : KnotMonitor
  deriving DecidableEq, Repr

/-- R31: the slip detector at reset and assignment. -/
def SlipDetector.reset : SlipDetector :=
  { slipping := false, slipRun := 0, slipStart := 0, slipPeak := 0, cleanRun := 0, cleanStart := 0 }

/-- R56: the Twist Monitor at reset, assignment and resync. -/
def TwistMonitor.reset : TwistMonitor :=
  { window := [], lastValue := 0, band := .warming, suspectStart := 0, recoveryStart := 0,
    extreme := 0 }

/-- R80: the Knot Monitor at reset, assignment and resync. -/
def KnotMonitor.reset : KnotMonitor :=
  { faulted := false, faultRun := 0, faultStart := 0, soundRun := 0, soundStart := 0, extreme := 0 }

/-- A line right after power-on, before the first load: the values of R28 and R116, with no kind,
no station and no constants (DESIGN CHOICE, entry 1). -/
def Line.reset : Line :=
  { kind := .unused, address := 0, wheelA := 0, wheelB := 0, measure := .wheelA, check := .off,
    state := .idle, suspended := false, lot := none, spec := Spec.zero, revision := 0,
    amendPending := false, coil := none, position := 0, remainder := 0,
    baselines := ⟨0, 0, 0, 0⟩, baselinesValid := false, cut := .noCut, reserved := none,
    cutPoint := 0, halted := false, starve := none, jointClose := none, slip := .reset,
    slipTallies := 0, resyncs := 0, sequenceGaps := 0, staleEntries := 0, unrecorded := 0,
    twist := .reset, knot := .reset }

/-! ## Notices (10.1) -/

/-- The event notices that are set, by the bits of table 10.1. The condition notices are computed
from their conditions (R169; entry 13), so their bits are never set here. -/
structure Notices where
  global : Half
  line : Vector Half 16
  packer : Vector Half 8
  station : Vector Half 30
  deriving DecidableEq, Repr

/-- R169: every notice of every set clear. -/
def Notices.clear : Notices :=
  { global := 0, line := Vector.replicate 16 0, packer := Vector.replicate 8 0,
    station := Vector.replicate 30 0 }

/-! ## The records: Record Store, Packer Queue Controller, and the notices they raise -/

/-- The three tables, the wait list, the packers' lists, the lane map and the event notices. -/
structure Works where
  lots : Vector (Option Lot) 32
  lines : Vector Line 16
  coils : Vector (Option Coil) 96
  waitList : List LineIx
  lanes : Vector (Option PackerIx) 16
  queues : Vector (List CoilKey) 8
  held : Vector (List LineIx) 8
  notices : Notices
  deriving DecidableEq, Repr

/-- R28, R116, R149: the records right after power-on. The lanes before the first load are a
DESIGN CHOICE (entry 1). -/
def Works.reset : Works :=
  { lots := Vector.replicate 32 none, lines := Vector.replicate 16 .reset,
    coils := Vector.replicate 96 none, waitList := [], lanes := Vector.replicate 16 none,
    queues := Vector.replicate 8 [], held := Vector.replicate 8 [], notices := .clear }

/-! ## The Link Engine (8.2, 8.3) -/

inductive Role where
  | line (i : LineIx)
  | packer (p : PackerIx)
  deriving DecidableEq, Repr

inductive Level where
  | one
  | two
  deriving DecidableEq, Repr

/-- The reasons of a REFUSE answer (table 8.1). -/
inductive RefuseReason where
  | notFound
  | notHead
  | wrongState
  | wrongRole
  deriving DecidableEq, Repr

/-- The description of one coil that an answer carries (7.3). -/
structure CoilAnswer where
  key : CoilKey
  state : CoilState
  line : LineIx
  length : Nat
  grade : Grade
  final : Bool
  loose : Bool
  packer : Option PackerIx
  deriving DecidableEq, Repr

/-- An answer block (table 8.1). -/
inductive Answer where
  | spec (revision : Nat) (spec : Spec)
  | coil (answer : CoilAnswer)
  | refuse (reason : RefuseReason)
  deriving DecidableEq, Repr

/-- A station context (8.2). -/
structure Station where
  role : Role
  level : Level
  isolated : Bool
  failures : Nat
  repeatOwed : Bool
  probeDue : Bool
  roundsSinceProbe : Nat
  expected : Option Byte
  last : Option Byte
  pending : Option Answer
  sequenceGaps : Nat
  protocolErrors : Nat
  deriving DecidableEq, Repr

/-- R153: a context as the Link Engine builds it. -/
def Station.start (role : Role) (level : Level) : Station :=
  { role := role, level := level, isolated := false, failures := 0, repeatOwed := false,
    probeDue := false, roundsSinceProbe := 0, expected := none, last := none, pending := none,
    sequenceGaps := 0, protocolErrors := 0 }

/-- How far a round has come (R154): the level-one stations up to this address have had their place,
and whether the level-two slot has been looked at. `late` holds the level-one stations whose probe a
STATION_PROBE made due during this round: their slot is in the next round (R158). -/
structure RoundPosition where
  levelOneAfter : Nat
  levelTwoDone : Bool
  late : List StationIx := []
  deriving DecidableEq, Repr

/-- Where the exchange of a turn stands: a poll is owed (a retry or an extra exchange), a poll is
being sent (LKDE high in READY), or the reply is awaited. -/
inductive Phase where
  | due
  | sending
  | waiting
  deriving DecidableEq, Repr

/-- The turn in progress (R155 to R157). -/
structure Turn where
  station : StationIx
  probe : Bool
  tries : Nat
  extras : Nat
  phase : Phase
  deriving DecidableEq, Repr

/-- The Link Engine. `reception` holds the characters received after the start marker of the frame
in reception (R152); `lastPoll` the bytes of the last poll (the model's own record of LKTX). -/
structure Link where
  stations : Vector (Option Station) 30
  roundCount : Nat
  rotation : Option StationIx
  round : Option RoundPosition
  turn : Option Turn
  reception : Option (List Byte)
  lastPoll : List Byte
  deriving DecidableEq, Repr

/-- The link before any context is built (R153; entry 30). -/
def Link.reset : Link :=
  { stations := Vector.replicate 30 none, roundCount := 0, rotation := none, round := none,
    turn := none, reception := none, lastPoll := [] }

/-! ## The Host Port and the store requests (Chapter 9) -/

/-- The result statuses (R163). -/
inductive Status where
  | ok
  | malformed
  | outOfRange
  | unknownLot
  | unknownCoil
  | lotExists
  | tableFull
  | wrongKind
  | wrongState
  | hasCoils
  | revisionLimit
  | held
  | busy
  deriving DecidableEq, Repr

inductive ReadMode where
  | wrap16
  | run32
  deriving DecidableEq, Repr

/-- The result buffer. The field count is the number of fields; fields beyond it read 0 (R164). -/
structure ResultBuffer where
  status : Status
  aux : Byte
  fields : List Word
  firstField : Nat
  mode : ReadMode
  deriving DecidableEq, Repr

/-- A result of a status alone (R163, R168). Where no rule gives the auxiliary byte (entry 25) or the
first field (entry 26), they are 0. -/
def ResultBuffer.plain (st : Status) : ResultBuffer :=
  { status := st, aux := 0, fields := [], firstField := 0, mode := .run32 }

/-- A transaction in progress: the result buffer as it stood when HSELN fell (R162, R164), and
whether the part has entered LOADING since. -/
structure Transaction where
  latched : ResultBuffer
  discarded : Bool
  deriving DecidableEq, Repr

/-- A byte request to the EEPROM in flight (R167): a read, or a write of a byte. -/
structure StoreRequest where
  address : Nat
  data : Option Byte
  deriving DecidableEq, Repr

/-- The Host Port. `store` is none in IDLE and the request in BUSY; `storeOutcomeWanted` says that
the result buffer still holds the outcome of that request (R167); `hso` is the model's own record of
the bytes HSO sent in the last transaction. -/
structure Port where
  result : ResultBuffer
  transaction : Option Transaction
  inputBuffer : List Byte
  hso : List Byte
  store : Option StoreRequest
  storeOutcomeWanted : Bool
  deriving DecidableEq, Repr

/-- R168: the port on entering LOADING at power-on. -/
def Port.reset : Port :=
  { result := .plain .busy, transaction := none, inputBuffer := [], hso := [], store := none,
    storeOutcomeWanted := false }

/-! ## Settings and part state (Chapter 10) -/

/-- The settings in force that no record holds (table 10.2). -/
structure Settings where
  linkRate : Nat
  replyTimeout : Nat
  retryLimit : Nat
  isolationThreshold : Nat
  roundPeriod : Nat
  slipPermille : Nat
  tableLow : Nat
  enables : Word
  writeOneClears : Bool
  lampCondition : Nat
  lampActiveHigh : Bool
  deriving DecidableEq, Repr

/-- Before the first load: DESIGN CHOICE 0 (entry 1), with the lamp polarity of R171. -/
def Settings.reset : Settings :=
  { linkRate := 0, replyTimeout := 0, retryLimit := 0, isolationThreshold := 0, roundPeriod := 0,
    slipPermille := 0, tableLow := 0, enables := 0, writeOneClears := false, lampCondition := 0,
    lampActiveHigh := false }

inductive PartState where
  | loading
  | ready
  | hold
  deriving DecidableEq, Repr

/-- The state of the part, and the queue of the commands that wait. `eeprom` lists the bytes of the
configuration EEPROM that differ from its blank value, in rising address; `freeIndex` is the model's
own counter of the free values taken (entry 12). -/
structure State where
  pending : List Instr
  partState : PartState
  resumeTimer : Option Nat
  supplyOk : Bool
  timeBase : Nat
  settings : Settings
  works : Works
  link : Link
  port : Port
  eeprom : List Host.Cell
  freeIndex : Nat
  deriving DecidableEq, Repr

/-- The part right after power-on: in LOADING, with its tables empty, every notice clear and the
result buffer BUSY (R168, R169, R174). -/
def State.reset : State :=
  { pending := [], partState := .loading, resumeTimer := none, supplyOk := true, timeBase := 0,
    settings := .reset, works := .reset, link := .reset, port := .reset, eeprom := [],
    freeIndex := 0 }

end Sys2Proof.Machine
end

