-- ==== Sys2Proof/Machine/Ops.lean ====
section
/-! DEFINITION. The named operations on the tables, the lists and the EEPROM: what the units' rules
are written with. -/

namespace Sys2Proof.Machine

/-! ## Tables -/

/-- Every entry of a table changed by one function. -/
def mapTable {α β : Type} {n : Nat} (f : α → β) (v : Vector α n) : Vector β n :=
  ⟨⟨v.toList.map f⟩, by simp⟩

/-- A table from its entries. -/
def tableOf {α : Type} {n : Nat} (f : Fin n → α) : Vector α n := ⟨⟨List.ofFn f⟩, by simp⟩

/-- R1: the free entry with the lowest entry index. -/
def lowestFree {α : Type} {n : Nat} (v : Vector (Option α) n) : Option (Fin n) :=
  (List.finRange n).find? fun i => v[i].isNone

/-- The records in use, in table order. -/
def inUse {α : Type} {n : Nat} (v : Vector (Option α) n) : List α := v.toList.filterMap id

/-! ## The EEPROM (R167, R172) -/

/-- What an EEPROM byte address holds; an unlisted one is blank (entry 3). -/
def Memory.read : List Host.Cell → Nat → Byte
  | [], _ => Config.eepromBlank
  | c :: m, a => if c.1 = a then c.2 else Memory.read m a

/-- Writes one byte, keeping the list in rising address with no blank cell listed. -/
def Memory.write : List Host.Cell → Nat → Byte → List Host.Cell
  | [], a, b => if b = Config.eepromBlank then [] else [(a, b)]
  | c :: m, a, b =>
    if a < c.1 then (if b = Config.eepromBlank then c :: m else (a, b) :: c :: m)
    else if a = c.1 then (if b = Config.eepromBlank then m else (a, b) :: m)
    else c :: Memory.write m a b

/-- The canonical form: addresses strictly rising, no blank cell listed. -/
def Memory.wf : List Host.Cell → Bool
  | [] => true
  | c :: m =>
    decide (c.2 ≠ Config.eepromBlank) && m.all (fun d => decide (c.1 < d.1)) && Memory.wf m

/-! ## Lots -/

/-- R1: the record of a lot number. -/
def Works.lot? (w : Works) (n : Nat) : Option Lot :=
  (inUse w.lots).find? fun l => decide (l.number = n)

/-- Changes the record of a lot number. -/
def Works.modifyLot (w : Works) (n : Nat) (f : Lot → Lot) : Works :=
  { w with lots := mapTable (Option.map fun l => if l.number = n then f l else l) w.lots }

/-- Frees the entry of a lot number (R8). -/
def Works.removeLot (w : Works) (n : Nat) : Works :=
  { w with lots := mapTable (fun e => e.filter fun l => decide (l.number ≠ n)) w.lots }

/-! ## Lines -/

/-- A line record. -/
def Works.line (w : Works) (i : LineIx) : Line := w.lines[i]

/-- Changes a line record. -/
def Works.modifyLine (w : Works) (i : LineIx) (f : Line → Line) : Works :=
  { w with lines := w.lines.set i (f w.lines[i]) }

/-- R7, R9: the running set of a lot, the lines whose current lot it is. -/
def Works.runningSet (w : Works) (n : Nat) : List LineIx :=
  (List.finRange 16).filter fun i => decide ((w.line i).lot = some n)

/-- R117: the standing order follows from the run state, the cut state and the overlength halt. -/
def Line.order (l : Line) : Order :=
  match l.state with
  | .idle => .halt
  | .primed => .run
  | .starved => .halt
  | .releasing => .cut
  | .running =>
    match l.cut with
    | .noCut => .run
    | .ordered => .cut
    | .held => if l.halted then .halt else .run

/-- R117: the remaining of a CUT order, against the run position now held; 0 for RUN and HALT. -/
def Line.remaining (l : Line) : Nat :=
  match l.order with
  | .cut => l.cutPoint - l.position
  | .run => 0
  | .halt => 0

/-- R16, R87, R159: a counter that stops at 65,535. -/
def countUp (n more : Nat) : Nat := min Config.counterLimit (n + more)

/-! ## Coils -/

/-- R1: the record of a coil key. -/
def Works.coil? (w : Works) (k : CoilKey) : Option Coil :=
  (inUse w.coils).find? fun c => decide (c.key = k)

/-- Changes the record of a coil key. -/
def Works.modifyCoil (w : Works) (k : CoilKey) (f : Coil → Coil) : Works :=
  { w with coils := mapTable (Option.map fun c => if c.key = k then f c else c) w.coils }

/-- Takes the record of a coil key out of the table: its entry is free (R23, R24). -/
def Works.removeCoil (w : Works) (k : CoilKey) : Works :=
  { w with coils := mapTable (fun e => e.filter fun c => decide (c.key ≠ k)) w.coils }

/-- The current coil of a line. -/
def Works.currentCoil? (w : Works) (i : LineIx) : Option Coil := (w.line i).coil.bind w.coil?

/-- R21: the run position a coil reaches to: its end, or its line's run position while it has none.
-/
def Works.coilEnd (w : Works) (c : Coil) : Nat := c.stop.getD (w.line c.line).position

/-- R21: a coil's length. -/
def Works.coilLength (w : Works) (c : Coil) : Nat := w.coilEnd c - c.start

/-- R2: the free coil entry count, the number of coil entries not in use. -/
def Works.freeCoils (w : Works) : Nat := (w.coils.toList.filter Option.isNone).length

/-- R9: coils held, the number of coil records of the lot in the coil table. -/
def Works.coilsHeld (w : Works) (n : Nat) : Nat :=
  ((inUse w.coils).filter fun c => decide (c.key.lot = n)).length

/-! ## Packers (7.2) -/

/-- R139: the lines that hold a reservation at a packer: their cut is ordered with that packer. -/
def Works.reservations (w : Works) (p : PackerIx) : List LineIx :=
  (List.finRange 16).filter fun i =>
    decide ((w.line i).cut = .ordered) && decide ((w.line i).reserved = some p)

/-- 7.2: the places in use at a packer. -/
def Works.placesInUse (w : Works) (p : PackerIx) : Nat :=
  w.queues[p].length + (w.reservations p).length

/-- R139: whether a request for a place at a packer is granted. -/
def Works.placeFree (w : Works) (p : PackerIx) : Bool :=
  decide (w.placesInUse p < Config.packerPlaces)

/-- R138: a coil joins the tail of a packer's queue. -/
def Works.joinQueue (w : Works) (p : PackerIx) (k : CoilKey) : Works :=
  { w with queues := w.queues.set p (w.queues[p] ++ [k]) }

/-- R138: a coil leaves a packer's queue, and the coils behind it move up. -/
def Works.leaveQueue (w : Works) (p : PackerIx) (k : CoilKey) : Works :=
  { w with queues := w.queues.set p (w.queues[p].filter fun k' => decide (k' ≠ k)) }

/-- R140: a line joins the tail of a packer's held list. -/
def Works.joinHeld (w : Works) (p : PackerIx) (i : LineIx) : Works :=
  { w with held := w.held.set p (w.held[p] ++ [i]) }

/-- R140: a line leaves a packer's held list, wherever it stands. -/
def Works.leaveHeld (w : Works) (p : PackerIx) (i : LineIx) : Works :=
  { w with held := w.held.set p (w.held[p].filter fun j => decide (j ≠ i)) }

/-- R25: a line leaves the coil wait list. -/
def Works.leaveWait (w : Works) (i : LineIx) : Works :=
  { w with waitList := w.waitList.filter fun j => decide (j ≠ i) }

/-! ## Event notices (R169) -/

/-- Raises a global event notice. -/
def Works.raiseGlobal (w : Works) (bits : Half) : Works :=
  { w with notices := { w.notices with global := w.notices.global ||| bits } }

/-- Raises an event notice of a line. -/
def Works.raiseLine (w : Works) (i : LineIx) (bits : Half) : Works :=
  { w with notices :=
    { w.notices with line := w.notices.line.set i (w.notices.line[i] ||| bits) } }

/-- Raises an event notice of a packer. -/
def Works.raisePacker (w : Works) (p : PackerIx) (bits : Half) : Works :=
  { w with notices :=
    { w.notices with packer := w.notices.packer.set p (w.notices.packer[p] ||| bits) } }

/-- Raises an event notice of a station. -/
def Works.raiseStation (w : Works) (d : StationIx) (bits : Half) : Works :=
  { w with notices :=
    { w.notices with station := w.notices.station.set d (w.notices.station[d] ||| bits) } }

/-! ## Bits of the notice sets (table 10.1) -/

namespace Bit
def loadErr : Half := 0x1
def supplyHold : Half := 0x2
def tableLow : Half := 0x4
def countSaturated : Half := 0x8
def suspended : Half := 0x1
def starved : Half := 0x2
def cutHeld : Half := 0x4
def halted : Half := 0x8
def zoneOpened : Half := 0x10
def resync : Half := 0x20
def slip : Half := 0x40
def cutIgnored : Half := 0x80
def coilClosed : Half := 0x100
def wheelsDefaulted : Half := 0x200
def queueFull : Half := 0x1
def coilSealed : Half := 0x2
def refusedTake : Half := 0x4
def isolated : Half := 0x1
def reinstated : Half := 0x2
def seqGap : Half := 0x4
def protocol : Half := 0x8
end Bit

/-! ## Lot totals (R9) -/

/-- R9: a length total with an addition, held at the 48-bit limit. -/
def addLength (total more : Nat) : Nat := min Config.positionLimit (total + more)

/-- R9, R39: whether an addition would carry a length past the limit. -/
def passesLimit (total more : Nat) : Bool := decide (Config.positionLimit < total + more)

/-- Raises COUNT_SATURATED when it is due. -/
def Works.raiseSaturated (w : Works) (due : Bool) : Works :=
  if due then w.raiseGlobal Bit.countSaturated else w

/-- R9: adds to a lot's produced length. -/
def Works.addProduced (w : Works) (n more : Nat) : Works :=
  (w.modifyLot n fun l => { l with produced := addLength l.produced more }).raiseSaturated
    ((w.lot? n).any fun l => passesLimit l.produced more)

/-- R9: adds to a lot's unassigned length. -/
def Works.addUnassigned (w : Works) (n more : Nat) : Works :=
  (w.modifyLot n fun l => { l with unassigned := addLength l.unassigned more }).raiseSaturated
    ((w.lot? n).any fun l => passesLimit l.unassigned more)

/-- R9, R24: adds to a lot's retired length. -/
def Works.addRetired (w : Works) (n more : Nat) : Works :=
  (w.modifyLot n fun l => { l with retired := addLength l.retired more }).raiseSaturated
    ((w.lot? n).any fun l => passesLimit l.retired more)

/-- R7: a CLOSING lot whose running set is empty becomes CLOSED. -/
def Works.closeIfEmpty (w : Works) (n : Nat) : Works :=
  if (w.runningSet n).isEmpty then
    w.modifyLot n fun l => { l with state := (match l.state with | .closing => .closed | st => st) }
  else w

/-- R13, R116: the IDLE values of a line. Its position, remainder, baselines, monitors, slip
detector, active copy and counters stay as they stood (R13, R31, R129). -/
def Line.toIdle (l : Line) : Line :=
  { l with
    state := .idle, suspended := false, lot := none, revision := 0, amendPending := false,
    coil := none, cut := .noCut, reserved := none, cutPoint := 0, halted := false, starve := none,
    jointClose := none }

/-- R7, R13: a line becomes IDLE and leaves its lot's running set. -/
def Works.freeLine (w : Works) (i : LineIx) : Works :=
  let w' := w.modifyLine i Line.toIdle
  match (w.line i).lot with
  | none => w'
  | some n => w'.closeIfEmpty n

end Sys2Proof.Machine
end

