-- ==== Sys2Proof/Machine/Image.lean ====
section
/-! DEFINITION. The settings image: judged, clamped and taken, or replaced by the defaults image
(R172, R173); the wheel pairs (R32, R33). -/

namespace Sys2Proof.Machine

/-- A line's entry of the settings image (table 10.2). -/
structure LineEntry where
  kind : LineKind
  address : Nat
  level : Level
  wheelA : Nat
  wheelB : Nat
  measure : MeasureSource
  check : CheckSource
  deriving DecidableEq, Repr

/-- A packer's entry; address 0 is absent. -/
structure PackerEntry where
  address : Nat
  level : Level
  deriving DecidableEq, Repr

/-- The values of a settings image, each within its range. -/
structure Image where
  lines : Vector LineEntry 16
  packers : Vector PackerEntry 8
  lanes : Vector (Option PackerIx) 16
  settings : Settings
  deriving DecidableEq, Repr

/-! ## An accepted image (R173) -/

/-- R173: a value outside its range is clamped to the nearer limit. -/
def clamp (lo hi v : Nat) : Nat := max lo (min hi v)

/-- R173: a kind above 2 becomes KNOT. -/
def kindOf (v : Nat) : LineKind :=
  match v with
  | 0 => .unused
  | 1 => .twist
  | _ => .knot

/-- The level codes 1-2, clamped. -/
def levelOf (v : Nat) : Level := if v ≤ 1 then .one else .two

/-- R173: a measure source of 0 becomes A, one above 3 ROWS. -/
def measureOf (v : Nat) : MeasureSource :=
  match v with
  | 0 | 1 => .wheelA
  | 2 => .wheelB
  | _ => .rows

/-- R173: a check source above 2 becomes B. -/
def checkOf (v : Nat) : CheckSource :=
  match v with
  | 0 => .off
  | 1 => .wheelA
  | _ => .wheelB

/-- R173: a lane from 8 to 254 becomes 7; 255 is NONE. -/
def laneOf (v : Nat) : Option PackerIx :=
  if v = 255 then none else some (Fin.ofNat 8 (min v 7))

/-- The entry of a line at byte 3 + 9i. -/
def lineEntryOf (img : List Byte) (i : LineIx) : LineEntry :=
  let at0 := 3 + 9 * i.val
  { kind := kindOf (bytesAt img at0 1), address := clamp 1 30 (bytesAt img (at0 + 1) 1),
    level := levelOf (bytesAt img (at0 + 2) 1), wheelA := clamp 100 65535 (bytesAt img (at0 + 3) 2),
    wheelB := clamp 100 65535 (bytesAt img (at0 + 5) 2),
    measure := measureOf (bytesAt img (at0 + 7) 1), check := checkOf (bytesAt img (at0 + 8) 1) }

/-- The entry of a packer at byte 147 + 2p. -/
def packerEntryOf (img : List Byte) (p : PackerIx) : PackerEntry :=
  { address := clamp 0 30 (bytesAt img (147 + 2 * p.val) 1),
    level := levelOf (bytesAt img (148 + 2 * p.val) 1) }

/-- The settings at bytes 179-193. -/
def settingsOf (img : List Byte) : Settings :=
  { linkRate := clamp 0 3 (bytesAt img 179 1), replyTimeout := clamp 1 255 (bytesAt img 180 1),
    retryLimit := clamp 0 3 (bytesAt img 181 1),
    isolationThreshold := clamp 0 15 (bytesAt img 182 1),
    roundPeriod := clamp 1 255 (bytesAt img 183 1), slipPermille := clamp 5 500 (bytesAt img 184 2),
    tableLow := clamp 0 95 (bytesAt img 186 1), enables := BitVec.ofNat 32 (bytesAt img 187 4),
    writeOneClears := decide (1 ≤ bytesAt img 191 1), lampCondition := clamp 0 5 (bytesAt img 192 1),
    lampActiveHigh := decide (1 ≤ bytesAt img 193 1) }

/-- R173: an accepted image, taken value by value. -/
def imageOf (img : List Byte) : Image :=
  { lines := tableOf (lineEntryOf img), packers := tableOf (packerEntryOf img),
    lanes := tableOf fun i => laneOf (bytesAt img (163 + i.val) 1), settings := settingsOf img }

/-! ## Rejection and the defaults image (R172) -/

/-- Bytes 0-194 of the EEPROM. -/
def imageBytes (m : List Host.Cell) : List Byte :=
  (List.range Config.imageSize).map (Memory.read m)

/-- R172: whether an image that was read in full is good: signature, size and check sum. -/
def imageGood (img : List Byte) : Bool :=
  decide (bytesAt img 0 2 = 0x5A62) && decide (bytesAt img 2 1 = Config.imageSize) &&
  decide ((img.map BitVec.toNat).sum % 256 = 0)

/-- R172: the defaults image. -/
def Image.defaults : Image :=
  { lines := tableOf fun i =>
      { kind := .twist, address := i.val + 1, level := .one, wheelA := 1000, wheelB := 1000,
        measure := .wheelA, check := .off },
    packers := tableOf fun p => { address := 17 + p.val, level := .two },
    lanes := tableOf fun i => some (Fin.ofNat 8 (i.val % 8)),
    settings :=
      { linkRate := 2, replyTimeout := 50, retryLimit := 2, isolationThreshold := 8,
        roundPeriod := 10, slipPermille := 50, tableLow := 8, enables := 0xFFFFFFFF,
        writeOneClears := false, lampCondition := 0, lampActiveHigh := false } }

/-- R172: the image taken, and whether it was rejected. -/
def judgeImage (acknowledged : Bool) (m : List Host.Cell) : Image × Bool :=
  if acknowledged && imageGood (imageBytes m) then (imageOf (imageBytes m), false)
  else (Image.defaults, true)

/-! ## Placing the stations (R173) -/

/-- The station of a link address, 1-30. -/
def stationOf (address : Nat) : Option StationIx :=
  if h : 1 ≤ address ∧ address ≤ 30 then some ⟨address - 1, by omega⟩ else none

/-- R173: an entry places its station unless an earlier entry holds its address. -/
def placeStation (acc : Vector (Option Station) 30) (address : Nat) (role : Role) (level : Level) :
    Vector (Option Station) 30 :=
  match stationOf address with
  | none => acc
  | some d => if acc[d].isSome then acc else acc.set d (some (Station.start role level))

/-- R153, R173: the contexts, placed in entry order: lines 0 to 15, then packers 0 to 7. -/
def Image.stations (img : Image) : Vector (Option Station) 30 :=
  let lined := (List.finRange 16).foldl (fun acc i =>
    let e := img.lines[i]
    if e.kind = .unused then acc else placeStation acc e.address (.line i) e.level)
    (Vector.replicate 30 none)
  (List.finRange 8).foldl (fun acc p =>
    let e := img.packers[p]
    placeStation acc e.address (.packer p) e.level) lined

/-- R173: whether a line's entry placed its station; one that did not is treated as absent. -/
def Image.linePlaced (img : Image) (i : LineIx) : Bool :=
  match stationOf img.lines[i].address with
  | none => false
  | some d => img.stations[d].any fun st => decide (st.role = .line i)

/-- R173: the kind a line comes up with: UNUSED when its entry is treated as absent. -/
def Image.lineKind (img : Image) (i : LineIx) : LineKind :=
  if img.linePlaced i then img.lines[i].kind else .unused

/-! ## Wheel pairs (R32, R33) -/

/-- R32: whether a pair of sources is in conflict on a line of a kind; UNUSED holds any pair. -/
def pairConflicts (kind : LineKind) (m : MeasureSource) (c : CheckSource) : Bool :=
  match kind with
  | .unused => false
  | .knot => decide (m ≠ .rows)
  | .twist =>
    decide (m = .rows) || (decide (m = .wheelA) && decide (c = .wheelA)) ||
    (decide (m = .wheelB) && decide (c = .wheelB))

/-- R32: the kind defaults. -/
def kindDefaults : LineKind → MeasureSource × CheckSource
  | .knot => (.rows, .off)
  | .twist | .unused => (.wheelA, .wheelB)

/-- R32: the pair that is placed in the record of a line of a kind. -/
def judgedPair (kind : LineKind) (m : MeasureSource) (c : CheckSource) :
    MeasureSource × CheckSource :=
  if pairConflicts kind m c then kindDefaults kind else (m, c)

/-! ## The records as loaded (R12, R28, R33, R136) -/

/-- R12, R28: a line record as the load leaves it. -/
def Image.lineRecord (img : Image) (i : LineIx) : Line :=
  let e := img.lines[i]
  let kind := img.lineKind i
  let pair := judgedPair kind e.measure e.check
  { Line.reset with
    kind := kind, address := e.address, wheelA := e.wheelA, wheelB := e.wheelB,
    measure := pair.1, check := pair.2 }

/-- R33: the lines whose pair conflicts. -/
def Image.conflicts (img : Image) : List LineIx :=
  (List.finRange 16).filter fun i =>
    pairConflicts (img.lineKind i) img.lines[i].measure img.lines[i].check

end Sys2Proof.Machine
end

