-- ==== Sys2Proof/Machine/Grade.lean ====
section
/-! DEFINITION. The Grade Unit: zones, joints, reasons and the grade (Chapter 5). -/

namespace Sys2Proof.Machine

/-! ## The grade (5.6) -/

/-- 5.1: a zone's length; an open zone reaches to the coil's present length. -/
def Zone.length (z : Zone) (coilLength : Nat) : Nat := z.stop.getD coilLength - z.start

/-- R111: the zone share in permille; 0 for a coil of length 0. -/
def zoneShare (zones : List Zone) (coilLength : Nat) : Nat :=
  min 1000 ((zones.map fun z => z.length coilLength).sum * 1000 / coilLength)

/-- R112: the grade of a coil of the given length. -/
def Coil.gradeAt (c : Coil) (length : Nat) : Grade :=
  if c.reasons.contains .zoneOverflow || c.reasons.contains .jointsOver ||
      c.reasons.contains .short || c.reasons.contains .density ||
      decide (c.limits.rejectShare < zoneShare c.zones length) then .reject
  else if c.reasons.contains .zones || c.reasons.contains .lengthUncertain ||
      c.reasons.contains .overlength || c.reasons.contains .unplannedCut then .second
  else .first

/-- R112, R114: the grade recomputed; a final grade is not. -/
def Coil.regraded (c : Coil) (length : Nat) : Coil :=
  if c.final then c else { c with grade := c.gradeAt length }

/-- R110: a reason joins the set, which holds each reason at most once. -/
def Coil.withReason (c : Coil) (r : Reason) : Coil :=
  if c.reasons.contains r then c else { c with reasons := c.reasons ++ [r] }

/-- R112: recomputes the grade of a coil. -/
def Works.regrade (w : Works) (k : CoilKey) : Works :=
  w.modifyCoil k fun c => c.regraded (w.coilLength c)

/-- R110: a reason joins a coil's set and the grade is recomputed; one already there changes
nothing. -/
def Works.gainReason (w : Works) (k : CoilKey) (r : Reason) : Works :=
  w.modifyCoil k fun c =>
    if c.reasons.contains r then c else (c.withReason r).regraded (w.coilLength c)

/-! ## Zones (5.2) -/

/-- An open listed zone of a cause. -/
def Zone.openOf (z : Zone) (q : Cause) : Bool := decide (z.cause = q) && z.stop.isNone

/-- R101: the coil's open listed zone of a cause. -/
def Coil.openZone? (c : Coil) (q : Cause) : Option Zone := c.zones.find? fun z => z.openOf q

/-- R101 step 1: whether an open request of a cause is a duplicate. -/
def Coil.hasOpen (c : Coil) (q : Cause) : Bool :=
  (c.openZone? q).isSome || c.unlistedOpen.contains q

/-- R101 step 2: the start, raised to the latest end among the closed listed zones of the cause. -/
def Coil.zoneStart (c : Coil) (q : Cause) (pos : Nat) : Nat :=
  (c.zones.filter fun z => decide (z.cause = q)).foldl (fun m z => max m (z.stop.getD 0)) pos

/-- R101 step 4: after every zone whose start is at or before its own, before every later one. -/
def insertZone (z : Zone) : List Zone → List Zone
  | [] => [z]
  | y :: ys => if y.start ≤ z.start then y :: insertZone z ys else z :: y :: ys

/-- R101 steps 3 and 4, R107: a zone is listed, or counted unlisted when the list is full. -/
def Coil.placeZone (c : Coil) (z : Zone) : Coil :=
  if Config.zoneLimit ≤ c.zones.length then
    { c with unlisted := min Config.byteLimit (c.unlisted + 1) }.withReason .zoneOverflow
  else { c with zones := insertZone z c.zones }.withReason .zones

/-- R101: an open request that is no duplicate. -/
def Coil.openZone (c : Coil) (q : Cause) (pos : Nat) (extreme : Int) : Coil :=
  let c' := c.placeZone
    { cause := q, start := c.zoneStart q pos, stop := none, extreme := extreme }
  if Config.zoneLimit ≤ c.zones.length then { c' with unlistedOpen := c'.unlistedOpen ++ [q] }
  else c'

/-- R102: a close request of a cause at a coil-local position. -/
def Coil.closeZone (c : Coil) (q : Cause) (pos length : Nat) : Coil :=
  if (c.openZone? q).isSome then
    Coil.regraded
      { c with
        zones := c.zones.map fun z =>
          if z.openOf q then { z with stop := some (max pos z.start) } else z } length
  else { c with unlistedOpen := c.unlistedOpen.filter fun q' => decide (q' ≠ q) }

/-- R101: an open request for a coil, at a coil-local position. `notify` is off for the carried
zones of a boundary (R109). -/
def Works.openZone (w : Works) (k : CoilKey) (q : Cause) (pos : Nat) (extreme : Int)
    (notify : Bool) : Works :=
  match w.coil? k with
  | none => w
  | some c =>
    if c.hasOpen q then w
    else
      let w' := w.modifyCoil k fun c => (c.openZone q pos extreme).regraded (w.coilLength c)
      if notify then w'.raiseLine c.line Bit.zoneOpened else w'

/-- R16, R100: the line's unrecorded defects counter rises. -/
def Works.countUnrecorded (w : Works) (i : LineIx) (n : Nat) : Works :=
  w.modifyLine i fun l => { l with unrecorded := countUp l.unrecorded n }

/-- R100, R101: an open request of a line at a run position. -/
def Works.requestOpen (w : Works) (i : LineIx) (q : Cause) (pos : Nat) (extreme : Int) : Works :=
  match w.currentCoil? i with
  | none => w.countUnrecorded i 1
  | some c => w.openZone c.key q (pos - c.start) extreme true

/-- R100, R102: a close request of a line at a run position; without a coil it is dropped. -/
def Works.requestClose (w : Works) (i : LineIx) (q : Cause) (pos : Nat) : Works :=
  match w.currentCoil? i with
  | none => w
  | some c => w.modifyCoil c.key fun c => c.closeZone q (pos - c.start) (w.coilLength c)

/-- R103: TWIST and KNOT replace the extreme value, SLIP raises it. -/
def raisedExtreme (q : Cause) (old new : Int) : Int :=
  match q with
  | .slip => max old new
  | .twist | .knot | .joint | .operator => new

/-- R103: an extreme raise of a line. -/
def Works.raiseExtreme (w : Works) (i : LineIx) (q : Cause) (extreme : Int) : Works :=
  match w.currentCoil? i with
  | none => w
  | some c => w.modifyCoil c.key fun c =>
    { c with
      zones := c.zones.map fun z =>
        if z.openOf q then { z with extreme := raisedExtreme q z.extreme extreme } else z }

/-! ## Joints and operator marks (5.3, 5.4) -/

/-- R105: the pending joint close, when the run position has reached it. -/
def Works.closeJoint (w : Works) (i : LineIx) : Works :=
  match (w.line i).jointClose with
  | none => w
  | some p =>
    if p ≤ (w.line i).position then
      (w.requestClose i .joint p).modifyLine i fun l => { l with jointClose := none }
    else w

/-- R104: the joint is counted, and judged against the coil's maximum. -/
def Coil.countJoint (c : Coil) : Coil :=
  let n := min Config.byteLimit (c.joints + 1)
  if c.limits.maxJoints < n then { c with joints := n }.withReason .jointsOver
  else { c with joints := n }

/-- R104: a joint while a JOINT zone is open joins it. -/
def Coil.mergeJoint (c : Coil) : Coil :=
  { c with
    zones := c.zones.map fun z =>
      if z.openOf .joint then { z with extreme := z.extreme + 1 } else z }

/-- R104: a MARK of kind JOINT at a resolved run position. -/
def Works.markJoint (w : Works) (i : LineIx) (pos : Nat) : Works :=
  match w.currentCoil? i with
  | none => w.countUnrecorded i 1
  | some c =>
    let m := (w.line i).spec.jointMargin
    let counted := w.modifyCoil c.key Coil.countJoint
    let marked :=
      if c.hasOpen .joint then
        (counted.modifyCoil c.key Coil.mergeJoint).modifyLine i fun l =>
          { l with jointClose := some (max (l.jointClose.getD 0) (pos + m)) }
      else
        (counted.openZone c.key .joint (pos - c.start - m) 1 true).modifyLine i fun l =>
          { l with jointClose := some (pos + m) }
    (marked.regrade c.key).closeJoint i

/-- R107: whether a stretch overlaps a listed OPERATOR zone; an open one is taken to end at the
coil's present length. -/
def Coil.overlapsOperator (c : Coil) (start stop length : Nat) : Bool :=
  c.zones.any fun z =>
    decide (z.cause = .operator) && decide (start < z.stop.getD length) && decide (z.start < stop)

/-- R107: the closed OPERATOR zone of a COIL_MARK is placed. -/
def Works.placeOperator (w : Works) (k : CoilKey) (start stop : Nat) : Works :=
  w.modifyCoil k fun c =>
    (c.placeZone { cause := .operator, start := start, stop := some stop, extreme := 0 }).regraded
      (w.coilLength c)

/-! ## A coil boundary (5.5) -/

/-- R74, R94, R108: whether a cause's condition continues past the cut. -/
def Line.continues (l : Line) : Cause → Bool
  | .twist => decide (l.twist.band = .out) || decide (l.twist.band = .recovering)
  | .knot => l.knot.faulted
  | .slip => l.slip.slipping
  | .joint => l.jointClose.isSome
  | .operator => false

/-- R108 step 2: the extreme value a cause carries, given its open listed zone if it has one. -/
def Line.carriedExtreme (l : Line) (q : Cause) (listed : Option Zone) : Int :=
  match q with
  | .twist => l.twist.extreme
  | .knot => l.knot.extreme
  | .slip => (listed.map fun z => z.extreme).getD 0
  | .joint => (listed.map fun z => z.extreme).getD 1
  | .operator => 0

/-- R108 steps 1 and 2, R109: the carry set in the order its zones open in the next coil: the
order of the ending coil's list, then the unlisted ones in the order TWIST, KNOT, SLIP, JOINT. -/
def carrySet (l : Line) (c : Coil) : List (Cause × Int) :=
  let listed := (c.zones.filter fun z => z.stop.isNone && l.continues z.cause).map fun z => z.cause
  let rest := [Cause.twist, .knot, .slip, .joint].filter fun q =>
    l.continues q && !listed.contains q
  (listed ++ rest).map fun q => (q, l.carriedExtreme q (c.openZone? q))

/-- R108 step 3: every open listed zone closes at the coil's end, and the unlisted open causes are
emptied. A close never sets an end before the zone's start (R102), and a zone already closed keeps
its end, even beyond the coil's end (entry 15). -/
def Coil.closeAll (c : Coil) (length : Nat) : Coil :=
  { c with
    zones := c.zones.map (fun z =>
      if z.stop.isNone then { z with stop := some (max length z.start) } else z),
    unlistedOpen := [] }

/-- R109: the carried zones open at coil-local 0 of the next coil, without a notice. -/
def Works.openCarried (w : Works) (k : CoilKey) (carry : List (Cause × Int)) : Works :=
  carry.foldl (fun w q => w.openZone k q.1 0 q.2 false) w

/-- R113: SHORT joins the set of a coil that ends shorter than its minimum sound length. -/
def Coil.judgeShort (c : Coil) (length : Nat) : Coil :=
  if length < c.limits.minSound then c.withReason .short else c

/-- R114: the grade is recomputed and made final. -/
def Works.makeFinal (w : Works) (k : CoilKey) : Works :=
  w.modifyCoil k fun c => { c.regraded (w.coilLength c) with final := true }

/-- R75, R95, R109: the zones asked for when a line that had starved receives a coil. -/
def Works.reopenZones (w : Works) (i : LineIx) (pos : Nat) : Works :=
  let l := w.line i
  let w1 := if l.continues .twist then w.requestOpen i .twist pos l.twist.extreme else w
  let w2 := if l.continues .knot then w1.requestOpen i .knot pos l.knot.extreme else w1
  if l.continues .slip then w2.requestOpen i .slip pos 0 else w2

end Sys2Proof.Machine
end

