-- ==== Sys2Proof/Machine/Cuts.lean ====
section
/-! DEFINITION. The Record Store's coil openings and hand-out (1.6, 1.7), the Cut Controller
(Chapter 6) and the Packer Queue Controller's places (7.2). -/

namespace Sys2Proof.Machine

/-! ## Cut orders (6.3) -/

/-- R121: the overlength test of a HELD line. -/
def Works.overlengthTest (w : Works) (i : LineIx) : Works :=
  let l := w.line i
  match w.currentCoil? i with
  | none => w
  | some c =>
    if l.cut = .held ∧ l.halted = false ∧ c.start + l.spec.target + l.spec.allowance ≤ l.position then
      (w.modifyLine i fun l => { l with halted := true }).gainReason c.key .overlength
    else w

/-- R119: the cut of a coil that starts at `start` is ordered, with the place reserved for it if
there is one. -/
def Works.orderCut (w : Works) (i : LineIx) (reserved : Option PackerIx) (start : Nat) : Works :=
  w.modifyLine i fun l =>
    { l with
      cut := .ordered, reserved := reserved, cutPoint := start + l.spec.target, halted := false }

/-- R119, R140: a refused request is HELD for the packer, at the tail of its held list. -/
def Works.holdCut (w : Works) (i : LineIx) (p : PackerIx) : Works :=
  ((w.modifyLine i fun l => { l with cut := .held, reserved := some p }).joinHeld p i).overlengthTest
    i

/-- R119: to order a planned cut, the line's lane is asked for a place. -/
def Works.requestCut (w : Works) (i : LineIx) (start : Nat) : Works :=
  match w.lanes[i] with
  | none => w.orderCut i none start
  | some p => if w.placeFree p then w.orderCut i (some p) start else w.holdCut i p

/-- R118: the order point of a coil: its target less the lead, clamped to the target. -/
def orderPoint (start : Nat) (sp : Spec) : Nat := start + (sp.target - min sp.cutLead sp.target)

/-- R118: the planned-cut test. -/
def Works.plannedCutTest (w : Works) (i : LineIx) : Works :=
  let l := w.line i
  match l.state, w.currentCoil? i with
  | .running, some c =>
    match l.cut with
    | .ordered => w
    | .held => w.overlengthTest i
    | .noCut => if orderPoint c.start l.spec ≤ l.position then w.requestCut i c.start else w
  | _, _ => w

/-- R120: a granted place makes a HELD cut ORDERED. -/
def Works.grant (w : Works) (i : LineIx) (p : PackerIx) : Works :=
  w.orderCut i (some p) (((w.currentCoil? i).map fun c => c.start).getD 0)

/-- R141: a place that has freed at a packer is granted to the head of its held list, if any. -/
def Works.placeFreed (w : Works) (p : PackerIx) : Works :=
  match w.held[p] with
  | [] => w
  | i :: rest => { w with held := w.held.set p rest }.grant i p

/-- R120, R122, R130: a HELD wait is withdrawn without a grant; another cut state stands. -/
def Works.withdraw (w : Works) (i : LineIx) : Works :=
  let l := w.line i
  match l.cut, l.reserved with
  | .held, some p =>
    (w.leaveHeld p i).modifyLine i fun l =>
      { l with cut := .noCut, reserved := none, halted := false }
  | _, _ => w

/-! ## Opening a coil (R20, R99) -/

/-- R99: the grade limits of a specification. -/
def Spec.limits (sp : Spec) : GradeLimits :=
  { maxJoints := sp.maxJoints, minSound := sp.minSound, rejectShare := sp.rejectShare,
    densityNominal := sp.densityNominal, densityTolerance := sp.densityTolerance }

/-- R20: a coil as it opens. -/
def Coil.opening (k : CoilKey) (i : LineIx) (l : Line) (pos : Nat) : Coil :=
  { key := k, state := .opened, line := i, packer := none, revision := l.revision, start := pos,
    stop := none, joints := 0, zones := [], unlisted := 0, unlistedOpen := [], faultRows := 0,
    missedKnots := 0, excessKnots := 0, slipTallies := 0, weight := none, density := none,
    reasons := [], grade := .first, final := false, limits := l.spec.limits }

/-- R20: a coil opens for a line at a position in the lowest free entry and becomes its current
coil, or the request is answered SEQ_EXHAUSTED or NO_ENTRY and nothing opens. -/
def Works.openCoil (w : Works) (i : LineIx) (pos : Nat) : Except StarveReason Works :=
  match (w.line i).lot.bind w.lot? with
  | none => .error .seqExhausted
  | some lot =>
    if Config.sequenceExhausted ≤ lot.nextSequence then .error .seqExhausted
    else
      match lowestFree w.coils with
      | none => .error .noEntry
      | some e =>
        let k : CoilKey := { lot := lot.number, sequence := lot.nextSequence }
        .ok ((({ w with coils := w.coils.set e (some (Coil.opening k i (w.line i) pos)) }).modifyLot
            lot.number fun t => { t with nextSequence := t.nextSequence + 1 }).modifyLine i
          fun l => { l with coil := some k })

/-! ## The coil wait list (R25, R26) -/

/-- R26: a served line runs again, and the monitors and the Cut Controller deal with its coil. -/
def Works.resumeServed (w : Works) (i : LineIx) : Works :=
  let w' := w.modifyLine i fun l => { l with state := .running, starve := none }
  (w'.reopenZones i (w'.line i).position).plannedCutTest i

/-- R26: the lines of the wait list are served from the head until one takes the freed entry. -/
def Works.serve : List LineIx → Works → Works
  | [], w => w
  | i :: rest, w =>
    match w.openCoil i (w.line i).position with
    | .ok w' => { w' with waitList := rest }.resumeServed i
    | .error .noEntry => w
    | .error .seqExhausted =>
      Works.serve rest
        ({ w with waitList := rest }.modifyLine i fun l => { l with starve := some .seqExhausted })

/-- R26: a freed coil entry is handed to the coil wait list. -/
def Works.handOut (w : Works) : Works := Works.serve w.waitList w

/-! ## The coil boundary (6.5) -/

/-- How a coil ends (R123, R132). -/
inductive EndKind where
  | planned
  | unplanned
  | release
  /-- The release of a suspended line. -/
  | suspendedRelease
  deriving DecidableEq, Repr

/-- R123: whether the line takes a next coil. -/
def EndKind.opensNext : EndKind → Bool
  | .planned | .unplanned => true
  | .release | .suspendedRelease => false

/-- R124, R132: the reason that the kind of end itself brings. -/
def Coil.withEndReason (c : Coil) : EndKind → Coil
  | .unplanned => c.withReason .unplannedCut
  | .suspendedRelease => c.withReason .lengthUncertain
  | .planned | .release => c

/-- R124: a coil's end is set, the reasons of its end join, SHORT is judged and the grade is
recomputed. -/
def Coil.ended (c : Coil) (stop : Nat) (kind : EndKind) : Coil :=
  ((({ c with stop := some stop }).withEndReason kind).judgeShort (stop - c.start)).regraded
    (stop - c.start)

/-- R124: the end of a line's current coil. -/
def Works.endCoil (w : Works) (i : LineIx) (k : CoilKey) (stop : Nat) (kind : EndKind) : Works :=
  (((w.modifyCoil k fun c => c.ended stop kind).modifyLot k.lot fun t =>
      { t with coilsMade := t.coilsMade + 1 }).raiseLine i Bit.coilClosed).modifyLine i fun l =>
    { l with coil := none, cut := .noCut, cutPoint := 0, halted := false }

/-- R125: an ended coil joins the tail of a packer's queue. -/
def Works.queueCoil (w : Works) (k : CoilKey) (p : PackerIx) : Works :=
  (w.modifyCoil k fun c => { c with state := .full, packer := some p }).joinQueue p k

/-- R125: an ended coil is sealed at its cut. -/
def Works.sealLoose (w : Works) (k : CoilKey) : Works :=
  (w.modifyCoil k fun c =>
    ({ c with state := .sealed }.withReason .loose).withReason .unweighed).makeFinal k

/-- R125: an ended coil is placed, by the reservation its line held or by the line's lane as it
stands now. -/
def Works.placeCoil (w : Works) (i : LineIx) (k : CoilKey) (reservation : Option PackerIx) : Works :=
  let placed :=
    match reservation with
    | some p => w.queueCoil k p
    | none =>
      match w.lanes[i] with
      | some p => if w.placeFree p then w.queueCoil k p else w.sealLoose k
      | none => w.sealLoose k
  placed.modifyLine i fun l => { l with reserved := none }

/-- R5: a line copies its lot's specification and revision as they stand, and its flag is cleared.
-/
def Works.copySpec (w : Works) (i : LineIx) : Works :=
  match (w.line i).lot.bind w.lot? with
  | none => w
  | some lot => w.modifyLine i fun l =>
      { l with spec := lot.spec, revision := lot.revision, amendPending := false }

/-- R126: a pending amendment is applied at a boundary. -/
def Works.applyAmendment (w : Works) (i : LineIx) : Works :=
  if (w.line i).amendPending then w.copySpec i else w

/-- R11, R128, R129: the stretch from a coil's end to the run position goes to unassigned length. -/
def Works.leaveUnassigned (w : Works) (i : LineIx) (stop : Nat) : Works :=
  match (w.line i).lot with
  | none => w
  | some n => w.addUnassigned n ((w.line i).position - stop)

/-- R128: the line starves. -/
def Works.starve (w : Works) (i : LineIx) (stop : Nat) (why : StarveReason) : Works :=
  let w' := (w.leaveUnassigned i stop).modifyLine i fun l =>
    { l with state := .starved, starve := some why }
  match why with
  | .noEntry => { w' with waitList := w'.waitList ++ [i] }
  | .seqExhausted => w'

/-- R127, R128, R109: the next coil opens at `stop` with the carried zones, or the line starves and
the carry set is discarded. -/
def Works.openNext (w : Works) (i : LineIx) (stop : Nat) (carry : List (Cause × Int)) : Works :=
  match w.openCoil i stop with
  | .ok w' =>
    let w2 := w'.plannedCutTest i
    match (w2.line i).coil with
    | some k => w2.openCarried k carry
    | none => w2
  | .error why =>
    (w.starve i stop why).modifyLine i fun l => { l with jointClose := none }

/-- R123: a boundary at `stop` on a line whose current coil is `c`. -/
def Works.boundary (w : Works) (i : LineIx) (c : Coil) (stop : Nat) (kind : EndKind) : Works :=
  let l := w.line i
  let carry := carrySet l c
  let reservation := match l.cut with | .ordered => l.reserved | .noCut | .held => none
  let w1 := w.modifyCoil c.key fun c => c.closeAll (stop - c.start)
  let w2 := w1.endCoil i c.key stop kind
  let w3 := w2.placeCoil i c.key reservation
  if kind.opensNext then (w3.applyAmendment i).openNext i stop carry
  else (w3.leaveUnassigned i stop).freeLine i

/-- R122: a CUT_DONE with its resolved position; true when the Cut Controller reports a protocol
error. -/
def Works.cutCompleted (w : Works) (i : LineIx) (pos : Nat) : Works × Bool :=
  let l := w.line i
  match l.state with
  | .idle => (w, true)
  | .starved => (w, true)
  | .primed | .running | .releasing =>
    match w.currentCoil? i with
    | none => (w, true)
    | some c =>
      if pos = c.start then (w.raiseLine i Bit.cutIgnored, false)
      else
        match l.state with
        | .releasing => (w.boundary i c pos .release, false)
        | _ =>
          match l.cut with
          | .ordered => (w.boundary i c pos .planned, false)
          | .noCut => (w.boundary i c pos .unplanned, false)
          | .held => ((w.withdraw i).boundary i c pos .unplanned, false)

/-! ## Releasing a line (6.6) -/

/-- R130: a release cut is ordered on a RUNNING line. -/
def Works.releaseRunning (w : Works) (i : LineIx) : Works :=
  (w.withdraw i).modifyLine i fun l =>
    match l.cut with
    | .ordered => { l with state := .releasing }
    | .noCut | .held =>
      { l with state := .releasing, cut := .ordered, reserved := none, cutPoint := l.position }

/-- R23, R131, R132: the line's coil of length 0 is removed, its reservation, if any, is released,
the line becomes IDLE, and the freed entry is handed out (entry 22). -/
def Works.releaseEmpty (w : Works) (i : LineIx) (k : CoilKey) : Works :=
  let l := w.line i
  let freed := (w.removeCoil k).freeLine i
  let granted :=
    match l.cut, l.reserved with
    | .ordered, some p => freed.placeFreed p
    | _, _ => freed
  granted.handOut

/-- R131, R132: a STARVED line leaves the coil wait list and becomes IDLE. -/
def Works.releaseStarved (w : Works) (i : LineIx) : Works := (w.leaveWait i).freeLine i

/-- R132: the coil of a suspended RUNNING or RELEASING line ends where the record stands. -/
def Works.releaseSuspended (w : Works) (i : LineIx) : Works :=
  let w' := w.withdraw i
  match w'.currentCoil? i with
  | none => w'.freeLine i
  | some c =>
    if w'.coilLength c = 0 then w'.releaseEmpty i c.key
    else w'.boundary i c (w'.line i).position .suspendedRelease

/-- R130 to R132: an accepted LINE_RELEASE. -/
def Works.release (w : Works) (i : LineIx) : Works :=
  let l := w.line i
  match l.state with
  | .idle => w
  | .primed =>
    match l.coil with
    | some k => w.releaseEmpty i k
    | none => w.freeLine i
  | .starved => w.releaseStarved i
  | .running => if l.suspended then w.releaseSuspended i else w.releaseRunning i
  | .releasing => if l.suspended then w.releaseSuspended i else w

end Sys2Proof.Machine
end

