-- ==== Sys2Proof/Machine/Knot.lean ====
section
/-! DEFINITION. The Knot Monitor (Chapter 4). -/

namespace Sys2Proof.Machine

/-- A fault entry: the low byte of a row's number and the knots tied in it. -/
structure FaultEntry where
  lowByte : Byte
  tied : Nat
  deriving DecidableEq, Repr

/-! ## Mapping fault entries to rows (4.3) -/

/-- R82, R83: the offset of the newest row of a tally of `rows` rows, whose last row number is
`last`, with the given low byte; none when no row of the tally has it. -/
def mapEntry (last : Half) (rows : Nat) (low : Byte) : Option Nat :=
  let back := (last.toNat + 256 - low.toNat) % 256
  if back < rows then some (rows - back) else none

/-- R85: the mapped entry of the row at an offset, the last one in the frame's order. -/
def mappedEntry (last : Half) (rows : Nat) (es : List FaultEntry) (off : Nat) : Option FaultEntry :=
  (es.filter fun e => decide (mapEntry last rows e.lowByte = some off)).getLast?

/-- R84, R85: the entries that are stale or superseded. -/
def staleCount (last : Half) (rows : Nat) : List FaultEntry → Nat
  | [] => 0
  | e :: es =>
    (match mapEntry last rows e.lowByte with
      | none => 1
      | some off => if es.any (fun e' => decide (mapEntry last rows e'.lowByte = some off)) then 1 else 0)
    + staleCount last rows es

/-! ## Classifying rows (4.4) -/

inductive RowKind where
  | sound
  /-- A known fault row, with the knots tied in it. -/
  | known (tied : Nat)
  /-- An unknown fault row. -/
  | unknown
  deriving DecidableEq, Repr

/-- R86: the kind of a row from its mapped entry. -/
def rowKind (kpr : Nat) (overflow : Bool) : Option FaultEntry → RowKind
  | some e => if e.tied = kpr then .sound else .known e.tied
  | none => if overflow then .unknown else .sound

/-- R86: the deviation of a known fault row. -/
def rowDeviation (kpr : Nat) : RowKind → Option Nat
  | .known tied => some (tied - kpr + (kpr - tied))
  | .sound | .unknown => none

/-- R86: known and unknown fault rows are fault rows. -/
def RowKind.fault : RowKind → Bool
  | .sound => false
  | .known _ | .unknown => true

/-- R87: the knots missed in a row. -/
def RowKind.missed (kpr : Nat) : RowKind → Nat
  | .known tied => kpr - tied
  | .sound | .unknown => 0

/-- R87: the knots tied in excess in a row. -/
def RowKind.excess (kpr : Nat) : RowKind → Nat
  | .known tied => tied - kpr
  | .sound | .unknown => 0

/-- A classified row with the run position it starts at (R88). -/
structure Row where
  start : Nat
  kind : RowKind
  deriving DecidableEq, Repr

/-- R88: the start of the row at offset `off` (from 1), from the pre-credit position. At a run
position that R39 holds at 2^48 - 1 it can lie beyond it; the model keeps the formula (entry 38). -/
def rowStart (pre pitch off : Nat) : Nat := pre + (off - 1) * pitch / 10

/-- R86, R88: the rows of a tally in order of offset. -/
def classifyRows (sp : Spec) (last : Half) (rows : Nat) (es : List FaultEntry) (overflow : Bool)
    (pre : Nat) : List Row :=
  (List.range rows).map fun n =>
    { start := rowStart pre sp.rowPitch (n + 1),
      kind := rowKind sp.knotsPerRow overflow (mappedEntry last rows es (n + 1)) }

/-- R87: a tally's rows are added to the coil's counts. -/
def Coil.countRows (c : Coil) (kpr : Nat) (rs : List Row) : Coil :=
  { c with
    faultRows := countUp c.faultRows (rs.filter fun r => r.kind.fault).length,
    missedKnots := countUp c.missedKnots (rs.map fun r => r.kind.missed kpr).sum,
    excessKnots := countUp c.excessKnots (rs.map fun r => r.kind.excess kpr).sum }

/-- R87, R93: a tally's fault rows are counted on the current coil, or on the line as unrecorded
defects. -/
def Works.countRows (w : Works) (i : LineIx) (rs : List Row) : Works :=
  match w.currentCoil? i with
  | some c => w.modifyCoil c.key fun c => c.countRows (w.line i).spec.knotsPerRow rs
  | none => w.countUnrecorded i (rs.filter fun r => r.kind.fault).length

/-! ## Runs and the knot state (4.5) -/

/-- What the monitor asks of the Grade Unit for one row. -/
inductive KnotRequest where
  | nothing
  | openAt (pos extreme : Nat)
  | closeAt (pos : Nat)
  | raise (extreme : Nat)
  deriving DecidableEq, Repr

/-- R89: a fault row moves the runs. -/
def KnotMonitor.faultRow (m : KnotMonitor) (start : Nat) : KnotMonitor :=
  { m with
    faultStart := if m.faultRun = 0 then start else m.faultStart,
    faultRun := countUp m.faultRun 1, soundRun := 0 }

/-- R89: a sound row moves the runs. -/
def KnotMonitor.soundRow (m : KnotMonitor) (start : Nat) : KnotMonitor :=
  { m with
    soundStart := if m.soundRun = 0 then start else m.soundStart,
    soundRun := countUp m.soundRun 1, faultRun := 0 }

/-- R90: the held extreme of a SOUND monitor after a fault row: that of the present fault run. -/
def KnotMonitor.runExtreme (m : KnotMonitor) (dev : Option Nat) : Nat :=
  if m.faultRun = 0 then dev.getD 0 else max m.extreme (dev.getD 0)

/-- R90: a fault row in SOUND. -/
def KnotMonitor.faultWhileSound (m : KnotMonitor) (sp : Spec) (start : Nat) (dev : Option Nat) :
    KnotMonitor × KnotRequest :=
  let m1 := { m.faultRow start with extreme := m.runExtreme dev }
  if sp.faultRowsToOpen ≤ m1.faultRun then
    ({ m1 with faulted := true }, .openAt m1.faultStart m1.extreme)
  else (m1, .nothing)

/-- R91: a fault row in FAULTED; a raised extreme is handed on. -/
def KnotMonitor.faultWhileFaulted (m : KnotMonitor) (start : Nat) (dev : Option Nat) :
    KnotMonitor × KnotRequest :=
  let m1 := m.faultRow start
  match dev with
  | some d => if m.extreme < d then ({ m1 with extreme := d }, .raise d) else (m1, .nothing)
  | none => (m1, .nothing)

/-- R91: a sound row in FAULTED. -/
def KnotMonitor.soundWhileFaulted (m : KnotMonitor) (sp : Spec) (start : Nat) :
    KnotMonitor × KnotRequest :=
  let m1 := m.soundRow start
  if sp.soundRowsToClose ≤ m1.soundRun then
    ({ m1 with faulted := false, extreme := 0 }, .closeAt m1.soundStart)
  else (m1, .nothing)

/-- R89 to R91: one row moves the runs and then the knot state. -/
def KnotMonitor.row (m : KnotMonitor) (sp : Spec) (r : Row) : KnotMonitor × KnotRequest :=
  if r.kind.fault then
    (if m.faulted then m.faultWhileFaulted r.start (rowDeviation sp.knotsPerRow r.kind)
     else m.faultWhileSound sp r.start (rowDeviation sp.knotsPerRow r.kind))
  else
    (if m.faulted then m.soundWhileFaulted sp r.start
     else ({ m.soundRow r.start with extreme := 0 }, .nothing))

/-- R92: the Grade Unit applies a request to the line's current coil. -/
def Works.applyKnot (w : Works) (i : LineIx) : KnotRequest → Works
  | .nothing => w
  | .openAt pos extreme => w.requestOpen i .knot pos extreme
  | .closeAt pos => w.requestClose i .knot pos
  | .raise extreme => w.raiseExtreme i .knot extreme

/-- R89: one row of a tally on a line. -/
def Works.knotRow (w : Works) (i : LineIx) (r : Row) : Works :=
  let l := w.line i
  let x := l.knot.row l.spec r
  (w.modifyLine i fun l => { l with knot := x.1 }).applyKnot i x.2

/-- R81: a credited tally of `rows` rows reaches the Knot Monitor of a line, whose rows baseline
has moved to the frame's rows count. -/
def Works.knotTally (w : Works) (i : LineIx) (rows : Nat) (es : List FaultEntry) (overflow : Bool)
    (pre : Nat) : Works :=
  let l := w.line i
  let last := l.baselines.rows
  let rs := classifyRows l.spec last rows es overflow pre
  let stale := w.modifyLine i fun l =>
    { l with staleEntries := countUp l.staleEntries (staleCount last rows es) }
  rs.foldl (fun w r => w.knotRow i r) (stale.countRows i rs)

end Sys2Proof.Machine
end

