-- ==== Sys2Proof/Machine/Twist.lean ====
section
/-! DEFINITION. The Twist Monitor (Chapter 3). -/

namespace Sys2Proof.Machine

/-! ## The window (3.3) -/

/-- 3.1: the window length, in micrometres. -/
def windowLength (ws : List Segment) : Nat := (ws.map fun g => g.length).sum

/-- 3.1: the window quarter-turns. -/
def windowQuarters (ws : List Segment) : Nat := (ws.map fun g => g.quarters).sum

/-- R60: the two oldest segments become one. -/
def mergeOldest : List Segment → List Segment
  | a :: b :: rest =>
    { length := a.length + b.length, quarters := a.quarters + b.quarters } :: rest
  | [a] => [a]
  | [] => []

/-- R59: quarter-turns join the newest segment. -/
def addToNewest (q : Nat) : List Segment → List Segment
  | [] => [{ length := 0, quarters := q }]
  | [g] => [{ g with quarters := g.quarters + q }]
  | g :: h :: rest => g :: addToNewest q (h :: rest)

/-- R58, R59: the window takes a tally of length `dl` and quarter-turns `dq`. -/
def takeSegment (ws : List Segment) (dl dq : Nat) : List Segment :=
  if 0 < dl then
    (if Config.windowLimit ≤ ws.length then mergeOldest ws else ws) ++
      [{ length := dl, quarters := dq }]
  else if 0 < dq then addToNewest dq ws
  else ws

/-- R61: the oldest segment leaves for as long as the rest of the window covers the span. -/
def spanDrop (span : Nat) : List Segment → List Segment
  | [] => []
  | g :: rest =>
    if rest ≠ [] ∧ span * 1000000 ≤ windowLength rest then spanDrop span rest else g :: rest

/-! ## The twist value (3.4) -/

inductive Verdict where
  | inside
  | high
  | low
  deriving DecidableEq, Repr

/-- R63, R64: the twist value of a window, rounded half up and saturated; none when the window has
not reached half the span. -/
def twistValue? (ws : List Segment) (span : Nat) : Option Nat :=
  let len := windowLength ws
  if len < span * 500000 then none
  else some (min 65535 ((windowQuarters ws * 25000000 + len / 2) / len))

/-- R65: the half-width of the tolerance band. -/
def bandTolerance (sp : Spec) : Nat := sp.nominalTwist * sp.twistTolerance / 1000

/-- R65: the verdict on a twist value. -/
def verdict (sp : Spec) (t : Nat) : Verdict :=
  if sp.nominalTwist + bandTolerance sp < t then .high
  else if t < sp.nominalTwist - bandTolerance sp then .low
  else .inside

/-- R72: of two deviations the one further from zero; of equal ones the first seen. -/
def furtherExtreme (held new : Int) : Int := if held.natAbs < new.natAbs then new else held

/-! ## The band state machine (3.5) -/

/-- What the monitor asks of the Grade Unit for one tally. -/
inductive TwistRequest where
  | nothing
  | openAt (pos : Nat) (extreme : Int)
  | closeAt (pos : Nat)
  | raise (extreme : Int)
  deriving DecidableEq, Repr

/-- R68: after an out-of-band verdict in SUSPECT, the persistence test. -/
def TwistMonitor.testSuspect (m : TwistMonitor) (persistence pos : Nat) :
    TwistMonitor × TwistRequest :=
  if persistence ≤ pos - m.suspectStart then
    ({ m with band := .out }, .openAt m.suspectStart m.extreme)
  else (m, .nothing)

/-- R70: after an IN verdict in RECOVERING, the persistence test. -/
def TwistMonitor.testRecovery (m : TwistMonitor) (persistence pos : Nat) :
    TwistMonitor × TwistRequest :=
  if persistence ≤ pos - m.recoveryStart then
    ({ m with band := .inBand, extreme := 0 }, .closeAt m.recoveryStart)
  else (m, .nothing)

/-- R66, R67: an out-of-band verdict enters SUSPECT. -/
def TwistMonitor.enterSuspect (m : TwistMonitor) (dev : Int) (pre : Nat) : TwistMonitor :=
  { m with band := .suspect, suspectStart := pre, extreme := dev }

/-- R69, R70, R72: an out-of-band verdict in OUT or RECOVERING; a replaced extreme is handed on. -/
def TwistMonitor.stayOut (m : TwistMonitor) (dev : Int) : TwistMonitor × TwistRequest :=
  ({ m with band := .out, extreme := furtherExtreme m.extreme dev },
    if m.extreme.natAbs < dev.natAbs then .raise dev else .nothing)

/-- R66 to R70: the band state moves on a verdict. `dev` is T - N, `pre` the tally's pre-credit
position and `pos` the run position after its credit. -/
def TwistMonitor.judge (m : TwistMonitor) (sp : Spec) (v : Verdict) (dev : Int) (pre pos : Nat) :
    TwistMonitor × TwistRequest :=
  match m.band, v with
  | .warming, .inside => ({ m with band := .inBand }, .nothing)
  | .inBand, .inside => (m, .nothing)
  | .warming, _ => (m.enterSuspect dev pre).testSuspect sp.persistence pos
  | .inBand, _ => (m.enterSuspect dev pre).testSuspect sp.persistence pos
  | .suspect, .inside => ({ m with band := .inBand, extreme := 0 }, .nothing)
  | .suspect, _ =>
    { m with extreme := furtherExtreme m.extreme dev }.testSuspect sp.persistence pos
  | .out, .inside =>
    { m with band := .recovering, recoveryStart := pre }.testRecovery sp.persistence pos
  | .out, _ => m.stayOut dev
  | .recovering, .inside => m.testRecovery sp.persistence pos
  | .recovering, _ => m.stayOut dev

/-- R57: the monitor's work for one tally: the window, its evaluation and the band state. -/
def TwistMonitor.tally (m : TwistMonitor) (sp : Spec) (dl dq pre pos : Nat) :
    TwistMonitor × TwistRequest :=
  let m1 := { m with window := spanDrop sp.twistSpan (takeSegment m.window dl dq) }
  match twistValue? m1.window sp.twistSpan with
  | none => (m1, .nothing)
  | some t =>
    { m1 with lastValue := t }.judge sp (verdict sp t) ((t : Int) - (sp.nominalTwist : Int)) pre pos

/-- R73: the Grade Unit applies a request to the line's current coil. -/
def Works.applyTwist (w : Works) (i : LineIx) : TwistRequest → Works
  | .nothing => w
  | .openAt pos extreme => w.requestOpen i .twist pos extreme
  | .closeAt pos => w.requestClose i .twist pos
  | .raise extreme => w.raiseExtreme i .twist extreme

/-- R57, R79: a credited tally reaches the Twist Monitor of a line. -/
def Works.twistTally (w : Works) (i : LineIx) (dl dq pre : Nat) : Works :=
  let l := w.line i
  let r := l.twist.tally l.spec dl dq pre l.position
  (w.modifyLine i fun l => { l with twist := r.1 }).applyTwist i r.2

end Sys2Proof.Machine
end

