-- ==== Sys2Proof/Machine/Length.lean ====
section
/-! DEFINITION. The Length Unit: crediting, the slip check, positions of marks and cuts, and resync
(Chapter 2). -/

namespace Sys2Proof.Machine

/-- What a counting frame brings to the Length Unit (2.3, 4): the counters-restarted flag, the four
counts, and the fault entries and overflow flag of a TALLY. -/
structure CountFrame where
  restarted : Bool
  counts : Counts
  entries : List FaultEntry
  overflow : Bool
  deriving DecidableEq, Repr

/-! ## Differences (R37, R47) -/

/-- R37: the four differences, modulo 65,536. -/
def Counts.minus (new base : Counts) : Counts :=
  { spindle := new.spindle - base.spindle, wheelA := new.wheelA - base.wheelA,
    wheelB := new.wheelB - base.wheelB, rows := new.rows - base.rows }

/-- R37: whether an unsigned difference is 32,768 or more. -/
def Counts.implausible (d : Counts) : Bool :=
  d.spindle.msb || d.wheelA.msb || d.wheelB.msb || d.rows.msb

/-- R37: whether a frame's counts cannot be trusted against a line's baselines. -/
def CountFrame.untrusted (f : CountFrame) (l : Line) : Bool :=
  f.restarted || (f.counts.minus l.baselines).implausible

/-- R32: the difference of the measure source. -/
def MeasureSource.of : MeasureSource → Counts → Half
  | .wheelA, d => d.wheelA
  | .wheelB, d => d.wheelB
  | .rows, d => d.rows

/-- R38: micrometres per count of the measure source. -/
def Line.measureUnit (l : Line) : Nat :=
  match l.measure with
  | .wheelA => l.wheelA
  | .wheelB => l.wheelB
  | .rows => l.spec.rowPitch * 100

/-- R38: the measure length of a plausible tally, in micrometres. -/
def Line.measureLength (l : Line) (d : Counts) : Nat := (l.measure.of d).toNat * l.measureUnit

/-- R42: the check length, in micrometres; none without a check source. -/
def Line.checkLength? (l : Line) (d : Counts) : Option Nat :=
  match l.check with
  | .off => none
  | .wheelA => some (d.wheelA.toNat * l.wheelA)
  | .wheelB => some (d.wheelB.toNat * l.wheelB)

/-! ## Credit (R38 to R40) -/

/-- R38 to R40: the credit moves the run position, the remainder and the baselines. -/
def Line.credited (l : Line) (counts : Counts) : Line :=
  let total := l.measureLength (counts.minus l.baselines) + l.remainder
  { l with
    position := addLength l.position (total / 1000), remainder := total % 1000,
    baselines := counts, baselinesValid := true }

/-- R38, R39: the credit of a plausible tally, in whole millimetres. -/
def Line.credit (l : Line) (counts : Counts) : Nat :=
  (l.measureLength (counts.minus l.baselines) + l.remainder) / 1000

/-- R39: the credit is added to the run position and to the lot's totals. -/
def Works.giveCredit (w : Works) (i : LineIx) (counts : Counts) : Works :=
  let l := w.line i
  let mm := l.credit counts
  let w1 := (w.modifyLine i fun l => l.credited counts).raiseSaturated (passesLimit l.position mm)
  match l.lot with
  | none => w1
  | some n =>
    match l.state with
    | .starved => (w1.addProduced n mm).addUnassigned n mm
    | .idle | .primed | .running | .releasing => w1.addProduced n mm

/-! ## The slip check (2.4) -/

inductive SlipFinding where
  | belowFloor
  | clean
  | slip (disagreement : Nat)
  deriving DecidableEq, Repr

/-- R42: the finding on a tally from its two lengths. -/
def slipFinding (permille measure check : Nat) : SlipFinding :=
  let m := max measure check
  let gap := (measure - check + (check - measure)) * 1000
  if m < Config.slipFloor then .belowFloor
  else if permille * m < gap then .slip (gap / m)
  else .clean

/-- What the slip detector asks for. -/
inductive SlipRequest where
  | nothing
  | openAt (pos extreme : Nat)
  | closeAt (pos : Nat)
  | raise (extreme : Nat)
  deriving DecidableEq, Repr

/-- R44, R45: a slip tally. -/
def SlipDetector.slipTally (m : SlipDetector) (pre dis : Nat) : SlipDetector × SlipRequest :=
  if m.slipping then ({ m with cleanRun := 0 }, .raise dis)
  else
    match m.slipRun with
    | 0 => ({ m with slipRun := 1, slipStart := pre, slipPeak := dis }, .nothing)
    | 1 => ({ m with slipRun := 2, slipPeak := max m.slipPeak dis }, .nothing)
    | _ => ({ m with slipping := true, slipRun := 0, cleanRun := 0 },
            .openAt m.slipStart (max m.slipPeak dis))

/-- R44, R45: a clean tally. -/
def SlipDetector.cleanTally (m : SlipDetector) (pre : Nat) : SlipDetector × SlipRequest :=
  if m.slipping then
    match m.cleanRun with
    | 0 => ({ m with cleanRun := 1, cleanStart := pre }, .nothing)
    | 1 => ({ m with cleanRun := 2 }, .nothing)
    | _ => ({ m with slipping := false, slipRun := 0, cleanRun := 0 }, .closeAt m.cleanStart)
  else ({ m with slipRun := 0 }, .nothing)

/-- R34, R50: the detector returns to NORMAL with its counts at 0 (entry 33). -/
def SlipDetector.toNormal (m : SlipDetector) : SlipDetector :=
  { m with slipping := false, slipRun := 0, cleanRun := 0 }

/-- R44, R45: the requests of the slip detector; an opening raises SLIP. -/
def Works.applySlip (w : Works) (i : LineIx) : SlipRequest → Works
  | .nothing => w
  | .openAt pos extreme => (w.requestOpen i .slip pos extreme).raiseLine i Bit.slip
  | .closeAt pos => w.requestClose i .slip pos
  | .raise extreme => w.raiseExtreme i .slip extreme

/-- R43: a slip tally is counted on the line and on its current coil. -/
def Works.countSlip (w : Works) (i : LineIx) : Works :=
  let w1 := w.modifyLine i fun l => { l with slipTallies := countUp l.slipTallies 1 }
  match w1.currentCoil? i with
  | none => w1
  | some c => w1.modifyCoil c.key fun c => { c with slipTallies := countUp c.slipTallies 1 }

/-- R42 to R45: the slip check of a credited tally. -/
def Works.slipCheck (w : Works) (permille : Nat) (i : LineIx) (measure : Nat) (check : Option Nat)
    (pre : Nat) : Works :=
  match check with
  | none => w
  | some len =>
    match slipFinding permille measure len with
    | .belowFloor => w
    | .slip dis =>
      let w1 := w.countSlip i
      let r := (w1.line i).slip.slipTally pre dis
      (w1.modifyLine i fun l => { l with slip := r.1 }).applySlip i r.2
    | .clean =>
      let r := (w.line i).slip.cleanTally pre
      (w.modifyLine i fun l => { l with slip := r.1 }).applySlip i r.2

/-! ## A credited tally (R37 to R41) -/

/-- R41 step 1: the line's monitor. -/
def Works.monitorTally (w : Works) (i : LineIx) (measure : Nat) (d : Counts) (f : CountFrame)
    (pre : Nat) : Works :=
  match (w.line i).kind with
  | .twist => w.twistTally i measure d.spindle.toNat pre
  | .knot => w.knotTally i d.rows.toNat f.entries f.overflow pre
  | .unused => w

/-- R41 step 3: the Grade Unit receives the new run position. -/
def Works.gradeTally (w : Works) (i : LineIx) : Works :=
  let w1 := w.closeJoint i
  match (w1.line i).coil with
  | none => w1
  | some k => w1.regrade k

/-- R38 to R41: a plausible frame is credited and handed on. -/
def Works.creditTally (w : Works) (permille : Nat) (i : LineIx) (f : CountFrame) : Works :=
  let l := w.line i
  let d := f.counts.minus l.baselines
  let measure := l.measureLength d
  let credited := w.giveCredit i f.counts
  let watched := credited.monitorTally i measure d f l.position
  let checked := watched.slipCheck permille i measure (l.checkLength? d) l.position
  (checked.gradeTally i).plannedCutTest i

/-! ## Resync (2.6) -/

/-- R51, R77, R97: the monitor of a line is set back to its start. -/
def Line.resetMonitor (l : Line) : Line :=
  match l.kind with
  | .twist => { l with twist := .reset }
  | .knot => { l with knot := .reset }
  | .unused => l

/-- R50, R51: the line's own state after a resync with a frame's counts. -/
def Line.resynced (l : Line) (counts : Counts) : Line :=
  { l.resetMonitor with
    baselines := counts, baselinesValid := true, resyncs := countUp l.resyncs 1,
    slip := l.slip.toNormal }

/-- R50: LENGTH_UNCERTAIN is set on the line's current coil, if it has one. -/
def Works.markUncertain (w : Works) (i : LineIx) : Works :=
  match (w.line i).coil with
  | none => w
  | some k => w.gainReason k .lengthUncertain

/-- R51: the line's open TWIST, KNOT and SLIP zones close at the present run position. -/
def Works.closeMonitorZones (w : Works) (i : LineIx) : Works :=
  let pos := (w.line i).position
  ((w.requestClose i .twist pos).requestClose i .knot pos).requestClose i .slip pos

/-- R50, R51: a resync. -/
def Works.resync (w : Works) (i : LineIx) (counts : Counts) : Works :=
  (((w.modifyLine i fun l => l.resynced counts).markUncertain i).raiseLine i
    Bit.resync).closeMonitorZones i

/-! ## Counting frames by run state (R35, R36, R46 to R49) -/

/-- R36: the first counts of a PRIMED line become its baselines, and the line becomes RUNNING. -/
def Works.takeBaselines (w : Works) (i : LineIx) (counts : Counts) : Works :=
  (w.modifyLine i fun l =>
    { l with baselines := counts, baselinesValid := true, state := .running }).plannedCutTest i

/-- R37: a counting frame of a line that is RUNNING, RELEASING or STARVED. -/
def Works.countTally (w : Works) (permille : Nat) (i : LineIx) (f : CountFrame) : Works :=
  if f.untrusted (w.line i) then w.resync i f.counts else w.creditTally permille i f

/-- R35: a TALLY. -/
def Works.tally (w : Works) (permille : Nat) (i : LineIx) (f : CountFrame) : Works :=
  match (w.line i).state with
  | .idle => w
  | .primed => w.takeBaselines i f.counts
  | .running | .releasing | .starved => w.countTally permille i f

/-- R49: a resolved position is clamped to 0 and to the start of the line's current coil. -/
def Works.clampPosition (w : Works) (i : LineIx) (pos : Int) : Nat :=
  max pos.toNat (((w.currentCoil? i).map fun c => c.start).getD 0)

/-- R47: the position of an event at or behind the run position, `d` counts away. -/
def Line.backdated (l : Line) (d : Int) : Int :=
  ((l.position * 1000 + l.remainder : Nat) + d * (l.measureUnit : Int)) / 1000

/-- R46 to R49: the position of a MARK or CUT_DONE, with the records as the frame's own credit or
resync leaves them. -/
def Works.resolve (w : Works) (permille : Nat) (i : LineIx) (f : CountFrame) : Works × Nat :=
  let l := w.line i
  match l.state with
  | .idle => (w, 0)
  | .primed => (w.takeBaselines i f.counts, 0)
  | .running | .releasing | .starved =>
    let d := (l.measure.of (f.counts.minus l.baselines)).toInt
    if f.restarted ∨ d = -32768 then
      let w' := w.resync i f.counts
      (w', w'.clampPosition i (w'.line i).position)
    else if 0 < d then
      let w' := w.countTally permille i f
      (w', w'.clampPosition i (w'.line i).position)
    else (w, w.clampPosition i (l.backdated d))

/-- The mark kinds of a MARK frame (table 8.1). -/
inductive MarkKind where
  | joint
  | flawStart
  | flawEnd
  deriving DecidableEq, Repr

/-- R104, R106: the Grade Unit takes a resolved mark. -/
def Works.applyMark (w : Works) (i : LineIx) (pos : Nat) : MarkKind → Works
  | .joint => w.markJoint i pos
  | .flawStart => w.requestOpen i .operator pos 0
  | .flawEnd => w.requestClose i .operator pos

/-- R46: a MARK. -/
def Works.mark (w : Works) (permille : Nat) (i : LineIx) (kind : MarkKind) (f : CountFrame) :
    Works :=
  match (w.line i).state with
  | .idle => w
  | .primed | .running | .releasing | .starved =>
    let r := w.resolve permille i f
    r.1.applyMark i r.2 kind

/-- R46, R122: a CUT_DONE; true when it is a protocol error of the station. DEDUCED (entry 40): the
cut state that judges the cut is the one the line has after the frame's own credit or resync (R47),
so that a planned-cut test which orders the cut in the same event makes it a planned one. -/
def Works.cutDone (w : Works) (permille : Nat) (i : LineIx) (f : CountFrame) : Works × Bool :=
  let r := w.resolve permille i f
  r.1.cutCompleted i r.2

end Sys2Proof.Machine
end

