-- ==== Sys2Proof/Machine/Flags.lean ====
section
/-! DEFINITION. The Notice Unit: the condition notices, the notice sets as the host sees them, and
the output pins ATTN, LAMP and LKDE. All of it follows the state (R151, R169, R171; entry 13). -/

namespace Sys2Proof.Machine

/-- A notice bit while its condition holds. -/
def bitWhile (holds : Bool) (b : Half) : Half := if holds then b else 0

/-- R169: SUPPLY_HOLD and TABLE_LOW. -/
def State.globalConditions (s : State) : Half :=
  bitWhile (decide (s.partState = .hold)) Bit.supplyHold |||
  bitWhile (decide (s.works.freeCoils < s.settings.tableLow)) Bit.tableLow

/-- R169: SUSPENDED, STARVED, CUT_HELD and HALTED of a line. -/
def Line.conditions (l : Line) : Half :=
  bitWhile l.suspended Bit.suspended |||
  bitWhile (decide (l.state = .starved)) Bit.starved |||
  bitWhile (decide (l.cut = .held)) Bit.cutHeld |||
  bitWhile l.halted Bit.halted

/-- R169: QUEUE_FULL of a packer. -/
def Works.packerConditions (w : Works) (p : PackerIx) : Half :=
  bitWhile (decide (w.placesInUse p = Config.packerPlaces)) Bit.queueFull

/-- R169: ISOLATED of a station address; an address without a station has no condition. -/
def Link.stationConditions (k : Link) (d : StationIx) : Half :=
  bitWhile (k.stations[d].any fun st => st.isolated) Bit.isolated

/-- The global notice set (table 10.1). -/
def State.globalNotices (s : State) : Half := s.works.notices.global ||| s.globalConditions

/-- The notice set of a line. -/
def State.lineNotices (s : State) (i : LineIx) : Half :=
  s.works.notices.line[i] ||| (s.works.line i).conditions

/-- The notice set of a packer. -/
def State.packerNotices (s : State) (p : PackerIx) : Half :=
  s.works.notices.packer[p] ||| s.works.packerConditions p

/-- The notice set of a station address. -/
def State.stationNotices (s : State) (d : StationIx) : Half :=
  s.works.notices.station[d] ||| s.link.stationConditions d

/-- The enable bits of one kind of set: `n` bits of the image's enables from bit `lo` on (10.2). -/
def enablesAt (enables : Word) (lo : Nat) (mask : Half) : Half :=
  (enables >>> lo).setWidth 16 &&& mask

/-- R171: ATTN is driven low while an enabled notice is set. -/
def State.attn (s : State) : Bool :=
  decide (s.globalNotices &&& enablesAt s.settings.enables 0 0xF ≠ 0) ||
  (List.finRange 16).any (fun i =>
    decide (s.lineNotices i &&& enablesAt s.settings.enables 4 0x3FF ≠ 0)) ||
  (List.finRange 8).any (fun p =>
    decide (s.packerNotices p &&& enablesAt s.settings.enables 14 0x7 ≠ 0)) ||
  (List.finRange 30).any (fun d =>
    decide (s.stationNotices d &&& enablesAt s.settings.enables 17 0xF ≠ 0))

/-- R115: whether a coil holds an open TWIST or KNOT zone, listed or unlisted. -/
def Coil.monitorZoneOpen (c : Coil) : Bool :=
  c.zones.any (fun z => z.stop.isNone && (decide (z.cause = .twist) || decide (z.cause = .knot))) ||
  c.unlistedOpen.any (fun q => decide (q = .twist) || decide (q = .knot))

/-- R171: whether the chosen lamp condition holds. -/
def State.lampCondition (s : State) : Bool :=
  match s.settings.lampCondition with
  | 0 => (List.finRange 16).any fun i => decide ((s.works.line i).state = .starved)
  | 1 => (List.finRange 16).any fun i =>
      decide ((s.works.line i).cut = .held) || (s.works.line i).halted
  | 2 => (List.finRange 8).any fun p => decide (s.works.placesInUse p = Config.packerPlaces)
  | 3 => (inUse s.link.stations).any fun st => st.isolated
  | 4 => decide (s.partState = .hold)
  | 5 => (inUse s.works.coils).any fun c => decide (c.state = .opened) && c.monitorZoneOpen
  | _ => false

/-- R171: the level of LAMP, high or low; off throughout LOADING. -/
def State.lampHigh (s : State) : Bool :=
  if decide (s.partState ≠ .loading) && s.lampCondition then s.settings.lampActiveHigh
  else !s.settings.lampActiveHigh

/-- R151: the part holds LKDE high while it transmits a poll, and low in LOADING and HOLD, a poll
cut short by HOLD included (entry 23). -/
def State.lkde (s : State) : Bool :=
  decide (s.partState = .ready) && s.link.turn.any fun t => decide (t.phase = .sending)

end Sys2Proof.Machine
end

