-- ==== Sys2Proof/Machine/Views.lean ====
section
/-! DEFINITION. The record views, the key lists and the notice snapshot that the host reads
(R27, R165, R166, R170). -/

namespace Sys2Proof.Machine

/-! ## Codes (1.9) -/

def ProductKind.code : ProductKind → Nat
  | .laid => 1
  | .net => 2
  | .other n => n

def LotState.code : LotState → Nat
  | .opened => 1
  | .closing => 2
  | .closed => 3

def CoilState.code : CoilState → Nat
  | .opened => 1
  | .full => 2
  | .taken => 3
  | .sealed => 4

def Grade.code : Grade → Nat
  | .first => 1
  | .second => 2
  | .reject => 3

def LineKind.code : LineKind → Nat
  | .unused => 0
  | .twist => 1
  | .knot => 2

def RunState.code : RunState → Nat
  | .idle => 0
  | .primed => 1
  | .running => 2
  | .starved => 3
  | .releasing => 4

/-- The run state as the host sees it: SUSPENDED is 5. -/
def Line.stateCode (l : Line) : Nat := if l.suspended then 5 else l.state.code

/-- The remembered state: 0 when the line is not SUSPENDED. -/
def Line.rememberedCode (l : Line) : Nat := if l.suspended then l.state.code else 0

def CutState.code : CutState → Nat
  | .noCut => 0
  | .ordered => 1
  | .held => 2

def starveCode : Option StarveReason → Nat
  | none => 0
  | some .noEntry => 1
  | some .seqExhausted => 2

def Order.code : Order → Nat
  | .run => 0
  | .cut => 1
  | .halt => 2

def MeasureSource.code : MeasureSource → Nat
  | .wheelA => 1
  | .wheelB => 2
  | .rows => 3

def CheckSource.code : CheckSource → Nat
  | .off => 0
  | .wheelA => 1
  | .wheelB => 2

def Band.code : Band → Nat
  | .warming => 0
  | .inBand => 1
  | .suspect => 2
  | .out => 3
  | .recovering => 4

def Cause.code : Cause → Nat
  | .twist => 1
  | .knot => 2
  | .slip => 3
  | .joint => 4
  | .operator => 5

/-- The bit of a reason in coil view field 5. -/
def Reason.bit : Reason → Nat
  | .zones => 0
  | .zoneOverflow => 1
  | .jointsOver => 2
  | .short => 3
  | .overlength => 4
  | .density => 5
  | .lengthUncertain => 6
  | .unplannedCut => 7
  | .loose => 8
  | .unweighed => 9

/-- The reason set as bits. -/
def reasonBits (rs : List Reason) : Nat :=
  ([Reason.zones, .zoneOverflow, .jointsOver, .short, .overlength, .density, .lengthUncertain,
    .unplannedCut, .loose, .unweighed].map fun r => flagAt (rs.contains r) r.bit).sum

/-- R27: no packer reads 255. -/
def packerCode (p : Option PackerIx) : Nat := (p.map fun p => p.val).getD 255

/-- R27: the low 32 bits of a 48-bit value. -/
def low32 (v : Nat) : Nat := v % 2 ^ 32

/-- R27: the high 16 bits of a 48-bit value. -/
def high16 (v : Nat) : Nat := v / 2 ^ 32 % 2 ^ 16

/-! ## The lot view -/

/-- The running set by bits: bit n for line n. -/
def Works.runningBits (w : Works) (n : Nat) : Nat :=
  ((w.runningSet n).map fun i => 2 ^ i.val).sum

/-- R27: the lot view. -/
def State.lotView (s : State) (l : Lot) : List Word :=
  let sp := l.spec
  viewOf
    [(0, bitsAt l.number 31 16 + bitsAt l.state.code 15 8 + bitsAt l.revision 7 0),
     (1, bitsAt sp.kind.code 31 24 + bitsAt sp.layDirection 23 16 + bitsAt sp.twistSpan 15 0),
     (2, bitsAt sp.nominalTwist 31 16 + bitsAt sp.twistTolerance 15 0),
     (3, bitsAt sp.persistence 31 16 + bitsAt sp.knotsPerRow 15 0),
     (4, bitsAt sp.rowPitch 31 16 + bitsAt sp.faultRowsToOpen 15 8 + bitsAt sp.soundRowsToClose 7 0),
     (5, sp.target),
     (6, bitsAt sp.cutLead 31 16 + bitsAt sp.jointMargin 15 0),
     (7, sp.allowance),
     (8, sp.minSound),
     (9, bitsAt sp.maxJoints 31 24 + bitsAt sp.rejectShare 23 8 + bitsAt sp.densityTolerance 7 0),
     (10, sp.densityNominal),
     (11, bitsAt l.nextSequence 31 16 + bitsAt (s.works.coilsHeld l.number) 15 0),
     (12, bitsAt l.coilsMade 31 16 + bitsAt l.coilsRetired 15 0),
     (13, s.works.runningBits l.number),
     (14, s.timeBase),
     (16, low32 l.produced), (17, high16 l.produced),
     (18, low32 l.unassigned), (19, high16 l.unassigned),
     (20, low32 l.retired), (21, high16 l.retired)]

/-! ## The line view -/

/-- R25: a line's place on the wait list, 1 for the head, 0 when it is not on it. -/
def Works.waitPlace (w : Works) (i : LineIx) : Nat :=
  match w.waitList.idxOf? i with
  | some n => n + 1
  | none => 0

/-- Group 1 of the line view: the line's monitor. -/
def Line.monitorFields (l : Line) : List (Nat × Nat) :=
  match l.kind with
  | .twist =>
    let m := l.twist
    [(16, bitsAt m.band.code 31 24 + bitsAt m.window.length 23 16),
     (17, m.lastValue),
     (18, signed16 m.extreme),
     (19, low32 ((m.window.map fun g => g.length).sum)),
     (20, (m.window.map fun g => g.length).sum / 2 ^ 32),
     (21, min Config.wordLimit ((m.window.map fun g => g.quarters).sum)),
     (22, low32 m.suspectStart), (23, high16 m.suspectStart),
     (24, low32 m.recoveryStart), (25, high16 m.recoveryStart)]
  | .knot =>
    let m := l.knot
    [(16, flagAt m.faulted 24),
     (17, bitsAt m.faultRun 31 16 + bitsAt m.soundRun 15 0),
     (18, signed16 m.extreme)]
  | .unused => []

/-- R27: the line view. -/
def State.lineView (s : State) (i : LineIx) : List Word :=
  let l := s.works.line i
  viewOf
    ([(0, bitsAt i.val 31 28 + bitsAt l.kind.code 27 24 + bitsAt l.stateCode 23 20 +
        bitsAt l.rememberedCode 19 16 + bitsAt l.cut.code 15 12 + bitsAt (starveCode l.starve) 11 8 +
        bitsAt l.order.code 7 4 + flagAt l.amendPending 3 + flagAt l.baselinesValid 2 +
        flagAt l.jointClose.isSome 1),
      (1, bitsAt (l.lot.getD 0) 31 16 + bitsAt l.revision 15 8 + bitsAt l.measure.code 7 4 +
        bitsAt l.check.code 3 0),
      (2, bitsAt ((l.coil.map fun k => k.sequence).getD 0) 31 16 +
        bitsAt (packerCode l.reserved) 15 8 + bitsAt (s.works.waitPlace i) 7 0),
      (3, low32 l.position),
      (4, bitsAt (high16 l.position) 31 16 + bitsAt l.remainder 15 0),
      (5, l.remaining),
      (6, low32 (l.jointClose.getD 0)),
      (7, bitsAt (high16 (l.jointClose.getD 0)) 31 16 + bitsAt l.address 15 8),
      (8, bitsAt l.baselines.spindle.toNat 31 16 + bitsAt l.baselines.wheelA.toNat 15 0),
      (9, bitsAt l.baselines.wheelB.toNat 31 16 + bitsAt l.baselines.rows.toNat 15 0),
      (10, bitsAt l.wheelA 31 16 + bitsAt l.wheelB 15 0),
      (11, bitsAt l.slipTallies 31 16 + bitsAt l.resyncs 15 0),
      (12, bitsAt l.sequenceGaps 31 16 + bitsAt l.staleEntries 15 0),
      (13, bitsAt l.unrecorded 31 16),
      (14, s.timeBase)] ++ l.monitorFields)

/-! ## The coil view -/

/-- Field 10: cause and open flag of the zone at place k. -/
def zoneNibble (zones : List Zone) (k : Nat) : Nat :=
  match zones[k]? with
  | none => 0
  | some z => (z.cause.code + flagAt z.stop.isNone 3) * 2 ^ (4 * k)

/-- The extreme value of the zone at place k, as 16 bits. -/
def zoneExtreme (zones : List Zone) (k : Nat) : Nat :=
  match zones[k]? with
  | none => 0
  | some z => signed16 z.extreme

/-- The start of the zone at place k (entry 18). -/
def zoneStartField (zones : List Zone) (k : Nat) : Nat :=
  match zones[k]? with
  | none => 0
  | some z => min Config.wordLimit z.start

/-- The end of the zone at place k; an open one reads FFFFFFFFh (entry 18). -/
def zoneStopField (zones : List Zone) (k : Nat) : Nat :=
  match zones[k]? with
  | none => 0
  | some z => min Config.wordLimit (z.stop.getD Config.wordLimit)

/-- R27: the coil view. -/
def State.coilView (s : State) (c : Coil) : List Word :=
  let zs := c.zones
  viewOf
    ([(0, bitsAt c.key.lot 31 16 + bitsAt c.key.sequence 15 0),
      (1, bitsAt c.state.code 31 28 + bitsAt c.grade.code 27 24 + flagAt c.final 23 +
        bitsAt c.line.val 19 16 + bitsAt (packerCode c.packer) 15 8 + bitsAt c.revision 7 0),
      (2, low32 c.start),
      (3, bitsAt (high16 c.start) 31 16 + bitsAt c.joints 15 8 + bitsAt c.unlisted 7 0),
      (4, min Config.wordLimit (s.works.coilLength c)),
      (5, bitsAt zs.length 31 28 + reasonBits c.reasons),
      (6, bitsAt c.faultRows 31 16 + bitsAt c.slipTallies 15 0),
      (7, bitsAt c.missedKnots 31 16 + bitsAt c.excessKnots 15 0),
      (8, c.weight.getD 0),
      (9, c.density.getD 0),
      (10, ((List.range 8).map (zoneNibble zs)).sum),
      (11, s.timeBase)] ++
     (List.range 4).map (fun j =>
       (12 + j, bitsAt (zoneExtreme zs (2 * j)) 31 16 + bitsAt (zoneExtreme zs (2 * j + 1)) 15 0)) ++
     (List.range 8).map (fun k => (16 + 2 * k, zoneStartField zs k)) ++
     (List.range 8).map (fun k => (17 + 2 * k, zoneStopField zs k)))

/-! ## The station view -/

/-- The code and index of a station's role. -/
def Role.codes : Role → Nat × Nat
  | .line i => (1, i.val)
  | .packer p => (2, p.val)

def Level.code : Level → Nat
  | .one => 1
  | .two => 2

def answerCode : Option Answer → Nat
  | none => 0
  | some (.spec _ _) => 1
  | some (.coil _) => 2
  | some (.refuse _) => 3

/-- R165: the station view; an unset sequence reads 0 (entry 34). -/
def State.stationView (s : State) (d : StationIx) (st : Station) : List Word :=
  viewOf
    [(0, bitsAt (d.val + 1) 31 24 + bitsAt st.role.codes.1 23 20 + bitsAt st.role.codes.2 19 16 +
        bitsAt st.level.code 15 12 + flagAt st.isolated 8 + flagAt st.repeatOwed 7 +
        flagAt st.probeDue 6 + bitsAt st.roundsSinceProbe 5 0),
     (1, bitsAt st.failures 31 24 + bitsAt (st.expected.getD 0).toNat 23 16 +
        bitsAt (st.last.getD 0).toNat 15 8 + flagAt st.expected.isNone 1 + flagAt st.last.isNone 0),
     (2, bitsAt st.sequenceGaps 31 16 + bitsAt st.protocolErrors 15 0),
     (3, bitsAt (answerCode st.pending) 31 24 + bitsAt s.link.roundCount 15 8),
     (14, s.timeBase)]

/-! ## LIST_KEYS (R166) -/

/-- The keys of the entries in use from an entry index on, with their indexes, in table order. -/
def keysFrom {α : Type} {n : Nat} (v : Vector (Option α) n) (start : Nat) (key : α → Nat) :
    List (Nat × Nat) :=
  (List.finRange n).filterMap fun i =>
    if start ≤ i.val then v[i].map fun r => (i.val, key r) else none

/-- R166: the fields and the next index of a walk: at most 32 keys, and 255 when the table has been
walked to its end. -/
def listPage (keys : List (Nat × Nat)) (size : Nat) : List Word × Byte :=
  let placed := keys.take 32
  let next :=
    match placed.getLast? with
    | none => 255
    | some k => if placed.length = 32 ∧ k.1 + 1 < size then k.1 + 1 else 255
  (placed.map fun k => BitVec.ofNat 32 k.2, BitVec.ofNat 8 next)

def lotKeyWord (l : Lot) : Nat := l.number

def coilKeyWord (c : Coil) : Nat := bitsAt c.key.lot 31 16 + bitsAt c.key.sequence 15 0

/-! ## NOTICE_READ (R170) -/

/-- R170: the 14 fields of the notice snapshot: 3 bits for each packer, 4 for each station. The bits
that R170 gives to no notice read 0 (entry 39). -/
def State.noticeFields (s : State) : List Word :=
  let line := fun n : Nat => if h : n < 16 then (s.lineNotices ⟨n, h⟩).toNat else 0
  let station := fun n : Nat => if h : n < 30 then (s.stationNotices ⟨n, h⟩).toNat % 16 else 0
  let fields : List Nat :=
    [s.globalNotices.toNat] ++
    (List.range 8).map (fun j => bitsAt (line (2 * j)) 31 16 + bitsAt (line (2 * j + 1)) 15 0) ++
    [((List.finRange 8).map fun p => (s.packerNotices p).toNat % 8 * 2 ^ (4 * p.val)).sum] ++
    (List.range 4).map (fun g =>
      ((List.range 8).map fun m => station (8 * g + m) * 2 ^ (4 * m)).sum)
  fields.map (BitVec.ofNat 32)

end Sys2Proof.Machine
end

