-- ==== Sys2Proof/Machine/Operands.lean ====
section
/-! DEFINITION. The operand forms: the specification block, the payloads of station frames, and the
bytes of polls (tables 8.1 and 9.1). -/

namespace Sys2Proof.Machine

/-! ## The specification block (9.1, 8.1) -/

/-- The product kind of a code: 1 LAID, 2 NET. -/
def ProductKind.ofCode (n : Nat) : ProductKind :=
  if n = 1 then .laid else if n = 2 then .net else .other n

/-- The 39 bytes of a specification block. -/
def specOf (bs : List Byte) : Spec :=
  { kind := .ofCode (bytesAt bs 0 1), layDirection := bytesAt bs 1 1,
    nominalTwist := bytesAt bs 2 2, twistTolerance := bytesAt bs 4 2, twistSpan := bytesAt bs 6 1,
    persistence := bytesAt bs 7 2, knotsPerRow := bytesAt bs 9 2, rowPitch := bytesAt bs 11 2,
    faultRowsToOpen := bytesAt bs 13 1, soundRowsToClose := bytesAt bs 14 1,
    target := bytesAt bs 15 4, cutLead := bytesAt bs 19 2, allowance := bytesAt bs 21 4,
    minSound := bytesAt bs 25 4, maxJoints := bytesAt bs 29 1, jointMargin := bytesAt bs 30 2,
    rejectShare := bytesAt bs 32 2, densityNominal := bytesAt bs 34 4,
    densityTolerance := bytesAt bs 38 1 }

/-- The fields of the SPEC content after the product kind and the revision. -/
def Spec.tailBytes (sp : Spec) : List Byte :=
  toBytes 1 sp.layDirection ++ toBytes 2 sp.nominalTwist ++ toBytes 2 sp.twistTolerance ++
  toBytes 1 sp.twistSpan ++ toBytes 2 sp.persistence ++ toBytes 2 sp.knotsPerRow ++
  toBytes 2 sp.rowPitch ++ toBytes 1 sp.faultRowsToOpen ++ toBytes 1 sp.soundRowsToClose ++
  toBytes 4 sp.target ++ toBytes 2 sp.cutLead ++ toBytes 4 sp.allowance ++ toBytes 4 sp.minSound ++
  toBytes 1 sp.maxJoints ++ toBytes 2 sp.jointMargin ++ toBytes 2 sp.rejectShare ++
  toBytes 4 sp.densityNominal ++ toBytes 1 sp.densityTolerance

/-- The specification block of a specification, the inverse of `specOf`. -/
def Spec.bytes (sp : Spec) : List Byte := toBytes 1 sp.kind.code ++ sp.tailBytes

/-- The SPEC content of an answer: 40 bytes with the active revision. -/
def Spec.contentBytes (sp : Spec) (revision : Nat) : List Byte :=
  toBytes 1 sp.kind.code ++ toBytes 1 revision ++ sp.tailBytes

/-- A value within a range of table 1.2. -/
def within (v lo hi : Nat) : Bool := decide (lo ≤ v) && decide (v ≤ hi)

/-- R3 check 3: the fields used on LAID. -/
def Spec.laidInRange (sp : Spec) : Bool :=
  within sp.nominalTwist 100 65000 && within sp.twistTolerance 5 300 && within sp.layDirection 0 1 &&
  within sp.twistSpan 1 50 && within sp.persistence 50 20000

/-- R3 check 3: the fields used on NET. -/
def Spec.netInRange (sp : Spec) : Bool :=
  within sp.knotsPerRow 8 1200 && within sp.rowPitch 20 4000 && within sp.faultRowsToOpen 1 16 &&
  within sp.soundRowsToClose 1 64

/-- R3 check 3: the fields used on both kinds. -/
def Spec.commonInRange (sp : Spec) : Bool :=
  within sp.target 1000 4000000 && within sp.cutLead 0 20000 && within sp.allowance 0 200000 &&
  within sp.minSound 0 sp.target && within sp.maxJoints 0 15 && within sp.jointMargin 0 5000 &&
  within sp.rejectShare 0 1000 && within sp.densityNominal 0 Config.wordLimit &&
  within sp.densityTolerance 1 200

/-- R3 check 3: every field of the named kind, or used on both, is within its range. A code that
names no kind counts as a field out of range (9.1). -/
def Spec.inRange (sp : Spec) : Bool :=
  match sp.kind with
  | .laid => sp.laidInRange && sp.commonInRange
  | .net => sp.netInRange && sp.commonInRange
  | .other _ => false

/-! ## Station frames (8.1) -/

/-- A coil key in four bytes: lot number, coil sequence. -/
def keyAt (bs : List Byte) (at0 : Nat) : CoilKey :=
  { lot := bytesAt bs at0 2, sequence := bytesAt bs (at0 + 2) 2 }

/-- Four bytes of a coil key. -/
def CoilKey.bytes (k : CoilKey) : List Byte := toBytes 2 k.lot ++ toBytes 2 k.sequence

/-- The counts block at an offset of a payload. -/
def countsAt (bs : List Byte) (at0 : Nat) : Counts :=
  { spindle := BitVec.ofNat 16 (bytesAt bs at0 2), wheelA := BitVec.ofNat 16 (bytesAt bs (at0 + 2) 2),
    wheelB := BitVec.ofNat 16 (bytesAt bs (at0 + 4) 2),
    rows := BitVec.ofNat 16 (bytesAt bs (at0 + 6) 2) }

/-- The eight bytes of a counts block. -/
def Counts.bytes (c : Counts) : List Byte :=
  toBytes 2 c.spindle.toNat ++ toBytes 2 c.wheelA.toNat ++ toBytes 2 c.wheelB.toNat ++
  toBytes 2 c.rows.toNat

/-- The fault entries of a TALLY, three bytes each. -/
def entriesOf : List Byte → List FaultEntry
  | low :: hi :: lo :: rest =>
    { lowByte := low, tied := hi.toNat * 256 + lo.toNat } :: entriesOf rest
  | _ => []

/-- The three bytes of a fault entry. -/
def FaultEntry.bytes (e : FaultEntry) : List Byte := e.lowByte :: toBytes 2 e.tied

/-- The status byte of a payload; 0 for an empty one. -/
def statusOf (payload : List Byte) : Byte := payload.getD 0 0

/-- Status bit 0: the station has more to send (R157). -/
def moreOf (payload : List Byte) : Bool := (statusOf payload).getLsbD 0

/-- The counting part of a TALLY, MARK or CUT_DONE payload, with its counts block at `at0` and its
fault entries, if any, given. -/
def countFrameOf (payload : List Byte) (at0 : Nat) (es : List FaultEntry) (overflow : Bool) :
    CountFrame :=
  { restarted := (statusOf payload).getLsbD 1, counts := countsAt payload at0, entries := es,
    overflow := overflow }

/-- What a station frame says (8.1). -/
inductive Content where
  | idle
  | tally (f : CountFrame)
  | mark (kind : MarkKind) (f : CountFrame)
  | cutDone (f : CountFrame)
  | askSpec
  | askNext
  | askCoil (key : CoilKey)
  | taken (key : CoilKey)
  | sealed (key : CoilKey) (weight : Nat)
  deriving DecidableEq, Repr

/-- The mark kind of a code. -/
def markKindOf (code : Byte) : Option MarkKind :=
  match code.toNat with
  | 1 => some .joint
  | 2 => some .flawStart
  | 3 => some .flawEnd
  | _ => none

/-- The content of an ASK payload. -/
def askOf (payload : List Byte) : Option Content :=
  match (payload.getD 1 0).toNat, payload.length with
  | 1, 2 => some .askSpec
  | 2, 2 => some .askNext
  | 3, 6 => some (.askCoil (keyAt payload 2))
  | _, _ => none

/-- The content of a TALLY payload. -/
def tallyOf (payload : List Byte) : Option Content :=
  if 9 ≤ payload.length ∧ payload.length ≤ 33 ∧ (payload.length - 9) % 3 = 0 then
    some (.tally (countFrameOf payload 1 (entriesOf (payload.drop 9))
      ((statusOf payload).getLsbD 2)))
  else none

/-- The content of a MARK payload. -/
def markOf (payload : List Byte) : Option Content :=
  if payload.length = 10 then
    (markKindOf (payload.getD 1 0)).map fun k => .mark k (countFrameOf payload 2 [] false)
  else none

/-- The content of a CUT_DONE payload. -/
def cutDoneOf (payload : List Byte) : Option Content :=
  if payload.length = 9 then some (.cutDone (countFrameOf payload 1 [] false)) else none

/-- The content of a SEALED payload. -/
def sealedOf (payload : List Byte) : Option Content :=
  if payload.length = 9 then some (.sealed (keyAt payload 1) (bytesAt payload 5 4)) else none

/-- R160: the content of a frame of a kind; none when the frame is to be discarded, because no
station may send the kind or the payload does not fit it. -/
def contentOf (kind : Byte) (payload : List Byte) : Option Content :=
  match kind.toNat with
  | 0x10 => if payload.length = 1 then some .idle else none
  | 0x11 => tallyOf payload
  | 0x12 => markOf payload
  | 0x13 => cutDoneOf payload
  | 0x14 => askOf payload
  | 0x15 => if payload.length = 5 then some (.taken (keyAt payload 1)) else none
  | 0x16 => sealedOf payload
  | _ => none

/-- R160: whether a station of a role may send a frame. -/
def Content.allowed : Content → Role → Bool
  | .idle, _ => true
  | .askCoil _, _ => true
  | .tally _, .line _ | .mark _ _, .line _ | .cutDone _, .line _ | .askSpec, .line _ => true
  | .askNext, .packer _ | .taken _, .packer _ | .sealed _ _, .packer _ => true
  | .tally _, .packer _ | .mark _ _, .packer _ | .cutDone _, .packer _ | .askSpec, .packer _ => false
  | .askNext, .line _ | .taken _, .line _ | .sealed _ _, .line _ => false

/-! ### Payloads as a station builds them -/

/-- The payload of a TALLY. -/
def tallyPayload (status : Byte) (c : Counts) (es : List FaultEntry) : List Byte :=
  status :: (c.bytes ++ es.flatMap FaultEntry.bytes)

def MarkKind.code : MarkKind → Byte
  | .joint => 1
  | .flawStart => 2
  | .flawEnd => 3

/-- The payload of a MARK. -/
def markPayload (status : Byte) (kind : MarkKind) (c : Counts) : List Byte :=
  status :: kind.code :: c.bytes

/-- The payload of a CUT_DONE. -/
def cutDonePayload (status : Byte) (c : Counts) : List Byte := status :: c.bytes

/-- The payload of an ASK COIL. -/
def askCoilPayload (status : Byte) (k : CoilKey) : List Byte := status :: 3 :: k.bytes

/-- The payload of a TAKEN. -/
def takenPayload (status : Byte) (k : CoilKey) : List Byte := status :: k.bytes

/-- The payload of a SEALED. -/
def sealedPayload (status : Byte) (k : CoilKey) (weight : Nat) : List Byte :=
  status :: (k.bytes ++ toBytes 4 weight)

/-! ## Frames and polls (8.1, R155) -/

/-- A frame of either direction. -/
def frameBytes (address : Nat) (kind flags : Byte) (payload : List Byte) : List Byte :=
  let body := BitVec.ofNat 8 address :: kind :: flags :: BitVec.ofNat 8 payload.length :: payload
  0xA5 :: (body ++ toBytes 2 (crc16 body).toNat)

/-- The order block: the standing order and the remaining of a CUT (R117, R155). -/
def Line.orderBlock (l : Line) : List Byte := toBytes 1 l.order.code ++ toBytes 4 l.remaining

def RefuseReason.code : RefuseReason → Byte
  | .notFound => 1
  | .notHead => 2
  | .wrongState => 3
  | .wrongRole => 4

/-- The COIL content. -/
def CoilAnswer.bytes (a : CoilAnswer) : List Byte :=
  a.key.bytes ++ toBytes 1 a.state.code ++ toBytes 1 a.line.val ++ toBytes 4 a.length ++
  toBytes 1 (a.grade.code + flagAt a.final 7) ++ toBytes 1 (flagAt a.loose 0) ++
  toBytes 1 (packerCode a.packer)

/-- The answer block. -/
def Answer.bytes : Answer → List Byte
  | .spec revision sp => 1 :: sp.contentBytes revision
  | .coil a => 2 :: a.bytes
  | .refuse r => [3, r.code]

/-- The poll flags: REPEAT bit 0, ORDER bit 1, ANSWER bit 2. -/
def pollFlags (rep order answer : Bool) : Byte :=
  BitVec.ofNat 8 (flagAt rep 0 + flagAt order 1 + flagAt answer 2)

/-- R155: a poll: REPEAT when owed, the order block of a line that is not SUSPENDED, and the answer
block that is pending. -/
def pollBytes (address : Nat) (repeatOwed : Bool) (order : Option Line) (answer : Option Answer) :
    List Byte :=
  frameBytes address 0x01 (pollFlags repeatOwed order.isSome answer.isSome)
    ((order.map Line.orderBlock).getD [] ++ (answer.map Answer.bytes).getD [])

end Sys2Proof.Machine
end

