-- ==== Sys2Proof/Machine/Packing.lean ====
section
/-! DEFINITION. The Packer Queue Controller's steps: lookups, TAKEN, SEALED, weighing and the seal
(Chapter 7), and retirement (R24). -/

namespace Sys2Proof.Machine

/-- R145: a density in g/km, rounded half up and saturated to 32 bits. -/
def densityOf (weight length : Nat) : Nat :=
  min Config.wordLimit ((weight * 1000000 + length / 2) / length)

/-- R145: whether a density falls outside the coil's tolerance; a nominal of 0 makes no check. -/
def GradeLimits.densityOff (g : GradeLimits) (density : Nat) : Bool :=
  decide (0 < g.densityNominal) &&
  decide (g.densityTolerance * g.densityNominal <
    (density - g.densityNominal + (g.densityNominal - density)) * 1000)

/-- R145: a seal's weight is applied to a coil of the given length. -/
def Coil.weighed (c : Coil) (weight length : Nat) : Coil :=
  if weight = 0 then c.withReason .unweighed
  else
    let d := densityOf weight length
    let c' := { c with weight := some weight, density := some d }
    if c.limits.densityOff d then c'.withReason .density else c'

/-- R144, R146: a coil is sealed with a weight, leaves its packer's queue and frees a place. -/
def Works.sealAt (w : Works) (p : PackerIx) (k : CoilKey) (weight : Nat) : Works :=
  let w1 := w.leaveQueue p k
  let w2 := w1.modifyCoil k fun c =>
    { c with state := .sealed }.weighed weight (w1.coilLength c)
  ((w2.makeFinal k).raisePacker p Bit.coilSealed).placeFreed p

/-- 7.3: the description of a coil that an answer carries. -/
def Works.coilAnswer (w : Works) (c : Coil) : CoilAnswer :=
  { key := c.key, state := c.state, line := c.line,
    length := min Config.wordLimit (w.coilLength c), grade := c.grade, final := c.final,
    loose := c.reasons.contains .loose, packer := c.packer }

/-- R142: the answer that describes the coil of a key as it now stands. -/
def Works.answerFor (w : Works) (k : CoilKey) : Answer :=
  match w.coil? k with
  | some c => .coil (w.coilAnswer c)
  | none => .refuse .notFound

/-- R142: the answer to an ASK NEXT of packer p. -/
def Works.askNext (w : Works) (p : PackerIx) : Answer :=
  match w.queues[p].head? with
  | some k => w.answerFor k
  | none => .refuse .notFound

/-- R143, R144: whether a packing step that needs its coil in state `need` is accepted at packer p,
or why it is refused. -/
def Works.packingRefusal (w : Works) (p : PackerIx) (k : CoilKey) (need : CoilState) :
    Option RefuseReason :=
  match w.coil? k with
  | none => some .notHead
  | some c =>
    if w.queues[p].head? = some k ∧ (c.state = .full ∨ c.state = .taken) then
      (if c.state = need then none else some .wrongState)
    else if c.state = .sealed then some .wrongState
    else some .notHead

/-- R143: a TAKEN from the station of packer p. -/
def Works.take (w : Works) (p : PackerIx) (k : CoilKey) : Works × Answer :=
  match w.packingRefusal p k .full with
  | some r => (w.raisePacker p Bit.refusedTake, .refuse r)
  | none =>
    let w' := w.modifyCoil k fun c => { c with state := .taken }
    (w', w'.answerFor k)

/-- R144: a SEALED from the station of packer p. -/
def Works.sealByPacker (w : Works) (p : PackerIx) (k : CoilKey) (weight : Nat) : Works × Answer :=
  match w.packingRefusal p k .taken with
  | some r => (w.raisePacker p Bit.refusedTake, .refuse r)
  | none =>
    let w' := w.sealAt p k weight
    (w', w'.answerFor k)

/-- R24: a SEALED coil leaves the table, and the freed entry is handed out. -/
def Works.retire (w : Works) (c : Coil) : Works :=
  ((((w.addRetired c.key.lot (w.coilLength c)).modifyLot c.key.lot fun t =>
      { t with coilsRetired := t.coilsRetired + 1 }).removeCoil c.key)).handOut

end Sys2Proof.Machine
end

