-- ==== Sys2Proof/Machine/LinkEngine.lean ====
section
/-! DEFINITION. The Link Engine: rounds, turns, polls, exchanges, isolation and reinstatement, the
checks on a frame and its way to its owner (Chapter 8). -/

namespace Sys2Proof.Machine

/-! ## Contexts -/

/-- Changes a station's context. -/
def Link.modifyStation (k : Link) (d : StationIx) (f : Station → Station) : Link :=
  { k with stations := k.stations.set d (k.stations[d].map f) }

/-- Changes a station's context. -/
def State.modifyStation (s : State) (d : StationIx) (f : Station → Station) : State :=
  { s with link := s.link.modifyStation d f }

/-- R15: whether the station of a line is isolated. -/
def Link.lineIsolated (k : Link) (i : LineIx) : Bool :=
  (inUse k.stations).any fun st => decide (st.role = .line i) && st.isolated

/-- R153: a context at a warm restart: its address, role, level and counts are kept. -/
def Station.restarted (st : Station) : Station :=
  { Station.start st.role st.level with
    sequenceGaps := st.sequenceGaps, protocolErrors := st.protocolErrors }

/-- R153: the Link Engine at a warm restart. DEDUCED (entry 41): a poll that is still being sent is
cut off with the exchange, and LKDE goes low at once. -/
def Link.restarted (k : Link) : Link :=
  { k with
    stations := mapTable (Option.map Station.restarted) k.stations, roundCount := 0,
    rotation := none, round := none, turn := none, reception := none }

/-- R161: entering HOLD, no further turn, retry or extra exchange is started; an exchange whose
poll was sent, or was being sent (entry 23), completes. -/
def Link.cutShort (k : Link) : Link :=
  { k with
    round := none,
    turn := k.turn.filter fun t => decide (t.phase ≠ .due) }

/-! ## Rounds and turns (R154) -/

/-- R154, R158: whether a level-one station takes a turn when its place in a round comes. A probe
that a STATION_PROBE made due during the round waits for the next one. -/
def Link.takesLevelOne (k : Link) (pos : RoundPosition) (d : StationIx) : Bool :=
  k.stations[d].any fun st =>
    decide (st.level = .one) && (!st.isolated || (st.probeDue && !pos.late.contains d))

/-- R154: whether a level-two station qualifies for the level-two slot. -/
def Link.takesLevelTwo (k : Link) (d : StationIx) : Bool :=
  k.stations[d].any fun st => decide (st.level = .two) && (!st.isolated || st.probeDue)

/-- R154: the level-two stations in the order a round looks at them, from after the rotation
point, wrapping from the highest address to the lowest. -/
def Link.levelTwoOrder (k : Link) : List StationIx :=
  match k.rotation with
  | none => List.finRange 30
  | some r =>
    ((List.finRange 30).filter fun d => decide (r < d)) ++
    ((List.finRange 30).filter fun d => decide (d ≤ r))

/-- R154: the next turn of a round: its station, how far the round has then come, and the rotation
point. -/
def Link.nextTurn? (k : Link) (pos : RoundPosition) :
    Option (StationIx × RoundPosition × Option StationIx) :=
  match (List.finRange 30).find? fun d =>
      decide (pos.levelOneAfter < d.val + 1) && k.takesLevelOne pos d with
  | some d => some (d, { pos with levelOneAfter := d.val + 1 }, k.rotation)
  | none =>
    if pos.levelTwoDone then none
    else
      (k.levelTwoOrder.find? fun d => k.takesLevelTwo d).map fun d =>
        (d, { pos with levelOneAfter := 30, levelTwoDone := true }, some d)

/-- R154: a round with no turn left has ended. -/
def Link.closeRound (k : Link) : Link :=
  match k.turn, k.round with
  | none, some pos => if (k.nextTurn? pos).isNone then { k with round := none } else k
  | _, _ => k

/-- R154: whether the previous round has ended, so that a round may start. -/
def Link.roundEnded (k : Link) : Bool :=
  k.turn.isNone && (k.round.all fun pos => (k.nextTurn? pos).isNone)

/-- R154: at the start of a round an ISOLATED station's rounds since probe rises, and reaching 32
sets its probe due. -/
def Station.countRound (st : Station) : Station :=
  if st.isolated then
    let n := min Config.probeRounds (st.roundsSinceProbe + 1)
    { st with
      roundsSinceProbe := n, probeDue := st.probeDue || decide (n = Config.probeRounds) }
  else st

/-- R154: a round starts. -/
def Link.startRound (k : Link) : Link :=
  Link.closeRound
    { k with
      stations := mapTable (Option.map Station.countRound) k.stations,
      roundCount := (k.roundCount + 1) % 32,
      round := some { levelOneAfter := 0, levelTwoDone := false } }

/-! ## Polls (R155) -/

/-- R155: the order a poll to a station carries: that of its line, unless the line is SUSPENDED. -/
def Works.pollOrder (w : Works) : Role → Option Line
  | .line i => if (w.line i).suspended then none else some (w.line i)
  | .packer _ => none

/-- R155: the poll to a station, from the state now held. -/
def State.pollFor (s : State) (d : StationIx) : List Byte :=
  match s.link.stations[d] with
  | none => []
  | some st => pollBytes (d.val + 1) st.repeatOwed (s.works.pollOrder st.role) st.pending

/-- R155: a poll of the given turn is sent. No frame is in reception after it (entry 24). -/
def State.sendPoll (s : State) (t : Turn) : State :=
  { s with
    link := { s.link with
      turn := some { t with tries := t.tries + 1, phase := .sending }, reception := none,
      lastPoll := s.pollFor t.station } }

/-- R151: the last stop bit of a poll has gone, and the reply is awaited. -/
def State.pollSent (s : State) : State :=
  { s with
    link := { s.link with
      turn := s.link.turn.map fun t =>
        match t.phase with
        | .sending => { t with phase := .waiting }
        | .due | .waiting => t } }

/-- R154, R155: the next poll is sent: the one a turn in progress owes, or the first of the round's
next turn. -/
def State.nextPoll (s : State) : State :=
  match s.link.turn with
  | some t => if t.phase = .due then s.sendPoll t else s
  | none =>
    match s.link.round.bind s.link.nextTurn? with
    | none => s
    | some (d, pos, rot) =>
      let k := { s.link with round := some pos, rotation := rot }
      { s with link := k }.sendPoll
        { station := d, probe := s.link.stations[d].any (fun (st : Station) => st.isolated), tries := 0,
          extras := 0, phase := .due }

/-! ## Failed exchanges, isolation (R156, R158, R161) -/

/-- R156, R157: a turn ends, and with the last one the round. -/
def State.endTurn (s : State) : State :=
  { s with link := { s.link with turn := none }.closeRound }

/-- R17, R18: a line whose station is isolated becomes SUSPENDED, remembering its run state; an IDLE
line stays IDLE. -/
def Works.suspendLine (w : Works) (i : LineIx) : Works :=
  w.modifyLine i fun l =>
    match l.state with
    | .idle => l
    | .primed | .running | .starved | .releasing => { l with suspended := true }

/-- R19: a suspended line returns to its remembered state. -/
def Works.resumeLine (w : Works) (i : LineIx) : Works :=
  w.modifyLine i fun l => { l with suspended := false }

/-- R158: the owner of a station takes its isolation. -/
def Works.ownerIsolated (w : Works) : Role → Works
  | .line i => w.suspendLine i
  | .packer _ => w

/-- R158: the owner of a station takes its reinstatement. -/
def Works.ownerReinstated (w : Works) : Role → Works
  | .line i => w.resumeLine i
  | .packer _ => w

/-- R158: the context of a station that becomes ISOLATED. -/
def Station.isolate (st : Station) : Station :=
  { st with isolated := true, roundsSinceProbe := 0, probeDue := false, pending := none }

/-- R158: whether a failure count isolates a station; a threshold of 0 disables isolation. -/
def isolates (threshold failures : Nat) : Bool :=
  decide (threshold ≠ 0) && decide (threshold ≤ failures)

/-- R158: a failed turn of an ACTIVE station. -/
def State.failedTurn (s : State) (d : StationIx) (st : Station) : State :=
  let n := min Config.byteLimit (st.failures + 1)
  if isolates s.settings.isolationThreshold n then
    { s.modifyStation d (fun st => { st with failures := n }.isolate) with
      works := s.works.ownerIsolated st.role }.endTurn
  else (s.modifyStation d fun st => { st with failures := n }).endTurn

/-- R158: a failed probe of an ISOLATED station. -/
def State.failedProbe (s : State) (d : StationIx) : State :=
  (s.modifyStation d fun st => { st with roundsSinceProbe := 0, probeDue := false }).endTurn

/-- R156, R161: the exchange of a turn fails: repeat is owed, and a retry is owed, or the turn has
failed. -/
def State.failExchange (s : State) (t : Turn) : State :=
  let s1 := s.modifyStation t.station fun st => { st with repeatOwed := true }
  match s1.link.stations[t.station] with
  | none => s1.endTurn
  | some st =>
    if s.partState = .hold then s1.endTurn
    else if t.probe then s1.failedProbe t.station
    else if t.tries ≤ s.settings.retryLimit then
      { s1 with link := { s1.link with turn := some { t with phase := .due } } }
    else s1.failedTurn t.station st

/-- The turn whose exchange is outstanding: its poll is being sent or its reply awaited. -/
def Link.outstanding? (k : Link) : Option Turn := k.turn.filter fun t => decide (t.phase ≠ .due)

/-- R152: the frame in reception, if any, is no longer. -/
def State.endReception (s : State) : State :=
  { s with link := { s.link with reception := none } }

/-- R152, R156: a reception is abandoned or a frame discarded: the exchange that is outstanding, if
any, fails. -/
def State.discardFrame (s : State) : State :=
  match s.link.outstanding? with
  | none => s.endReception
  | some t => s.endReception.failExchange t

/-! ## A frame received intact (R157 to R160) -/

/-- R157 steps 1 and 2, R158: the context after a successful exchange. -/
def Station.heard (st : Station) : Station :=
  let st1 := { st with failures := 0, repeatOwed := false, pending := none }
  if st.isolated then
    { st1 with isolated := false, expected := none, last := none, probeDue := false }
  else st1

/-- R157 steps 1 and 2: the exchange succeeds, and an ISOLATED station is reinstated. -/
def State.exchangeSucceeds (s : State) (d : StationIx) (st : Station) : State :=
  let s1 := s.modifyStation d Station.heard
  if st.isolated then
    { s1 with works := (s1.works.ownerReinstated st.role).raiseStation d Bit.reinstated }
  else s1

inductive SequenceFinding where
  | accepted
  | duplicate
  | gap
  deriving DecidableEq, Repr

/-- R159: the finding on a sequence. -/
def Station.sequenceFinding (st : Station) (sequence : Byte) : SequenceFinding :=
  if st.expected = none ∨ st.expected = some sequence then .accepted
  else if st.last = some sequence then .duplicate
  else .gap

/-- R159: the sequences after a frame that is no duplicate. -/
def Station.sequenced (st : Station) (sequence : Byte) : Station :=
  { st with last := some sequence, expected := some (sequence + 1) }

/-- R16, R159: a gap is counted in a line station's line record. -/
def Works.countGap (w : Works) : Role → Works
  | .line i => w.modifyLine i fun l => { l with sequenceGaps := countUp l.sequenceGaps 1 }
  | .packer _ => w

/-- R159: the sequence check. -/
def State.checkSequence (s : State) (d : StationIx) (role : Role) (sequence : Byte) :
    SequenceFinding → State
  | .accepted => s.modifyStation d fun st => st.sequenced sequence
  | .duplicate => s
  | .gap =>
    { s.modifyStation d (fun st =>
        { st.sequenced sequence with sequenceGaps := countUp st.sequenceGaps 1 }) with
      works := (s.works.raiseStation d Bit.seqGap).countGap role }

/-- R160: a protocol error of a station. -/
def State.protocolError (s : State) (d : StationIx) : State :=
  { s.modifyStation d (fun st => { st with protocolErrors := countUp st.protocolErrors 1 }) with
    works := s.works.raiseStation d Bit.protocol }

/-- R160: an answer becomes the station's pending answer. -/
def State.answer (s : State) (d : StationIx) (a : Answer) : State :=
  s.modifyStation d fun st => { st with pending := some a }

/-- R160: the answer to an ASK SPEC of a line. -/
def Line.specAnswer (l : Line) : Answer :=
  match l.state with
  | .idle => .refuse .notFound
  | .primed | .running | .starved | .releasing => .spec l.revision l.spec

/-- R160: a counting frame, a lookup of the line's specification or a packing step reaches its
owner. A frame that does not belong to the station's role is refused before this. -/
def State.passFrame (s : State) (d : StationIx) : Role → Content → State
  | _, .idle => s
  | _, .askCoil k => s.answer d (s.works.answerFor k)
  | .line i, .tally f => { s with works := s.works.tally s.settings.slipPermille i f }
  | .line i, .mark kind f => { s with works := s.works.mark s.settings.slipPermille i kind f }
  | .line i, .cutDone f =>
    let r := s.works.cutDone s.settings.slipPermille i f
    let s1 := { s with works := r.1 }
    if r.2 then s1.protocolError d else s1
  | .line i, .askSpec => s.answer d (s.works.line i).specAnswer
  | .packer p, .askNext => s.answer d (s.works.askNext p)
  | .packer p, .taken k =>
    let r := s.works.take p k
    { s with works := r.1 }.answer d r.2
  | .packer p, .sealed k weight =>
    let r := s.works.sealByPacker p k weight
    { s with works := r.1 }.answer d r.2
  | _, _ => s

/-- R160: a frame is discarded, refused for its role, or passed on. -/
def State.takeContent (s : State) (d : StationIx) (role : Role) (kind : Byte)
    (payload : List Byte) : State :=
  match contentOf kind payload with
  | none => s.protocolError d
  | some c =>
    if c.allowed role then s.passFrame d role c
    else (s.protocolError d).answer d (.refuse .wrongRole)

/-- R159: whether a frame of a finding goes on to the content check: a duplicate does only when it
is a TALLY or an IDLE. -/
def goesOn (finding : SequenceFinding) (kind : Byte) : Bool :=
  match finding with
  | .accepted | .gap => true
  | .duplicate => decide (kind = 0x11) || decide (kind = 0x10)

/-- R157, R161: after a frame was taken, the turn makes an extra exchange or ends. -/
def State.afterFrame (s : State) (t : Turn) (more : Bool) : State :=
  if more ∧ t.extras < Config.extraLimit ∧ s.partState = .ready then
    { s with
      link := { s.link with
        turn := some
          { t with probe := false, tries := 0, extras := t.extras + 1, phase := .due } } }
  else s.endTurn

/-- R157: a successful exchange takes its frame. -/
def State.takeReply (s : State) (t : Turn) (st : Station) (kind sequence : Byte)
    (payload : List Byte) : State :=
  let s1 := s.exchangeSucceeds t.station st
  let finding := st.heard.sequenceFinding sequence
  let s2 := s1.checkSequence t.station st.role sequence finding
  let s3 := if goesOn finding kind then s2.takeContent t.station st.role kind payload else s2
  s3.afterFrame t (moreOf payload)

/-- R152, R156, R157: an intact frame arrives. It counts only as the reply of the station that was
polled; another address fails the exchange, and without an exchange the frame is discarded. A
payload above 48 bytes is never received intact. -/
def State.takeFrame (s : State) (kind address sequence : Byte) (payload : List Byte) : State :=
  match s.link.outstanding? with
  | none => s.endReception
  | some t =>
    if address.toNat = t.station.val + 1 ∧ payload.length ≤ Config.payloadLimit then
      match s.link.stations[t.station] with
      | none => s.discardFrame
      | some st => s.endReception.takeReply t st kind sequence payload
    else s.discardFrame

/-! ## Reception by characters (R152) -/

/-- R152: whether a complete frame's CRC is right; `bs` runs from its address to its CRC. -/
def frameIntact (bs : List Byte) : Bool :=
  decide (bs.drop (bs.length - 2) =
    toBytes 2 (crc16 (bs.take (bs.length - 2))).toNat)

/-- R152: a complete frame, from its address to its CRC, is taken when it is intact and discarded
when it is not. -/
def State.completeFrame (s : State) (bs : List Byte) : State :=
  if frameIntact bs then
    s.takeFrame (bs.getD 1 0) (bs.getD 0 0) (bs.getD 2 0) ((bs.drop 4).take (bs.length - 6))
  else s.discardFrame

/-- R152: a character arrives with its stop bit high. -/
def State.receive (s : State) (c : Byte) : State :=
  match s.link.reception with
  | none =>
    if c = 0xA5 then { s with link := { s.link with reception := some [] } } else s
  | some bs =>
    let bs' := bs ++ [c]
    let len := (bs'.getD 3 0).toNat
    if bs'.length = 4 ∧ Config.payloadLimit < len then s.discardFrame
    else if bs'.length = len + 6 ∧ 4 ≤ bs'.length then s.completeFrame bs'
    else { s with link := { s.link with reception := some bs' } }

end Sys2Proof.Machine
end

