-- ==== Sys2Proof/Machine/Frames.lean ====
section
/-! DEFINITION. The meanings of the intact frames of the stations (R157 to R160). What a frame says
is read from its payload (entry 10). -/

namespace Sys2Proof.Machine

/-- R160: an IDLE frame. -/
def execIdle (address sequence : Byte) (payload : List Byte) (s : State) :
    Host.Outcome State Fault Refusal :=
  .next (s.takeFrame 0x10 address sequence payload)

/-- R35 to R41, R160: a TALLY frame. -/
def execTally (address sequence : Byte) (payload : List Byte) (s : State) :
    Host.Outcome State Fault Refusal :=
  .next (s.takeFrame 0x11 address sequence payload)

/-- R46, R160: a MARK frame. -/
def execMark (address sequence : Byte) (payload : List Byte) (s : State) :
    Host.Outcome State Fault Refusal :=
  .next (s.takeFrame 0x12 address sequence payload)

/-- R46, R122, R160: a CUT_DONE frame. -/
def execCutDone (address sequence : Byte) (payload : List Byte) (s : State) :
    Host.Outcome State Fault Refusal :=
  .next (s.takeFrame 0x13 address sequence payload)

/-- R160: an ASK frame with lookup SPEC. -/
def execAskSpec (address sequence : Byte) (payload : List Byte) (s : State) :
    Host.Outcome State Fault Refusal :=
  .next (s.takeFrame 0x14 address sequence payload)

/-- R142, R160: an ASK frame with lookup NEXT. -/
def execAskNext (address sequence : Byte) (payload : List Byte) (s : State) :
    Host.Outcome State Fault Refusal :=
  .next (s.takeFrame 0x14 address sequence payload)

/-- R142, R160: an ASK frame with lookup COIL. -/
def execAskCoil (address sequence : Byte) (payload : List Byte) (s : State) :
    Host.Outcome State Fault Refusal :=
  .next (s.takeFrame 0x14 address sequence payload)

/-- R143, R160: a TAKEN frame. -/
def execTaken (address sequence : Byte) (payload : List Byte) (s : State) :
    Host.Outcome State Fault Refusal :=
  .next (s.takeFrame 0x15 address sequence payload)

/-- R144, R160: a SEALED frame. -/
def execSealed (address sequence : Byte) (payload : List Byte) (s : State) :
    Host.Outcome State Fault Refusal :=
  .next (s.takeFrame 0x16 address sequence payload)

/-- R160: a frame of a kind that no station may send. -/
def execInvalidFrameKind (kind address sequence : Byte) (payload : List Byte) (s : State) :
    Host.Outcome State Fault Refusal :=
  .next (s.takeFrame kind address sequence payload)

end Sys2Proof.Machine
end

