-- ==== Sys2Proof/Machine/LinkEvents.lean ====
section
/-! DEFINITION. The meanings of the Link Engine's own steps and of receptions that fail. -/

namespace Sys2Proof.Machine

/-- R154: a round starts, once the previous one has ended; only in READY (R153, R161). -/
def execRoundStart (s : State) : Host.Outcome State Fault Refusal :=
  .next (if s.partState = .ready ∧ s.link.roundEnded then { s with link := s.link.startRound } else s)

/-- R155: the next poll is sent; only in READY (R153, R161). -/
def execPollSend (s : State) : Host.Outcome State Fault Refusal :=
  .next (if s.partState = .ready then s.nextPoll else s)

/-- R151, R156: the poll's last stop bit has gone; LKDE falls and the reply is awaited. -/
def execPollTransmitDone (s : State) : Host.Outcome State Fault Refusal := .next s.pollSent

/-- R156: no start marker within the reply timeout: the exchange fails. Once a reply has begun the
character time-out governs. -/
def execReplyTimeout (s : State) : Host.Outcome State Fault Refusal :=
  .next (if s.link.reception.isNone then s.discardFrame else s)

/-- R152, R156: no character within 4 character times of the previous one of the frame. -/
def execCharacterTimeout (s : State) : Host.Outcome State Fault Refusal := .next s.discardFrame

/-- R152, R156: a frame is abandoned, or complete with a wrong CRC; the cause makes no difference.
-/
def execFrameNotIntact (_cause : NotIntact) (s : State) : Host.Outcome State Fault Refusal :=
  .next s.discardFrame

/-- R152, R156: an intact frame carries another address, or no poll is outstanding. -/
def execFrameWrongAddress (s : State) : Host.Outcome State Fault Refusal := .next s.discardFrame

/-- R152: a character arrives with its stop bit high. -/
def execCharacterReceived (character : Byte) (s : State) : Host.Outcome State Fault Refusal :=
  .next (s.receive character)

end Sys2Proof.Machine
end

