-- ==== Sys2Proof/Machine/PartState.lean ====
section
/-! DEFINITION. LOADING, READY and HOLD, the store requests, the restarts and the passing of time
(R167, R168, R174, R175). -/

namespace Sys2Proof.Machine

/-! ## Results -/

/-- R163: a result replaces the result buffer. -/
def State.respondWith (s : State) (r : ResultBuffer) : State :=
  { s with port := { s.port with result := r, storeOutcomeWanted := false } }

/-- R163: a result of a status alone. -/
def State.respond (s : State) (st : Status) : State := s.respondWith (.plain st)

/-! ## Store requests (R167) -/

/-- R167: a BUSY store request is ended at its next byte boundary. Whether the EEPROM had already
acknowledged the data byte of a write is a free value (entry 12). -/
def State.abortStore (s : State) : State :=
  match s.port.store with
  | none => s
  | some r =>
    let s1 := { s with port := { s.port with store := none, storeOutcomeWanted := false } }
    match r.data with
    | none => s1
    | some b =>
      { s1 with
        eeprom :=
          if Config.abortedWriteAcknowledged s.freeIndex then Memory.write s.eeprom r.address b
          else s.eeprom,
        freeIndex := s.freeIndex + 1 }

/-- R167: the outcome of a transfer that has ended. Its first field is 0, which the rule does not
state (entry 26). -/
def storeOutcome (acknowledged : Bool) (read : Byte) : ResultBuffer :=
  if acknowledged then { ResultBuffer.plain .ok with aux := read, fields := [0] }
  else { ResultBuffer.plain .ok with fields := [1] }

/-- R167: the byte a transfer reads; a write leaves the auxiliary byte 0 (entry 25). -/
def State.storeReadByte (s : State) (r : StoreRequest) : Byte :=
  match r.data with
  | none => Memory.read s.eeprom r.address
  | some _ => 0

/-- R167: the EEPROM after a transfer that has ended. -/
def State.storeWritten (s : State) (r : StoreRequest) (acknowledged : Bool) : List Host.Cell :=
  match r.data with
  | some b => if acknowledged then Memory.write s.eeprom r.address b else s.eeprom
  | none => s.eeprom

/-- R167: a transfer ends. -/
def State.endTransfer (s : State) (acknowledged : Bool) : State :=
  match s.port.store with
  | none => s
  | some r =>
    let s1 :=
      { s with
        eeprom := s.storeWritten r acknowledged,
        port := { s.port with store := none, storeOutcomeWanted := false } }
    if s.port.storeOutcomeWanted then
      s1.respondWith (storeOutcome acknowledged (s.storeReadByte r))
    else s1

/-- R167: a store request begins, or is refused while one is in flight. -/
def State.startTransfer (s : State) (r : StoreRequest) : State :=
  match s.port.store with
  | some _ => s.respond .busy
  | none =>
    { s with
      port := { s.port with
        result := .plain .busy, store := some r, storeOutcomeWanted := true } }

/-! ## LOADING (R174) -/

/-- R28, R116: a line record at the start of LOADING: the IDLE values, with the configuration that
stands until the image is read. -/
def Line.cleared (l : Line) : Line :=
  { Line.reset with
    kind := l.kind, address := l.address, wheelA := l.wheelA, wheelB := l.wheelB,
    measure := l.measure, check := l.check }

/-- R28, R149, R169: the records at the start of LOADING. -/
def Works.cleared (w : Works) : Works :=
  { Works.reset with lines := mapTable Line.cleared w.lines, lanes := w.lanes }

/-- R162, R168: the port on entering LOADING; a transaction in progress will be discarded. -/
def Port.loading (p : Port) : Port :=
  { p with
    result := .plain .busy,
    transaction := p.transaction.map fun t => { t with discarded := true },
    store := none, storeOutcomeWanted := false }

/-- R174 step 1: the part enters LOADING. -/
def State.enterLoading (s : State) : State :=
  let s1 := s.abortStore
  { s1 with
    partState := .loading, resumeTimer := none, works := s1.works.cleared,
    link := { Link.reset with lastPoll := s1.link.lastPoll }, port := s1.port.loading }

/-- R33, R172: the notices of a load. -/
def Works.raiseLoad (w : Works) (rejected : Bool) (conflicts : List LineIx) : Works :=
  conflicts.foldl (fun w i => w.raiseLine i Bit.wheelsDefaulted)
    (if rejected then w.raiseGlobal Bit.loadErr else w)

/-- R174 steps 2 to 4: the load of an image ends. -/
def State.loaded (s : State) (img : Image) (rejected : Bool) : State :=
  let w := { s.works with lines := tableOf img.lineRecord, lanes := img.lanes }
  { s with
    settings := img.settings, works := w.raiseLoad rejected img.conflicts,
    link := { Link.reset with stations := img.stations, lastPoll := s.link.lastPoll },
    partState := if s.supplyOk then .ready else .hold, resumeTimer := none,
    port := { s.port with result := .plain .ok, store := none, storeOutcomeWanted := false } }

/-- R174: LOAD_COMPLETE, in LOADING. -/
def State.completeLoad (s : State) (acknowledged : Bool) : State :=
  match s.partState with
  | .loading =>
    let r := judgeImage acknowledged s.eeprom
    s.loaded r.1 r.2
  | .ready | .hold => s

/-! ## HOLD (R161, R175) -/

/-- R175: a fall of SUPPLY_OK. -/
def State.supplyFalls (s : State) : State :=
  let s1 := { s with supplyOk := false }
  match s.partState with
  | .ready => { s1 with partState := .hold, resumeTimer := none, link := s.link.cutShort }
  | .hold => { s1 with resumeTimer := none }
  | .loading => s1

/-- R175: a rise of SUPPLY_OK. -/
def State.supplyRises (s : State) : State :=
  let s1 := { s with supplyOk := true }
  match s.partState with
  | .hold => { s1 with resumeTimer := some 0 }
  | .ready | .loading => s1

/-- R175: the resume timer reaches its end with SUPPLY_OK high. -/
def State.resume (s : State) : State :=
  if s.partState = .hold ∧ s.resumeTimer.isSome ∧ s.supplyOk then
    { s with partState := .ready, resumeTimer := none }
  else s

/-! ## RESTART_WARM (R168) -/

/-- R168, R169: every event notice is cleared; the conditions that hold stand of themselves. -/
def Works.clearEvents (w : Works) : Works := { w with notices := .clear }

/-- R29: each suspended line returns to its remembered state. -/
def Works.resumeLines (w : Works) : Works :=
  { w with lines := mapTable (fun l => { l with suspended := false }) w.lines }

/-- R168: a warm restart. -/
def State.warmRestart (s : State) : State :=
  let s1 := s.abortStore
  { s1 with
    link := s1.link.restarted, works := s1.works.resumeLines.clearEvents,
    port := { s1.port with inputBuffer := [] } }.respond .ok

/-! ## Time (R27, R175; entry 5) -/

/-- R27, R175: one millisecond passes on the time base and on a running resume timer, whose last
millisecond is RESUME_TIMER_EXPIRY's. -/
def State.tick (s : State) : State :=
  { s with
    timeBase := s.timeBase + 1,
    resumeTimer := s.resumeTimer.map fun n => min (n + 1) (Config.resumeTime - 1) }

end Sys2Proof.Machine
end

