-- ==== Sys2Proof/Machine/PartEvents.lean ====
section
/-! DEFINITION. The meanings of the power, reset, supply, load and store events. -/

namespace Sys2Proof.Machine

/-- R168, R174: power comes up. The time base is 0 (R27), the settings are not loaded (entry 1), and
the EEPROM and the level of SUPPLY_OK are what they were. -/
def execPowerOn (s : State) : Host.Outcome State Fault Refusal :=
  .next (State.enterLoading
    { s with
      timeBase := 0, settings := .reset, works := .reset, link := .reset,
      port := { s.port with inputBuffer := [], hso := [] } })

/-- R27, R174: RESETN is asserted, during a load too. -/
def execResetnAssert (s : State) : Host.Outcome State Fault Refusal :=
  .next { s with timeBase := 0 }.enterLoading

/-- R174: the settings image has been read, with every byte acknowledged or not. -/
def execLoadComplete (acknowledged : Bool) (s : State) : Host.Outcome State Fault Refusal :=
  .next (s.completeLoad acknowledged)

/-- R175: SUPPLY_OK falls. -/
def execSupplyOkFall (s : State) : Host.Outcome State Fault Refusal := .next s.supplyFalls

/-- R175: SUPPLY_OK rises. -/
def execSupplyOkRise (s : State) : Host.Outcome State Fault Refusal := .next s.supplyRises

/-- R175: the resume timer reaches 50 ms. -/
def execResumeTimerExpiry (s : State) : Host.Outcome State Fault Refusal := .next s.resume

/-- R167: the transfer of a store request ends. -/
def execStoreTransferDone (acknowledged : Bool) (s : State) : Host.Outcome State Fault Refusal :=
  .next (s.endTransfer acknowledged)

end Sys2Proof.Machine
end

