-- ==== Sys2Proof/Machine/HostPort.lean ====
section
/-! DEFINITION. The Host Port: transactions, the common checks, the readout, and each command's own
checks and effect (Chapter 9). -/

namespace Sys2Proof.Machine

/-! ## Transactions and the readout (R162, R164) -/

/-- The codes of the result statuses (R163). -/
def Status.code : Status → Nat
  | .ok => 0
  | .malformed => 1
  | .outOfRange => 2
  | .unknownLot => 3
  | .unknownCoil => 4
  | .lotExists => 5
  | .tableFull => 6
  | .wrongKind => 7
  | .wrongState => 8
  | .hasCoils => 9
  | .revisionLimit => 10
  | .held => 11
  | .busy => 12

/-- R164: the number of the field that the readout sends k-th. -/
def ResultBuffer.fieldNumber (r : ResultBuffer) (k : Nat) : Nat :=
  match r.mode with
  | .wrap16 => r.firstField / 16 * 16 + (r.firstField % 16 + k) % 16
  | .run32 => (r.firstField + k) % 32

/-- R164: a field as it reads; one beyond the field count reads 0. -/
def ResultBuffer.field (r : ResultBuffer) (n : Nat) : Word := r.fields.getD n 0

/-- R164: the byte that HSO sends n-th in a RESULT transaction. -/
def ResultBuffer.readByte (r : ResultBuffer) : Nat → Byte
  | 0 => BitVec.ofNat 8 r.status.code
  | 1 => BitVec.ofNat 8 r.fields.length
  | 2 => r.aux
  | n + 3 => (toBytes 4 (r.field (r.fieldNumber (n / 4))).toNat).getD (n % 4) 0

/-- R164: the first bytes of a readout. -/
def ResultBuffer.readout (r : ResultBuffer) (count : Nat) : List Byte :=
  (List.range count).map r.readByte

/-- R162: what HSO sends in a transaction of a command code and its argument bytes: the status, and
then the readout for RESULT and 00h for any other. -/
def ResultBuffer.sent (r : ResultBuffer) (code : Byte) (args : List Byte) : List Byte :=
  if code = 0x40 then r.readout (args.length + 1)
  else r.readByte 0 :: List.replicate args.length 0

/-- R162: the result buffer as it stood at the fall of HSELN; without a TRANSACTION_START the fall
is taken to be in the same event (entry 8). -/
def Port.latched (p : Port) : ResultBuffer := (p.transaction.map fun t => t.latched).getD p.result

/-- R162: HSO while the n-th byte of a transaction of a command code is clocked: high impedance
(none) while HSELN is high, that is outside a transaction, and else a byte of the latched result
buffer, the status first, then the readout for RESULT and 00h for any other code. -/
def State.hsoByte? (s : State) (code : Byte) (n : Nat) : Option Byte :=
  s.port.transaction.map fun t => if n = 0 ∨ code = 0x40 then t.latched.readByte n else 0

/-- R162: HSELN rises with a whole transaction. What the input buffer holds afterwards the spec does
not say: the model keeps the transaction's bytes until the next fall of HSELN (entry 8). -/
def State.release (s : State) (code : Byte) (args : List Byte) : State :=
  { s with
    port := { s.port with
      transaction := none, inputBuffer := code :: args, hso := s.port.latched.sent code args } }

/-- R162: whether the transaction is discarded, because the part entered LOADING during it. -/
def State.transactionDiscarded (s : State) : Bool := s.port.transaction.any fun t => t.discarded

/-- R163: the common checks 3 and 4, and then the command's own. -/
def State.commonChecks (s : State) (count : Nat) (changesRecords : Bool) (args : List Byte)
    (act : State → State) : State :=
  if args.length ≠ count then s.respond .malformed
  else if changesRecords ∧ s.partState = .hold then s.respond .held
  else act s

/-- R162, R163: a transaction is taken, unless it is discarded or the part is LOADING. -/
def State.transact (s : State) (code : Byte) (args : List Byte) (take : State → State) : State :=
  let t := s.release code args
  if s.transactionDiscarded ∨ t.partState = .loading then t else take t

/-- R162, R163: a transaction of a command code of the table, with the argument count of table 9.1.
-/
def State.hostCommand (s : State) (code : Byte) (count : Nat) (changesRecords : Bool)
    (args : List Byte) (act : State → State) : State :=
  s.transact code args fun t => t.commonChecks count changesRecords args act

/-- R163: a command that changed the records is answered OK. -/
def State.accept (s : State) (w : Works) : State := { s with works := w }.respond .ok

/-! ## Keys in arguments -/

/-- A line index, 0-15. -/
def lineOf (n : Nat) : Option LineIx := if h : n < 16 then some ⟨n, h⟩ else none

/-! ## Lot commands (R3 to R8) -/

/-- R3: a lot as LOT_OPEN creates it. -/
def Lot.opening (n : Nat) (sp : Spec) : Lot :=
  { number := n, state := .opened, spec := sp, revision := 0, produced := 0, unassigned := 0,
    retired := 0, coilsMade := 0, coilsRetired := 0, nextSequence := 1 }

/-- R3: LOT_OPEN. -/
def State.lotOpen (s : State) (n : Nat) (sp : Spec) : State :=
  if n = 0 then s.respond .outOfRange
  else if (s.works.lot? n).isSome then s.respond .lotExists
  else if sp.inRange = false then s.respond .outOfRange
  else
    match lowestFree s.works.lots with
    | none => s.respond .tableFull
    | some e =>
      s.accept { s.works with lots := s.works.lots.set e (some (Lot.opening n sp)) }

/-- R5, R99: the current coil of a PRIMED line takes the new revision and its grade limits. -/
def Works.reviseCoil (w : Works) (i : LineIx) : Works :=
  match (w.line i).coil with
  | none => w
  | some k => w.modifyCoil k fun c =>
      { c with revision := (w.line i).revision, limits := (w.line i).spec.limits }

/-- R5: an amendment reaches a line of the lot's running set. -/
def Works.amendLine (w : Works) (n : Nat) (i : LineIx) : Works :=
  if (w.line i).lot = some n then
    match (w.line i).state with
    | .idle => w
    | .primed => (w.copySpec i).reviseCoil i
    | .starved => w.copySpec i
    | .running | .releasing => w.modifyLine i fun l => { l with amendPending := true }
  else w

/-- R4, R5: an accepted LOT_AMEND. -/
def Works.amend (w : Works) (n : Nat) (sp : Spec) : Works :=
  (List.finRange 16).foldl (fun w i => w.amendLine n i)
    (w.modifyLot n fun l => { l with spec := sp, revision := l.revision + 1 })

/-- R4: LOT_AMEND. A code that names no product kind counts as a field out of range (entry 16). -/
def State.lotAmend (s : State) (n : Nat) (sp : Spec) : State :=
  match s.works.lot? n with
  | none => s.respond .unknownLot
  | some lot =>
    if lot.state = .closed then s.respond .wrongState
    else if (sp.kind = .laid ∨ sp.kind = .net) ∧ sp.kind ≠ lot.spec.kind then s.respond .wrongKind
    else if sp.inRange = false then s.respond .outOfRange
    else if 255 ≤ lot.revision then s.respond .revisionLimit
    else s.accept (s.works.amend n sp)

/-- R6: LOT_CLOSE. -/
def State.lotClose (s : State) (n : Nat) : State :=
  match s.works.lot? n with
  | none => s.respond .unknownLot
  | some lot =>
    match lot.state with
    | .closing | .closed => s.respond .wrongState
    | .opened =>
      s.accept ((s.works.modifyLot n fun l => { l with state := .closing }).closeIfEmpty n)

/-- R8: LOT_RETIRE. -/
def State.lotRetire (s : State) (n : Nat) : State :=
  match s.works.lot? n with
  | none => s.respond .unknownLot
  | some lot =>
    match lot.state with
    | .opened | .closing => s.respond .wrongState
    | .closed =>
      if 0 < s.works.coilsHeld n then s.respond .hasCoils
      else s.accept (s.works.removeLot n)

/-! ## Line commands (R14, R15, R34, R130, R137) -/

/-- R15: the line record of an accepted assignment, before its coil opens. -/
def Line.assigned (l : Line) (lot : Lot) (isolated : Bool) : Line :=
  { l.resetMonitor with
    spec := lot.spec, revision := lot.revision, amendPending := false, position := 0,
    remainder := 0, baselinesValid := false, cut := .noCut, reserved := none, cutPoint := 0,
    halted := false, starve := none, jointClose := none, slip := .reset, lot := some lot.number,
    state := .primed, suspended := isolated }

/-- R14 check 6: the product a kind of line accepts. -/
def LineKind.accepts : LineKind → ProductKind → Bool
  | .twist, .laid => true
  | .knot, .net => true
  | _, _ => false

/-- R14, R15: LINE_ASSIGN of a line and a lot number. The last two checks of R14 are the answers of
the coil opening (R20). -/
def State.assign (s : State) (i : LineIx) (n : Nat) : State :=
  let l := s.works.line i
  if l.kind = .unused then s.respond .wrongKind
  else
    match s.works.lot? n with
    | none => s.respond .unknownLot
    | some lot =>
      if l.state ≠ .idle ∨ lot.state ≠ .opened then s.respond .wrongState
      else if l.kind.accepts lot.spec.kind = false then s.respond .wrongKind
      else
        match (s.works.modifyLine i fun l => l.assigned lot (s.link.lineIsolated i)).openCoil i 0 with
        | .error _ => s.respond .tableFull
        | .ok w => s.accept w

/-- R14: LINE_ASSIGN. -/
def State.lineAssign (s : State) (line n : Nat) : State :=
  match lineOf line with
  | none => s.respond .outOfRange
  | some i => s.assign i n

/-- R130 to R132: LINE_RELEASE. -/
def State.lineRelease (s : State) (line : Nat) : State :=
  match lineOf line with
  | none => s.respond .outOfRange
  | some i =>
    let l := s.works.line i
    if l.state = .idle ∨ (l.state = .releasing ∧ l.suspended = false) then s.respond .wrongState
    else s.accept (s.works.release i)

/-- The measure source of a code of LINE_WHEELS (table 9.1). -/
def measureCode (n : Nat) : Option MeasureSource :=
  match n with
  | 1 => some .wheelA
  | 2 => some .wheelB
  | 3 => some .rows
  | _ => none

/-- The check source of a code of LINE_WHEELS. -/
def checkCode (n : Nat) : Option CheckSource :=
  match n with
  | 0 => some .off
  | 1 => some .wheelA
  | 2 => some .wheelB
  | _ => none

/-- R34: a change of check source returns the slip detector to NORMAL, closing its zone. -/
def Works.resetSlip (w : Works) (i : LineIx) : Works :=
  let w1 :=
    if (w.line i).slip.slipping then w.requestClose i .slip (w.line i).position else w
  w1.modifyLine i fun l => { l with slip := l.slip.toNormal }

/-- R32, R34: an accepted LINE_WHEELS. -/
def Works.setWheels (w : Works) (i : LineIx) (m : MeasureSource) (c : CheckSource) : Works :=
  let l := w.line i
  let pair := judgedPair l.kind m c
  let w1 := if pair.2 = l.check then w else w.resetSlip i
  let w2 := w1.modifyLine i fun l => { l with measure := pair.1, check := pair.2 }
  if pairConflicts l.kind m c then w2.raiseLine i Bit.wheelsDefaulted else w2

/-- R34: LINE_WHEELS. -/
def State.lineWheels (s : State) (line m c : Nat) : State :=
  match lineOf line, measureCode m, checkCode c with
  | some i, some m, some c =>
    if (s.works.line i).kind = .unused then s.respond .wrongKind
    else s.accept (s.works.setWheels i m c)
  | _, _, _ => s.respond .outOfRange

/-- The lane of a code of LANE_SET: 0-7, or 255 for NONE. -/
def laneCode (n : Nat) : Option (Option PackerIx) :=
  if n = 255 then some none else if h : n < 8 then some (some ⟨n, h⟩) else none

/-- R137: LANE_SET. -/
def State.laneSet (s : State) (line lane : Nat) : State :=
  match lineOf line, laneCode lane with
  | some i, some p =>
    if (s.works.line i).kind = .unused then s.respond .wrongKind
    else s.accept { s.works with lanes := s.works.lanes.set i p }
  | _, _ => s.respond .outOfRange

/-! ## Coil commands (R107, R146, R24) -/

/-- R107: COIL_MARK. -/
def State.coilMark (s : State) (k : CoilKey) (start stop : Nat) : State :=
  match s.works.coil? k with
  | none => s.respond .unknownCoil
  | some c =>
    let len := s.works.coilLength c
    if c.state = .sealed then s.respond .wrongState
    else if stop < start then s.respond .outOfRange
    else if c.overlapsOperator (min start len) (min stop len) len then s.respond .outOfRange
    else s.accept (s.works.placeOperator k (min start len) (min stop len))

/-- R146: COIL_SEAL. -/
def State.coilSeal (s : State) (k : CoilKey) (weight : Nat) : State :=
  match s.works.coil? k with
  | none => s.respond .unknownCoil
  | some c =>
    match c.state, c.packer with
    | .full, some p => s.accept (s.works.sealAt p k weight)
    | .taken, some p => s.accept (s.works.sealAt p k weight)
    | _, _ => s.respond .wrongState

/-- R24: COIL_RETIRE. -/
def State.coilRetire (s : State) (k : CoilKey) : State :=
  match s.works.coil? k with
  | none => s.respond .unknownCoil
  | some c =>
    match c.state with
    | .opened | .full | .taken => s.respond .wrongState
    | .sealed => s.accept (s.works.retire c)

/-! ## Reading (R165, R166, R170) -/

/-- R165: a record view as a result, with auxiliary byte 0 (entry 25). -/
def recordResult (fields : List Word) (first : Nat) : ResultBuffer :=
  { status := .ok, aux := 0, fields := fields, firstField := first, mode := .wrap16 }

/-- R165: the view of a record of a kind and a key, or why it is refused. -/
def State.recordView (s : State) (kind key : Nat) : Except Status (List Word) :=
  match kind with
  | 1 =>
    match s.works.lot? key with
    | some l => .ok (s.lotView l)
    | none => .error .unknownLot
  | 2 =>
    match lineOf key with
    | some i => .ok (s.lineView i)
    | none => .error .outOfRange
  | 3 =>
    match s.works.coil? { lot := key / 65536, sequence := key % 65536 } with
    | some c => .ok (s.coilView c)
    | none => .error .unknownCoil
  | 4 =>
    match stationOf key with
    | none => .error .outOfRange
    | some d =>
      match s.link.stations[d] with
      | some st => .ok (s.stationView d st)
      | none => .error .outOfRange
  | _ => .error .outOfRange

/-- R165: READ_RECORD. -/
def State.readRecord (s : State) (kind key first : Nat) : State :=
  if kind = 0 ∨ 4 < kind ∨ 31 < first then s.respond .outOfRange
  else
    match s.recordView kind key with
    | .error st => s.respond st
    | .ok fields => s.respondWith (recordResult fields first)

/-- R166: a page of keys as a result. -/
def listResult (page : List Word × Byte) : ResultBuffer :=
  { status := .ok, aux := page.2, fields := page.1, firstField := 0, mode := .run32 }

/-- R166: LIST_KEYS. -/
def State.listKeys (s : State) (table start : Nat) : State :=
  match table with
  | 1 =>
    if 32 ≤ start then s.respond .outOfRange
    else s.respondWith (listResult (listPage (keysFrom s.works.lots start lotKeyWord) 32))
  | 2 =>
    if 96 ≤ start then s.respond .outOfRange
    else s.respondWith (listResult (listPage (keysFrom s.works.coils start coilKeyWord) 96))
  | _ => s.respond .outOfRange

/-- R170: the notice snapshot as a result. -/
def State.noticeResult (s : State) : ResultBuffer :=
  { status := .ok, aux := if s.attn then 1 else 0, fields := s.noticeFields, firstField := 0,
    mode := .run32 }

/-- R170: NOTICE_READ; in read-clears mode the event notices it shows are cleared. -/
def State.noticeRead (s : State) : State :=
  let r := s.noticeResult
  let s1 := if s.settings.writeOneClears then s else { s with works := s.works.clearEvents }
  s1.respondWith r

/-- R170: the event notices of one set that a mask names are cleared. -/
def Notices.clearBits (n : Notices) (kind index : Nat) (mask : Half) : Option Notices :=
  match kind with
  | 0 => if index = 0 then some { n with global := n.global &&& ~~~mask } else none
  | 1 => if h : index < 16 then
      some { n with line := n.line.set index (n.line[index] &&& ~~~mask) } else none
  | 2 => if h : index < 8 then
      some { n with packer := n.packer.set index (n.packer[index] &&& ~~~mask) } else none
  | 3 => (stationOf index).map fun (d : StationIx) =>
      { n with station := n.station.set d (n.station[d] &&& ~~~mask) }
  | _ => none

/-- R170: whether a set kind and index name a station address without a station. -/
def State.noStation (s : State) (kind index : Nat) : Bool :=
  decide (kind = 3) && !((stationOf index).any fun d => s.link.stations[d].isSome)

/-- R170: NOTICE_CLEAR. -/
def State.noticeClear (s : State) (kind index : Nat) (mask : Half) : State :=
  if s.noStation kind index then s.respond .outOfRange
  else
    match s.works.notices.clearBits kind index mask with
    | none => s.respond .outOfRange
    | some n => s.accept { s.works with notices := n }

/-! ## STATION_PROBE (R158, R163) -/

/-- R158: whether a STATION_PROBE makes the probe of a level-one station due, which then waits for
the next round's level-one pass. -/
def Station.probeWaits (st : Station) : Bool :=
  st.isolated && !st.probeDue && decide (st.level = .one)

/-- R158: a station is kept back from the level-one pass of a round in progress. -/
def Link.keepBack (k : Link) (d : StationIx) : Link :=
  { k with round := k.round.map fun pos => { pos with late := pos.late ++ [d] } }

/-- R158: on an ISOLATED station a probe falls due at once; on an ACTIVE one nothing changes. -/
def Link.probe (k : Link) (d : StationIx) (st : Station) : Link :=
  if st.isolated then
    (if st.probeWaits then k.keepBack d else k).modifyStation d fun st => { st with probeDue := true }
  else k

/-- R158, R163: STATION_PROBE. -/
def State.stationProbe (s : State) (address : Nat) : State :=
  match stationOf address with
  | none => s.respond .outOfRange
  | some d =>
    match s.link.stations[d] with
    | none => s.respond .outOfRange
    | some st => { s with link := s.link.probe d st }.respond .ok

end Sys2Proof.Machine
end

