-- ==== Sys2Proof/Machine/CoilCommands.lean ====
section
/-! DEFINITION. The meanings of the coil commands. -/

namespace Sys2Proof.Machine

/-- R107: COIL_MARK: coil key, start, end. -/
def execCoilMark (args : List Byte) (s : State) : Host.Outcome State Fault Refusal :=
  .next (s.hostCommand 0x10 12 true args fun t =>
    t.coilMark (keyAt args 0) (bytesAt args 4 4) (bytesAt args 8 4))

/-- R146: COIL_SEAL: coil key, weight. -/
def execCoilSeal (args : List Byte) (s : State) : Host.Outcome State Fault Refusal :=
  .next (s.hostCommand 0x11 8 true args fun t =>
    t.coilSeal (keyAt args 0) (bytesAt args 4 4))

/-- R24: COIL_RETIRE: coil key. -/
def execCoilRetire (args : List Byte) (s : State) : Host.Outcome State Fault Refusal :=
  .next (s.hostCommand 0x12 4 true args fun t =>
    t.coilRetire (keyAt args 0))

end Sys2Proof.Machine
end

