-- ==== Sys2Proof/Machine/LineCommands.lean ====
section
/-! DEFINITION. The meanings of the line commands. -/

namespace Sys2Proof.Machine

/-- R14, R15: LINE_ASSIGN: line index, lot number. -/
def execLineAssign (args : List Byte) (s : State) : Host.Outcome State Fault Refusal :=
  .next (s.hostCommand 0x08 3 true args fun t =>
    t.lineAssign (bytesAt args 0 1) (bytesAt args 1 2))

/-- R130 to R132: LINE_RELEASE: line index. -/
def execLineRelease (args : List Byte) (s : State) : Host.Outcome State Fault Refusal :=
  .next (s.hostCommand 0x09 1 true args fun t =>
    t.lineRelease (bytesAt args 0 1))

/-- R34: LINE_WHEELS: line index, measure source, check source. -/
def execLineWheels (args : List Byte) (s : State) : Host.Outcome State Fault Refusal :=
  .next (s.hostCommand 0x0A 3 true args fun t =>
    t.lineWheels (bytesAt args 0 1) (bytesAt args 1 1) (bytesAt args 2 1))

/-- R137: LANE_SET: line index, lane. -/
def execLaneSet (args : List Byte) (s : State) : Host.Outcome State Fault Refusal :=
  .next (s.hostCommand 0x0B 2 true args fun t =>
    t.laneSet (bytesAt args 0 1) (bytesAt args 1 1))

end Sys2Proof.Machine
end

