-- ==== Sys2Proof/Machine/LotCommands.lean ====
section
/-! DEFINITION. The meanings of the lot commands. -/

namespace Sys2Proof.Machine

/-- R3: LOT_OPEN: lot number, specification block. -/
def execLotOpen (args : List Byte) (s : State) : Host.Outcome State Fault Refusal :=
  .next (s.hostCommand 0x01 41 true args fun t =>
    t.lotOpen (bytesAt args 0 2) (specOf (args.drop 2)))

/-- R4, R5: LOT_AMEND: lot number, specification block. -/
def execLotAmend (args : List Byte) (s : State) : Host.Outcome State Fault Refusal :=
  .next (s.hostCommand 0x02 41 true args fun t =>
    t.lotAmend (bytesAt args 0 2) (specOf (args.drop 2)))

/-- R6: LOT_CLOSE: lot number. -/
def execLotClose (args : List Byte) (s : State) : Host.Outcome State Fault Refusal :=
  .next (s.hostCommand 0x03 2 true args fun t =>
    t.lotClose (bytesAt args 0 2))

/-- R8: LOT_RETIRE: lot number. -/
def execLotRetire (args : List Byte) (s : State) : Host.Outcome State Fault Refusal :=
  .next (s.hostCommand 0x04 2 true args fun t =>
    t.lotRetire (bytesAt args 0 2))

end Sys2Proof.Machine
end

