-- ==== Sys2Proof/Machine/ReadCommands.lean ====
section
/-! DEFINITION. The meanings of the commands that read records and handle notices. -/

namespace Sys2Proof.Machine

/-- R165: READ_RECORD: kind, key, first field. -/
def execReadRecord (args : List Byte) (s : State) : Host.Outcome State Fault Refusal :=
  .next (s.hostCommand 0x18 6 false args fun t =>
    t.readRecord (bytesAt args 0 1) (bytesAt args 1 4) (bytesAt args 5 1))

/-- R166: LIST_KEYS: table, start index. -/
def execListKeys (args : List Byte) (s : State) : Host.Outcome State Fault Refusal :=
  .next (s.hostCommand 0x19 2 false args fun t =>
    t.listKeys (bytesAt args 0 1) (bytesAt args 1 1))

/-- R170: NOTICE_READ. -/
def execNoticeRead (args : List Byte) (s : State) : Host.Outcome State Fault Refusal :=
  .next (s.hostCommand 0x20 0 false args fun t =>
    t.noticeRead)

/-- R170: NOTICE_CLEAR: set kind, set index, mask. -/
def execNoticeClear (args : List Byte) (s : State) : Host.Outcome State Fault Refusal :=
  .next (s.hostCommand 0x21 4 false args fun t =>
    t.noticeClear (bytesAt args 0 1) (bytesAt args 1 1) (BitVec.ofNat 16 (bytesAt args 2 2)))

/-- R163, R164: RESULT. It only clocks the readout; the result buffer is not replaced, and while the
part is LOADING it reads the BUSY that the buffer holds (R168). -/
def execResult (args : List Byte) (s : State) : Host.Outcome State Fault Refusal := .next (s.release 0x40 args)

/-- R162: HSELN falls, and the first byte and the readout are latched. The input buffer starts empty
(entry 8). -/
def execTransactionStart (s : State) : Host.Outcome State Fault Refusal :=
  .next { s with
    port := { s.port with
      transaction := some { latched := s.port.result, discarded := false }, inputBuffer := [] } }

end Sys2Proof.Machine
end

