-- ==== Sys2Proof/Machine/SystemCommands.lean ====
section
/-! DEFINITION. The meanings of the store, probe and restart commands, and of a code that is in no
row of table 9.1. -/

namespace Sys2Proof.Machine

/-- R167: STORE_READ: EEPROM byte address. -/
def execStoreRead (args : List Byte) (s : State) : Host.Outcome State Fault Refusal :=
  .next (s.hostCommand 0x28 2 false args fun t =>
    t.startTransfer { address := bytesAt args 0 2, data := none })

/-- R167: STORE_WRITE: EEPROM byte address, data byte. -/
def execStoreWrite (args : List Byte) (s : State) : Host.Outcome State Fault Refusal :=
  .next (s.hostCommand 0x29 3 false args fun t =>
    t.startTransfer { address := bytesAt args 0 2, data := some (args.getD 2 0) })

/-- R158, R163: STATION_PROBE: station address. -/
def execStationProbe (args : List Byte) (s : State) : Host.Outcome State Fault Refusal :=
  .next (s.hostCommand 0x30 1 false args fun t =>
    t.stationProbe (bytesAt args 0 1))

/-- R168: RESTART_WARM. -/
def execRestartWarm (args : List Byte) (s : State) : Host.Outcome State Fault Refusal :=
  .next (s.hostCommand 0x3E 0 false args fun t =>
    t.warmRestart)

/-- R168, R174: RESTART_COLD. -/
def execRestartCold (args : List Byte) (s : State) : Host.Outcome State Fault Refusal :=
  .next (s.hostCommand 0x3F 0 false args fun t =>
    t.enterLoading)

/-- R163 check 2: a code that is not in table 9.1 is refused MALFORMED. A code that is in it is that
command (entry 11). -/
def execUnknownCommandCode (code : Byte) (args : List Byte) (s : State) :
    Host.Outcome State Fault Refusal :=
  match code.toNat with
  | 0x01 => execLotOpen args s
  | 0x02 => execLotAmend args s
  | 0x03 => execLotClose args s
  | 0x04 => execLotRetire args s
  | 0x08 => execLineAssign args s
  | 0x09 => execLineRelease args s
  | 0x0A => execLineWheels args s
  | 0x0B => execLaneSet args s
  | 0x10 => execCoilMark args s
  | 0x11 => execCoilSeal args s
  | 0x12 => execCoilRetire args s
  | 0x18 => execReadRecord args s
  | 0x19 => execListKeys args s
  | 0x20 => execNoticeRead args s
  | 0x21 => execNoticeClear args s
  | 0x28 => execStoreRead args s
  | 0x29 => execStoreWrite args s
  | 0x30 => execStationProbe args s
  | 0x3E => execRestartWarm args s
  | 0x3F => execRestartCold args s
  | 0x40 => execResult args s
  | _ => .next (s.transact code args fun t => t.respond .malformed)

end Sys2Proof.Machine
end

