-- ==== Sys2Proof/Machine/Dispatch.lean ====
section
/-! DEFINITION. One arm per row of the opcode table. -/

namespace Sys2Proof.Machine

def exec (i : Instr) (s : State) : Host.Outcome State Fault Refusal :=
  match i with
  | .lotOpen args => Sys2Proof.Machine.execLotOpen args s
  | .lotAmend args => Sys2Proof.Machine.execLotAmend args s
  | .lotClose args => Sys2Proof.Machine.execLotClose args s
  | .lotRetire args => Sys2Proof.Machine.execLotRetire args s
  | .lineAssign args => Sys2Proof.Machine.execLineAssign args s
  | .lineRelease args => Sys2Proof.Machine.execLineRelease args s
  | .lineWheels args => Sys2Proof.Machine.execLineWheels args s
  | .laneSet args => Sys2Proof.Machine.execLaneSet args s
  | .coilMark args => Sys2Proof.Machine.execCoilMark args s
  | .coilSeal args => Sys2Proof.Machine.execCoilSeal args s
  | .coilRetire args => Sys2Proof.Machine.execCoilRetire args s
  | .readRecord args => Sys2Proof.Machine.execReadRecord args s
  | .listKeys args => Sys2Proof.Machine.execListKeys args s
  | .noticeRead args => Sys2Proof.Machine.execNoticeRead args s
  | .noticeClear args => Sys2Proof.Machine.execNoticeClear args s
  | .storeRead args => Sys2Proof.Machine.execStoreRead args s
  | .storeWrite args => Sys2Proof.Machine.execStoreWrite args s
  | .stationProbe args => Sys2Proof.Machine.execStationProbe args s
  | .restartWarm args => Sys2Proof.Machine.execRestartWarm args s
  | .restartCold args => Sys2Proof.Machine.execRestartCold args s
  | .result args => Sys2Proof.Machine.execResult args s
  | .unknownCommandCode code args => Sys2Proof.Machine.execUnknownCommandCode code args s
  | .transactionStart => Sys2Proof.Machine.execTransactionStart s
  | .storeTransferDone acknowledged => Sys2Proof.Machine.execStoreTransferDone acknowledged s
  | .powerOn => Sys2Proof.Machine.execPowerOn s
  | .resetnAssert => Sys2Proof.Machine.execResetnAssert s
  | .loadComplete acknowledged => Sys2Proof.Machine.execLoadComplete acknowledged s
  | .supplyOkFall => Sys2Proof.Machine.execSupplyOkFall s
  | .supplyOkRise => Sys2Proof.Machine.execSupplyOkRise s
  | .resumeTimerExpiry => Sys2Proof.Machine.execResumeTimerExpiry s
  | .roundStart => Sys2Proof.Machine.execRoundStart s
  | .pollSend => Sys2Proof.Machine.execPollSend s
  | .pollTransmitDone => Sys2Proof.Machine.execPollTransmitDone s
  | .replyTimeout => Sys2Proof.Machine.execReplyTimeout s
  | .characterTimeout => Sys2Proof.Machine.execCharacterTimeout s
  | .frameNotIntact cause => Sys2Proof.Machine.execFrameNotIntact cause s
  | .frameWrongAddress => Sys2Proof.Machine.execFrameWrongAddress s
  | .idle address sequence payload => Sys2Proof.Machine.execIdle address sequence payload s
  | .tally address sequence payload => Sys2Proof.Machine.execTally address sequence payload s
  | .mark address sequence payload => Sys2Proof.Machine.execMark address sequence payload s
  | .cutDone address sequence payload => Sys2Proof.Machine.execCutDone address sequence payload s
  | .askSpec address sequence payload => Sys2Proof.Machine.execAskSpec address sequence payload s
  | .askNext address sequence payload => Sys2Proof.Machine.execAskNext address sequence payload s
  | .askCoil address sequence payload => Sys2Proof.Machine.execAskCoil address sequence payload s
  | .taken address sequence payload => Sys2Proof.Machine.execTaken address sequence payload s
  | .sealed address sequence payload => Sys2Proof.Machine.execSealed address sequence payload s
  | .invalidFrameKind kind address sequence payload => Sys2Proof.Machine.execInvalidFrameKind kind address sequence payload s
  | .characterReceived character => Sys2Proof.Machine.execCharacterReceived character s

end Sys2Proof.Machine
end

