-- ==== Sys2Proof/WellFormed.lean ====
section
/-! DEFINITION. Which commands are well formed: a host command with the table's argument count, a
frame with the payload its kind has. Every command, well formed or not, has its meaning: the part
answers an ill-formed one MALFORMED (R163) or discards it as a protocol error (R160). -/

namespace Sys2Proof

/-- The command codes of table 9.1. -/
def hostCodes : List Byte :=
  [0x01, 0x02, 0x03, 0x04, 0x08, 0x09, 0x0A, 0x0B, 0x10, 0x11, 0x12, 0x18, 0x19, 0x20, 0x21,
   0x28, 0x29, 0x30, 0x3E, 0x3F, 0x40]

/-- A link address, 1-30 (R151). -/
def addressOk (a : Byte) : Bool := decide (1 ≤ a.toNat ∧ a.toNat ≤ 30)

/-- A TALLY payload: status, counts block and 0-8 fault entries (R151, R160). -/
def tallyLengthOk (n : Nat) : Bool := decide (9 ≤ n ∧ n ≤ 33 ∧ (n - 9) % 3 = 0)

/-- The kinds a station may send (R160). -/
def stationKinds : List Byte := [0x10, 0x11, 0x12, 0x13, 0x14, 0x15, 0x16]

/-- The check on a command's operands. -/
def Instr.wf : Instr → Bool
  | .lotOpen a | .lotAmend a => a.length == 41
  | .lotClose a | .lotRetire a | .laneSet a | .listKeys a | .storeRead a => a.length == 2
  | .lineAssign a | .lineWheels a | .storeWrite a => a.length == 3
  | .lineRelease a | .stationProbe a => a.length == 1
  | .coilMark a => a.length == 12
  | .coilSeal a => a.length == 8
  | .coilRetire a | .noticeClear a => a.length == 4
  | .readRecord a => a.length == 6
  | .noticeRead a | .restartWarm a | .restartCold a => a.length == 0
  | .result _ => true
  | .unknownCommandCode c _ => !hostCodes.contains c
  | .transactionStart | .storeTransferDone _ | .powerOn | .resetnAssert | .loadComplete _
  | .supplyOkFall | .supplyOkRise | .resumeTimerExpiry | .roundStart | .pollSend
  | .pollTransmitDone | .replyTimeout | .characterTimeout | .frameNotIntact _
  | .frameWrongAddress | .characterReceived _ => true
  | .idle a _ p => addressOk a && p.length == 1
  | .tally a _ p => addressOk a && tallyLengthOk p.length
  | .mark a _ p => addressOk a && p.length == 10 && ([1, 2, 3] : List Byte).contains (p.getD 1 0)
  | .cutDone a _ p => addressOk a && p.length == 9
  | .askSpec a _ p => addressOk a && p.length == 2 && p.getD 1 0 == 1
  | .askNext a _ p => addressOk a && p.length == 2 && p.getD 1 0 == 2
  | .askCoil a _ p => addressOk a && p.length == 6 && p.getD 1 0 == 3
  | .taken a _ p => addressOk a && p.length == 5
  | .sealed a _ p => addressOk a && p.length == 9
  | .invalidFrameKind k a _ p => addressOk a && decide (p.length ≤ 48) && !stationKinds.contains k

end Sys2Proof
end

