-- ==== Sys2Proof/Safety.lean ====
section
/-! DEFINITION. The terms that claims about the part are stated in: host transactions, exchanges on
the link, and the invariants that every step keeps. -/

namespace Sys2Proof

/-- The command code and argument bytes of a host command row (table 9.1); none for an event. -/
def Instr.transaction? : Instr → Option (Byte × List Byte)
  | .lotOpen a => some (0x01, a)
  | .lotAmend a => some (0x02, a)
  | .lotClose a => some (0x03, a)
  | .lotRetire a => some (0x04, a)
  | .lineAssign a => some (0x08, a)
  | .lineRelease a => some (0x09, a)
  | .lineWheels a => some (0x0A, a)
  | .laneSet a => some (0x0B, a)
  | .coilMark a => some (0x10, a)
  | .coilSeal a => some (0x11, a)
  | .coilRetire a => some (0x12, a)
  | .readRecord a => some (0x18, a)
  | .listKeys a => some (0x19, a)
  | .noticeRead a => some (0x20, a)
  | .noticeClear a => some (0x21, a)
  | .storeRead a => some (0x28, a)
  | .storeWrite a => some (0x29, a)
  | .stationProbe a => some (0x30, a)
  | .restartWarm a => some (0x3E, a)
  | .restartCold a => some (0x3F, a)
  | .result a => some (0x40, a)
  | .unknownCommandCode c a => some (c, a)
  | .transactionStart | .storeTransferDone _ | .powerOn | .resetnAssert | .loadComplete _
  | .supplyOkFall | .supplyOkRise | .resumeTimerExpiry | .roundStart | .pollSend
  | .pollTransmitDone | .replyTimeout | .characterTimeout | .frameNotIntact _
  | .frameWrongAddress | .idle _ _ _ | .tally _ _ _ | .mark _ _ _ | .cutDone _ _ _
  | .askSpec _ _ _ | .askNext _ _ _ | .askCoil _ _ _ | .taken _ _ _ | .sealed _ _ _
  | .invalidFrameKind _ _ _ _ | .characterReceived _ => none

/-- R163 check 4: the commands that HOLD refuses. -/
def Instr.changesRecords : Instr → Bool
  | .lotOpen _ | .lotAmend _ | .lotClose _ | .lotRetire _ | .lineAssign _ | .lineRelease _
  | .lineWheels _ | .laneSet _ | .coilMark _ | .coilSeal _ | .coilRetire _ => true
  | .readRecord _ | .listKeys _ | .noticeRead _ | .noticeClear _ | .storeRead _ | .storeWrite _
  | .stationProbe _ | .restartWarm _ | .restartCold _ | .result _ | .unknownCommandCode _ _
  | .transactionStart | .storeTransferDone _ | .powerOn | .resetnAssert | .loadComplete _
  | .supplyOkFall | .supplyOkRise | .resumeTimerExpiry | .roundStart | .pollSend
  | .pollTransmitDone | .replyTimeout | .characterTimeout | .frameNotIntact _
  | .frameWrongAddress | .idle _ _ _ | .tally _ _ _ | .mark _ _ _ | .cutDone _ _ _
  | .askSpec _ _ _ | .askNext _ _ _ | .askCoil _ _ _ | .taken _ _ _ | .sealed _ _ _
  | .invalidFrameKind _ _ _ _ | .characterReceived _ => false

/-- The rows of the station link: the Link Engine's own steps, failed receptions and frames. -/
def Instr.onLink : Instr → Bool
  | .roundStart | .pollSend | .pollTransmitDone | .replyTimeout | .characterTimeout
  | .frameNotIntact _ | .frameWrongAddress | .idle _ _ _ | .tally _ _ _ | .mark _ _ _
  | .cutDone _ _ _ | .askSpec _ _ _ | .askNext _ _ _ | .askCoil _ _ _ | .taken _ _ _
  | .sealed _ _ _ | .invalidFrameKind _ _ _ _ | .characterReceived _ => true
  | .lotOpen _ | .lotAmend _ | .lotClose _ | .lotRetire _ | .lineAssign _ | .lineRelease _
  | .lineWheels _ | .laneSet _ | .coilMark _ | .coilSeal _ | .coilRetire _ | .readRecord _
  | .listKeys _ | .noticeRead _ | .noticeClear _ | .storeRead _ | .storeWrite _
  | .stationProbe _ | .restartWarm _ | .restartCold _ | .result _ | .unknownCommandCode _ _
  | .transactionStart | .storeTransferDone _ | .powerOn | .resetnAssert | .loadComplete _
  | .supplyOkFall | .supplyOkRise | .resumeTimerExpiry => false

/-- The kind, address, sequence and payload of the frame that a frame row stands for (8.1). -/
def Instr.frame? : Instr → Option (Byte × Byte × Byte × List Byte)
  | .idle a q p => some (0x10, a, q, p)
  | .tally a q p => some (0x11, a, q, p)
  | .mark a q p => some (0x12, a, q, p)
  | .cutDone a q p => some (0x13, a, q, p)
  | .askSpec a q p | .askNext a q p | .askCoil a q p => some (0x14, a, q, p)
  | .taken a q p => some (0x15, a, q, p)
  | .sealed a q p => some (0x16, a, q, p)
  | .invalidFrameKind k a q p => some (k, a, q, p)
  | .lotOpen _ | .lotAmend _ | .lotClose _ | .lotRetire _ | .lineAssign _ | .lineRelease _
  | .lineWheels _ | .laneSet _ | .coilMark _ | .coilSeal _ | .coilRetire _ | .readRecord _
  | .listKeys _ | .noticeRead _ | .noticeClear _ | .storeRead _ | .storeWrite _
  | .stationProbe _ | .restartWarm _ | .restartCold _ | .result _ | .unknownCommandCode _ _
  | .transactionStart | .storeTransferDone _ | .powerOn | .resetnAssert | .loadComplete _
  | .supplyOkFall | .supplyOkRise | .resumeTimerExpiry | .roundStart | .pollSend
  | .pollTransmitDone | .replyTimeout | .characterTimeout | .frameNotIntact _
  | .frameWrongAddress | .characterReceived _ => none

namespace Machine

/-! ## Host transactions -/

/-- R162, R163: a transaction released now is taken: the part is not LOADING, nor was it since the
transaction began. -/
def State.takesCommands (s : State) : Prop :=
  s.partState ≠ .loading ∧ s.transactionDiscarded = false

/-- R163: a record-changing command released now is taken and not refused HELD. -/
def State.takesRecordCommands (s : State) : Prop :=
  s.partState = .ready ∧ s.transactionDiscarded = false

/-- The state after the release of a transaction that was answered with a result and did nothing
else (R162, R163). -/
def State.answered (s : State) (code : Byte) (args : List Byte) (r : ResultBuffer) : State :=
  { s with
    port := { s.port with
      transaction := none, inputBuffer := code :: args, hso := s.port.latched.sent code args,
      result := r, storeOutcomeWanted := false } }

/-! ## Exchanges on the link -/

/-- A frame of an ACTIVE station of a role is due: its poll is outstanding, no frame carries MORE
into an extra exchange, and its sequence is the expected one (R157, R159). -/
structure State.expects (s : State) (d : StationIx) (role : Role) (address sequence : Byte)
    (payload : List Byte) : Prop where
  outstanding : (s.link.outstanding?.map fun t => t.station) = some d
  own : address.toNat = d.val + 1
  active : s.link.stations[d].any (fun st =>
    decide (st.role = role) && !st.isolated &&
      decide (st.expected = none ∨ st.expected = some sequence))
    = true
  fits : payload.length ≤ Config.payloadLimit
  last : moreOf payload = false

/-- R157, R159: the context of an ACTIVE station whose frame was taken in sequence. -/
def Station.taken (st : Station) (sequence : Byte) : Station :=
  { st with
    failures := 0, repeatOwed := false, pending := none, last := some sequence,
    expected := some (sequence + 1) }

/-- The state after a frame was taken that changed the records to `w` and left an answer, if any:
the turn has ended (R157). -/
def State.afterReply (s : State) (d : StationIx) (sequence : Byte) (answer : Option Answer)
    (w : Works) : State :=
  State.endTurn
    { s with
      works := w,
      link := { s.link with
        reception := none,
        stations := s.link.stations.set d
          (s.link.stations[d].map fun st => { st.taken sequence with pending := answer }) } }

/-- R35, R37: a TALLY of a line that is RUNNING, RELEASING or STARVED is due, and its counts can be
trusted against the line's baselines: it is credited. -/
structure State.creditable (s : State) (d : StationIx) (i : LineIx) (address sequence : Byte)
    (payload : List Byte) : Prop where
  due : s.expects d (.line i) address sequence payload
  length : tallyLengthOk payload.length = true
  runs : (s.works.line i).state = .running ∨ (s.works.line i).state = .releasing ∨
    (s.works.line i).state = .starved
  counting : (payload.getD 0 0).getLsbD 1 = false
  spindle : ((countsAt payload 1).spindle - (s.works.line i).baselines.spindle).toNat < 32768
  wheelA : ((countsAt payload 1).wheelA - (s.works.line i).baselines.wheelA).toNat < 32768
  wheelB : ((countsAt payload 1).wheelB - (s.works.line i).baselines.wheelB).toNat < 32768
  rows : ((countsAt payload 1).rows - (s.works.line i).baselines.rows).toNat < 32768

/-- R37, R47: the measure source's difference of a frame from a line's baselines, read as signed. -/
def Line.signedMeasure (l : Line) (counts : Counts) : Int :=
  match l.measure with
  | .wheelA => (counts.wheelA - l.baselines.wheelA).toInt
  | .wheelB => (counts.wheelB - l.baselines.wheelB).toInt
  | .rows => (counts.rows - l.baselines.rows).toInt

/-- R49: the start of a line's current coil, which bounds a resolved position from below. -/
def Works.coilStart (w : Works) (i : LineIx) : Nat :=
  ((w.currentCoil? i).map fun c => c.start).getD 0

/-- R46 to R48: a TALLY with a frame's counts and counters-restarted flag and no fault entries would
leave the records `w`. -/
def State.countsTo (s : State) (d : StationIx) (address sequence : Byte) (restarted : Bool)
    (counts : Counts) (w : Works) : Prop :=
  exec (.tally address sequence (tallyPayload (if restarted then 2 else 0) counts [])) s =
    .next (s.afterReply d sequence none w)

/-- R46 to R49: `w` are the records and `pos` the resolved position with which a MARK or CUT_DONE of
a line is handed on. An IDLE line hands on nothing. -/
inductive State.handsOn (s : State) (d : StationIx) (i : LineIx) (address sequence : Byte)
    (restarted : Bool) (counts : Counts) : Works → Nat → Prop
  /-- The first counts of a PRIMED line are taken as by a TALLY, and the position is 0. -/
  | primed (w : Works) : (s.works.line i).state = .primed →
    s.countsTo d address sequence restarted counts w →
    handsOn s d i address sequence restarted counts w 0
  /-- A frame at or behind the baselines credits nothing, and lies behind the run position by the
  measure source's difference. -/
  | behind (pos : Nat) :
    (s.works.line i).state ≠ .idle → (s.works.line i).state ≠ .primed →
    restarted = false → -32768 < (s.works.line i).signedMeasure counts →
    (s.works.line i).signedMeasure counts ≤ 0 →
    pos = max
      (((((s.works.line i).position * 1000 + (s.works.line i).remainder : Nat) : Int) +
        (s.works.line i).signedMeasure counts *
          (match (s.works.line i).measure with
            | .wheelA => (s.works.line i).wheelA
            | .wheelB => (s.works.line i).wheelB
            | .rows => (s.works.line i).spec.rowPitch * 100 : Nat)) / 1000).toNat
      (s.works.coilStart i) →
    handsOn s d i address sequence restarted counts s.works pos
  /-- A frame ahead of the baselines is credited, or resyncs the line, as a TALLY does, and so does
  one resolved by resync; it lies at the run position. -/
  | counted (w : Works) :
    (s.works.line i).state ≠ .idle → (s.works.line i).state ≠ .primed →
    restarted = true ∨ (s.works.line i).signedMeasure counts = -32768 ∨
      0 < (s.works.line i).signedMeasure counts →
    s.countsTo d address sequence restarted counts w →
    handsOn s d i address sequence restarted counts w
      (max (w.line i).position (w.coilStart i))

/-- Events taken one after the other; the first that gives no next state ends the run. -/
def execAll : List Instr → State → Host.Outcome State Fault Refusal
  | [], s => .next s
  | c :: cs, s =>
    match exec c s with
    | .next t => execAll cs t
    | .fault r => .fault r
    | .refused r => .refused r

/-! ## Zone requests (5.2) -/

/-- What a source asks of the zone list of a line's current coil: to open a zone of a cause or to
close it, at a run position, or to raise its extreme value. -/
inductive ZoneRequest where
  | openAt (cause : Cause) (pos : Nat) (extreme : Int)
  | closeAt (cause : Cause) (pos : Nat)
  | raise (cause : Cause) (extreme : Int)
  deriving DecidableEq, Repr

/-- R100 to R103: what one request leaves of a coil's zones and reasons, and whether it raises
ZONE_OPENED. The reasons are meant as a set. -/
def Coil.asked (c : Coil) : ZoneRequest → Coil × Bool
  | .openAt q pos extreme =>
    let start := ((c.zones.filter fun z => decide (z.cause = q)).map fun z =>
      z.stop.getD 0).foldl max (pos - c.start)
    if (∃ z ∈ c.zones, z.cause = q ∧ z.stop = none) ∨ q ∈ c.unlistedOpen then (c, false)
    else if 8 ≤ c.zones.length then
      ({ c with
          unlisted := min 255 (c.unlisted + 1), unlistedOpen := c.unlistedOpen ++ [q],
          reasons := .zoneOverflow :: c.reasons }, true)
    else
      ({ c with
          zones := (c.zones.takeWhile fun z => decide (z.start ≤ start)) ++
            { cause := q, start := start, stop := none, extreme := extreme } ::
              c.zones.dropWhile fun z => decide (z.start ≤ start),
          reasons := .zones :: c.reasons }, true)
  | .closeAt q pos =>
    if ∃ z ∈ c.zones, z.cause = q ∧ z.stop = none then
      ({ c with
          zones := c.zones.map fun z =>
            if z.cause = q ∧ z.stop = none then
              { z with stop := some (max z.start (pos - c.start)) }
            else z }, false)
    else ({ c with unlistedOpen := c.unlistedOpen.filter fun x => decide (x ≠ q) }, false)
  | .raise q extreme =>
    ({ c with
        zones := c.zones.map fun z =>
          if z.cause = q ∧ z.stop = none then
            { z with extreme := if q = .slip then max z.extreme extreme else extreme }
          else z }, false)

/-- Requests that reach a coil one after the other, and whether any of them raises ZONE_OPENED. -/
def Coil.askedAll : List ZoneRequest → Coil → Coil × Bool
  | [], c => (c, false)
  | r :: rs, c =>
    let x := Coil.askedAll rs (c.asked r).1
    (x.1, (c.asked r).2 || x.2)

/-- R73: a Twist Monitor's request as one of cause TWIST. -/
def TwistRequest.asks : TwistRequest → List ZoneRequest
  | .nothing => []
  | .openAt pos extreme => [.openAt .twist pos extreme]
  | .closeAt pos => [.closeAt .twist pos]
  | .raise extreme => [.raise .twist extreme]

/-- R92: a Knot Monitor's request as one of cause KNOT. -/
def KnotRequest.asks : KnotRequest → List ZoneRequest
  | .nothing => []
  | .openAt pos extreme => [.openAt .knot pos extreme]
  | .closeAt pos => [.closeAt .knot pos]
  | .raise extreme => [.raise .knot extreme]

/-- R92: the requests of the rows of one tally, in the order of the rows. -/
def KnotMonitor.rowsAsk (sp : Spec) : List Row → KnotMonitor → List ZoneRequest
  | [], _ => []
  | r :: rs, m => (m.row sp r).2.asks ++ KnotMonitor.rowsAsk sp rs (m.row sp r).1

/-- R42, R44, R45: what the slip detector asks for on a tally of two lengths in micrometres. -/
def SlipDetector.asks (m : SlipDetector) (permille measure check : Nat) : List ZoneRequest :=
  let larger := max measure check
  let gap := (larger - min measure check) * 1000
  if larger < 100000 then []
  else if permille * larger < gap then
    (if m.slipping then [.raise .slip (gap / larger : Nat)]
    else if 2 ≤ m.slipRun then
      [.openAt .slip m.slipStart (max m.slipPeak (gap / larger) : Nat)]
    else [])
  else if m.slipping ∧ 2 ≤ m.cleanRun then [.closeAt .slip m.cleanStart]
  else []

/-- R105: what a pending joint close asks for when a run position has reached it. -/
def jointAsks (pending : Option Nat) (pos : Nat) : List ZoneRequest :=
  match pending with
  | none => []
  | some p => if p ≤ pos then [.closeAt .joint p] else []

/-- R41: the zone requests that a credited tally of a line brings, in order: those of its monitor,
that of the slip detector, and the close of the pending joint. `l` is the line before the credit
and `pos` the run position after it. -/
def Line.tallyAsks (l : Line) (permille : Nat) (counts : Counts) (entries : List FaultEntry)
    (overflow : Bool) (pos : Nat) : List ZoneRequest :=
  let diff := counts.minus l.baselines
  (match l.kind with
    | .unused => []
    | .twist => (l.twist.tally l.spec (l.measureLength diff) diff.spindle.toNat l.position
        pos).2.asks
    | .knot => l.knot.rowsAsk l.spec
        (classifyRows l.spec counts.rows diff.rows.toNat entries overflow l.position)) ++
  (match l.checkLength? diff with
    | none => []
    | some check => l.slip.asks permille (l.measureLength diff) check) ++
  jointAsks l.jointClose pos

/-! ## The end of a coil (R108, R113, R124, R125) -/

/-- R125: the packer that takes the coil a line ends: the one its ordered cut has reserved, else
that of its lane while a place is free there; none seals the coil loose. -/
def Works.packerFor (w : Works) (i : LineIx) : Option PackerIx :=
  if (w.line i).cut = .ordered ∧ (w.line i).reserved ≠ none then (w.line i).reserved
  else w.lanes[i].filter fun p => decide (w.placesInUse p < 6)

/-- `b` is what remains of the coil `c` when it ends at the run position `stop` and goes to a packer
or is sealed loose: every open zone closes at the end (one that starts beyond it at its own start,
entry 15), the reasons of the end join, and the grade is recomputed. -/
structure Coil.endsAs (c b : Coil) (stop : Nat) (reasons : List Reason)
    (packer : Option PackerIx) : Prop where
  frame : b = { c with
    stop := some stop, zones := b.zones, unlistedOpen := [], reasons := b.reasons,
    state := b.state, packer := b.packer, grade := b.grade, final := b.final }
  zones : b.zones = c.zones.map fun z =>
    if z.stop = none then { z with stop := some (max z.start (stop - c.start)) } else z
  reasons : ∀ r, r ∈ b.reasons ↔ r ∈ c.reasons ∨ r ∈ reasons ∨
    (r = .short ∧ stop - c.start < c.limits.minSound) ∨
    (packer = none ∧ (r = .loose ∨ r = .unweighed))
  grade : c.final = false → b.grade = b.gradeAt (stop - c.start)
  queued : packer ≠ none → b.state = .full ∧ b.packer = packer ∧ b.final = c.final
  loose : packer = none → b.state = .sealed ∧ b.packer = c.packer ∧ b.final = true

/-- R138: the queues once a coil with a key has gone to a packer, if to any. -/
def Works.queuesWith (w : Works) (k : CoilKey) (packer : Option PackerIx) :
    Vector (List CoilKey) 8 :=
  match packer with
  | none => w.queues
  | some p => w.queues.set p (w.queues[p] ++ [k])

/-- R120, R140: the held lists once a line's wait, if its cut is HELD, is withdrawn. -/
def Works.heldWithout (w : Works) (i : LineIx) : Vector (List LineIx) 8 :=
  match (w.line i).cut, (w.line i).reserved with
  | .held, some p => w.held.set p (w.held[p].filter fun j => decide (j ≠ i))
  | _, _ => w.held

/-! ## The hand-out of a freed coil entry (R26) -/

/-- R26: the lot of a line has no sequence left. -/
def Works.exhausted (v : Works) (i : LineIx) : Bool :=
  ((v.line i).lot.bind v.lot?).all fun t => decide (10000 ≤ t.nextSequence)

/-- R75, R95, R109: the zones that a line's monitors and slip detector ask for when it receives a
coil from the wait list, in that order. -/
def Line.reopened (l : Line) : List Zone :=
  (if l.twist.band = .out ∨ l.twist.band = .recovering then
    [{ cause := .twist, start := 0, stop := none, extreme := l.twist.extreme }] else []) ++
  (if l.knot.faulted then
    [{ cause := .knot, start := 0, stop := none, extreme := l.knot.extreme }] else []) ++
  (if l.slip.slipping then
    [{ cause := .slip, start := 0, stop := none, extreme := 0 }] else [])

/-- R26, with R20, R75, R95, R99, R109, R118, R119 and R121: `w` is what is left of `v` when the
entry `e` goes to the waiting line `i`, whose lot is `t`. -/
structure Works.servedAs (v w : Works) (i : LineIx) (t : Lot) (e : CoilIx) : Prop where
  coil : ∃ b, w.coils = v.coils.set e (some b) ∧ b =
    { key := ⟨t.number, t.nextSequence⟩, state := .opened, line := i, packer := none,
      revision := (v.line i).revision, start := (v.line i).position, stop := none, joints := 0,
      zones := (v.line i).reopened, unlisted := 0, unlistedOpen := [], faultRows := 0,
      missedKnots := 0, excessKnots := 0, slipTallies := 0, weight := none, density := none,
      reasons := b.reasons, grade := b.gradeAt 0, final := false,
      limits :=
        { maxJoints := (v.line i).spec.maxJoints, minSound := (v.line i).spec.minSound,
          rejectShare := (v.line i).spec.rejectShare,
          densityNominal := (v.line i).spec.densityNominal,
          densityTolerance := (v.line i).spec.densityTolerance } } ∧
    ∀ r, r ≠ .overlength → (r ∈ b.reasons ↔ r = .zones ∧ (v.line i).reopened ≠ [])
  line : w.line i = { v.line i with
    state := .running, starve := none, coil := some ⟨t.number, t.nextSequence⟩,
    cut := (w.line i).cut, reserved := (w.line i).reserved, cutPoint := (w.line i).cutPoint,
    halted := (w.line i).halted }
  early : (v.line i).cut = .noCut → (v.line i).spec.cutLead < (v.line i).spec.target →
    (w.line i).cut = .noCut ∧ (w.line i).reserved = (v.line i).reserved ∧
    (w.line i).halted = (v.line i).halted ∧ w.held = v.held
  ordered : (v.line i).cut = .noCut → (v.line i).spec.target ≤ (v.line i).spec.cutLead →
    (∀ p, v.lanes[i] = some p → v.placesInUse p < 6) →
    (w.line i).cut = .ordered ∧ (w.line i).reserved = v.lanes[i] ∧
    (w.line i).cutPoint = (v.line i).position + (v.line i).spec.target ∧
    (w.line i).halted = false ∧ w.held = v.held
  waits : (v.line i).cut = .noCut → (v.line i).spec.target ≤ (v.line i).spec.cutLead →
    ∀ p, v.lanes[i] = some p → 6 ≤ v.placesInUse p →
    (w.line i).cut = .held ∧ (w.line i).reserved = some p ∧
    (0 < (v.line i).spec.target → (w.line i).halted = (v.line i).halted) ∧
    w.held = v.held.set p (v.held[p] ++ [i])
  lots : w.lots = mapTable (Option.map fun u =>
    if u.number = t.number then { u with nextSequence := u.nextSequence + 1 } else u) v.lots
  notices : w.notices =
    (if (v.line i).reopened = [] then v else v.raiseLine i 0x10).notices

/-- R26: `w` is what the hand-out of a freed coil entry leaves of `v`: the lines at the head of the
wait list whose lot has no sequence left are passed over, and the next takes the entry. -/
structure Works.handedOut (v w : Works) : Prop where
  waitList : w.waitList = (v.waitList.dropWhile v.exhausted).tail
  passed : ∀ j ∈ v.waitList.takeWhile v.exhausted,
    w.line j = { v.line j with starve := some .seqExhausted }
  others : ∀ j, j ∉ v.waitList.takeWhile v.exhausted →
    (v.waitList.dropWhile v.exhausted).head? ≠ some j → w.line j = v.line j
  lanes : w.lanes = v.lanes
  queues : w.queues = v.queues
  free : v.waitList.dropWhile v.exhausted = [] →
    w.coils = v.coils ∧ w.lots = v.lots ∧ w.held = v.held ∧ w.notices = v.notices
  served : ∀ i t e, (v.waitList.dropWhile v.exhausted).head? = some i →
    (v.line i).lot.bind v.lot? = some t → lowestFree v.coils = some e → v.servedAs w i t e

/-! ## Record views (1.9) -/

/-- Bits `hi` to `lo` of field `n` of a view show the value `x`, of which they hold the low bits. -/
def shows (view : List Word) (n hi lo x : Nat) : Prop :=
  (view.getD n 0).toNat / 2 ^ lo % 2 ^ (hi - lo + 1) = x % 2 ^ (hi - lo + 1)

/-! ## Ranges (the tables of 1.2, 1.4, 1.6, 2.1, 3.1, 4.1, 8.2, 9, 10.2) -/

/-- The ranges of a line record. -/
structure Line.ranged (l : Line) : Prop where
  position : l.position ≤ Config.positionLimit
  remainder : l.remainder < 1000
  revision : l.revision ≤ 255
  slipTallies : l.slipTallies ≤ Config.counterLimit
  resyncs : l.resyncs ≤ Config.counterLimit
  sequenceGaps : l.sequenceGaps ≤ Config.counterLimit
  staleEntries : l.staleEntries ≤ Config.counterLimit
  unrecorded : l.unrecorded ≤ Config.counterLimit
  slipRun : l.slip.slipRun ≤ 2
  cleanRun : l.slip.cleanRun ≤ 2
  window : l.twist.window.length ≤ Config.windowLimit
  lastValue : l.twist.lastValue ≤ 65535
  faultRun : l.knot.faultRun ≤ Config.counterLimit
  soundRun : l.knot.soundRun ≤ Config.counterLimit

/-- The ranges of a lot record. -/
structure Lot.ranged (l : Lot) : Prop where
  number : 1 ≤ l.number ∧ l.number ≤ 65535
  revision : l.revision ≤ 255
  produced : l.produced ≤ Config.positionLimit
  unassigned : l.unassigned ≤ Config.positionLimit
  retired : l.retired ≤ Config.positionLimit
  nextSequence : 1 ≤ l.nextSequence ∧ l.nextSequence ≤ Config.sequenceExhausted

/-- The ranges of a coil record. -/
structure Coil.ranged (c : Coil) : Prop where
  sequence : 1 ≤ c.key.sequence ∧ c.key.sequence < Config.sequenceExhausted
  revision : c.revision ≤ 255
  joints : c.joints ≤ Config.byteLimit
  unlisted : c.unlisted ≤ Config.byteLimit
  faultRows : c.faultRows ≤ Config.counterLimit
  missedKnots : c.missedKnots ≤ Config.counterLimit
  excessKnots : c.excessKnots ≤ Config.counterLimit
  slipTallies : c.slipTallies ≤ Config.counterLimit
  weight : ∀ w, c.weight = some w → 1 ≤ w ∧ w ≤ Config.wordLimit
  density : ∀ d, c.density = some d → d ≤ Config.wordLimit

/-- The ranges of a station context. -/
structure Station.ranged (st : Station) : Prop where
  failures : st.failures ≤ Config.byteLimit
  roundsSinceProbe : st.roundsSinceProbe ≤ Config.probeRounds
  sequenceGaps : st.sequenceGaps ≤ Config.counterLimit
  protocolErrors : st.protocolErrors ≤ Config.counterLimit

/-- The upper limits of the settings in use. -/
structure Settings.ranged (t : Settings) : Prop where
  linkRate : t.linkRate ≤ 3
  replyTimeout : t.replyTimeout ≤ 255
  retryLimit : t.retryLimit ≤ 3
  isolationThreshold : t.isolationThreshold ≤ 15
  roundPeriod : t.roundPeriod ≤ 255
  slipPermille : t.slipPermille ≤ 500
  tableLow : t.tableLow ≤ 95
  lampCondition : t.lampCondition ≤ 5

/-- The registers named here stand in the ranges that the spec gives them. -/
structure State.ranged (s : State) : Prop where
  lots : ∀ l ∈ inUse s.works.lots, l.ranged
  lines : ∀ i, (s.works.line i).ranged
  coils : ∀ c ∈ inUse s.works.coils, c.ranged
  stations : ∀ st ∈ inUse s.link.stations, st.ranged
  settings : s.settings.ranged
  roundCount : s.link.roundCount < 32
  resumeTimer : ∀ n, s.resumeTimer = some n → n < Config.resumeTime
  fields : s.port.result.fields.length ≤ 32 ∧ s.port.result.firstField ≤ 31

/-! ## Laws of the device -/

/-- Zones stand in the order of their starts (R101). -/
def zonesOrdered : List Zone → Prop
  | [] => True
  | z :: zs => (∀ y ∈ zs, z.start ≤ y.start) ∧ zonesOrdered zs

/-- R102: at most 8 zones, in start order, none ending before its start, and at most one open zone
for each cause. -/
structure Coil.zonesLawful (c : Coil) : Prop where
  limit : c.zones.length ≤ Config.zoneLimit
  ordered : zonesOrdered c.zones
  ends : ∀ z ∈ c.zones, ∀ e, z.stop = some e → z.start ≤ e
  oneOpen : ∀ q, (c.zones.filter fun z => z.openOf q).length ≤ 1

/-- The zone lists of all coils are lawful (R102). -/
def State.zonesLawful (s : State) : Prop := ∀ c ∈ inUse s.works.coils, c.zonesLawful

/-- R1, R10: no two entries in use in one table carry one key, and every coil is of a lot in the
table and was given a sequence that the lot will not give again. -/
structure State.keysLawful (s : State) : Prop where
  oneLot : ∀ (i j : LotIx) (l m : Lot),
    s.works.lots[i] = some l → s.works.lots[j] = some m → l.number = m.number → i = j
  oneCoil : ∀ (i j : CoilIx) (c d : Coil),
    s.works.coils[i] = some c → s.works.coils[j] = some d → c.key = d.key → i = j
  issued : ∀ c ∈ inUse s.works.coils, ∃ l ∈ inUse s.works.lots,
    l.number = c.key.lot ∧ c.key.sequence < l.nextSequence

/-- R8: a CLOSED lot has no line running it. -/
def State.closedLotsIdle (s : State) : Prop :=
  ∀ l ∈ inUse s.works.lots, l.state = .closed → s.works.runningSet l.number = []

/-- R138, R139: the coils queued at a packer and the reservations held for it never exceed 6, and
every FULL or TAKEN coil stands in the queue of its packer. -/
structure State.placesLawful (s : State) : Prop where
  limit : ∀ p, s.works.placesInUse p ≤ Config.packerPlaces
  queued : ∀ c ∈ inUse s.works.coils, c.state = .full ∨ c.state = .taken →
    ∃ p : PackerIx, c.packer = some p ∧ c.key ∈ s.works.queues[p]

/-! ### How the records hang together -/

/-- R5, R15, R17, R20, R22, R36: a line's record agrees with its lot, its coil and its station. -/
structure State.lineLinked (s : State) (i : LineIx) : Prop where
  lot : (s.works.line i).lot = none ↔ (s.works.line i).state = .idle
  coil : (s.works.line i).coil = none ↔
    (s.works.line i).state = .idle ∨ (s.works.line i).state = .starved
  starve : (s.works.line i).starve ≠ none ↔ (s.works.line i).state = .starved
  unused : (s.works.line i).kind = .unused → (s.works.line i).state = .idle
  suspended : (s.works.line i).suspended = true ↔
    (s.works.line i).state ≠ .idle ∧ s.link.lineIsolated i = true
  amendment : (s.works.line i).amendPending = true →
    (s.works.line i).state = .running ∨ (s.works.line i).state = .releasing
  runs : ∀ n, (s.works.line i).lot = some n → ∃ t, s.works.lot? n = some t ∧ t.state ≠ .closed ∧
    (s.works.line i).revision ≤ t.revision ∧
    ((s.works.line i).amendPending = false → (s.works.line i).revision = t.revision)
  current : ∀ k, (s.works.line i).coil = some k → (s.works.line i).lot = some k.lot ∧
    ∃ c, s.works.coil? k = some c ∧ c.state = .opened ∧ c.line = i ∧
      c.start ≤ (s.works.line i).position ∧ c.revision = (s.works.line i).revision
  primed : (s.works.line i).state = .primed → (s.works.line i).position = 0

/-- R5, R20, R22, R102, R114: an OPEN coil is the current coil of its line and has no end; any other
has its end and no open zone; a final grade is that of a SEALED coil; and no coil's revision passes
its lot's. -/
structure State.coilLinked (s : State) (c : Coil) : Prop where
  opened : c.state = .opened →
    (s.works.line c.line).coil = some c.key ∧ c.stop = none ∧ c.packer = none
  ended : c.state ≠ .opened → (∃ e, c.stop = some e ∧ c.start ≤ e) ∧
    (∀ z ∈ c.zones, z.stop ≠ none) ∧ c.unlistedOpen = []
  final : c.final = true ↔ c.state = .sealed
  revision : ∀ t, s.works.lot? c.key.lot = some t → c.revision ≤ t.revision

/-- The laws of R5, R17, R22, R25, R102, R114 and R138 on the records, and that the tables stand
empty in LOADING (R174). -/
structure State.recordsLinked (s : State) : Prop where
  lines : ∀ i, s.lineLinked i
  coils : ∀ c ∈ inUse s.works.coils, s.coilLinked c
  roles : ∀ (d e : StationIx) (st su : Station), s.link.stations[d] = some st →
    s.link.stations[e] = some su → st.role = su.role → d = e
  waiting : s.works.waitList.Nodup ∧
    ∀ i, i ∈ s.works.waitList ↔ (s.works.line i).starve = some .noEntry
  full : s.works.waitList ≠ [] → s.works.freeCoils = 0
  queues : ∀ p : PackerIx, s.works.queues[p].Nodup ∧ ∀ k ∈ s.works.queues[p],
    ∃ c, s.works.coil? k = some c ∧ c.packer = some p ∧
      (c.state = .full ∨ (c.state = .taken ∧ s.works.queues[p].head? = some k))
  loading : s.partState = .loading → inUse s.works.lots = [] ∧ inUse s.works.coils = [] ∧
    s.works.waitList = [] ∧ ∀ p : PackerIx, s.works.queues[p] = []

/-- The sum of the lengths of a lot's coils in the table (R11). -/
def Works.lengthHeld (w : Works) (n : Nat) : Nat :=
  (((inUse w.coils).filter fun c => decide (c.key.lot = n)).map fun c => w.coilLength c).sum

/-- R11: length is neither made nor lost between a lot and its coils while its produced length has
not saturated, and no line of a lot has run further than the lot has produced. -/
structure State.lengthConserved (s : State) : Prop where
  totals : ∀ t ∈ inUse s.works.lots, t.produced < Config.positionLimit →
    t.produced = s.works.lengthHeld t.number + t.retired + t.unassigned
  lines : ∀ (i : LineIx) (t : Lot), (s.works.line i).lot.bind s.works.lot? = some t →
    (s.works.line i).position ≤ t.produced

/-- R102: the zones of an OPEN coil lie within its length, and the positions that a line's units
hold lie behind its run position, while that position has not saturated (entry 38). The zones of an
ended coil are left out: of one that ends behind the run position they can reach beyond its end
(entry 15). -/
structure State.zonesWithin (s : State) : Prop where
  rows : ∀ i, (s.works.line i).kind = .knot → (s.works.line i).measure = .rows
  twist : ∀ i, let l := s.works.line i
    l.kind = .twist → l.position < Config.positionLimit →
      l.twist.suspectStart ≤ l.position ∧ l.twist.recoveryStart ≤ l.position
  knot : ∀ i, let l := s.works.line i
    l.kind = .knot → l.position < Config.positionLimit →
      l.knot.faultStart ≤ l.position ∧ l.knot.soundStart ≤ l.position
  slip : ∀ i, let l := s.works.line i
    l.position < Config.positionLimit →
      l.slip.slipStart ≤ l.position ∧ l.slip.cleanStart ≤ l.position
  zones : ∀ (i : LineIx) (c : Coil), s.works.currentCoil? i = some c →
    (s.works.line i).position < Config.positionLimit → ∀ z ∈ c.zones,
      z.start ≤ s.works.coilLength c ∧ ∀ e, z.stop = some e → e ≤ s.works.coilLength c

end Machine

end Sys2Proof
end

