-- ==== Sys2Proof/Certificates/Slice0/Obligations.lean ====
section
/-! DEFINITION. The statements about the part, from the numbered rules of the spec. An equation
`exec c s = .next t` is both the command's result and its frame: everything that `t` does not name
is as it was in `s`, the EEPROM with it. -/

open Sys2Proof Sys2Proof.Machine

/-! ## The queue, time and reset -/

/-- A step runs the command at the front of the queue, with the rest waiting (entry 4). On an empty
queue, the model's choice (entry 5): one millisecond passes on the time base and on a running resume
timer. -/
def Obligations.StepRunsFrontCommand : Prop :=
  (∀ (c : Instr) (rest : List Instr) (s : State),
    step { s with pending := c :: rest } = exec c { s with pending := rest }) ∧
  (∀ s : State, s.pending = [] →
    step s = .next { s with
      timeBase := s.timeBase + 1, resumeTimer := s.resumeTimer.map fun n => min (n + 1) 49 })

/-- Every command answers a next state, and none touches the queue (95: "each whole and
indivisible"). -/
def Obligations.EveryCommandCompletesAndKeepsQueue : Prop :=
  ∀ (c : Instr) (s : State), ∃ t, exec c s = .next t ∧ t.pending = s.pending

/-- R28, R116, R149, R168, R169, R174: what the spec gives right after power-on. -/
def Obligations.ResetIsLoadingWithTablesEmpty : Prop :=
  let s := State.reset
  s.partState = .loading ∧ s.resumeTimer = none ∧ s.timeBase = 0 ∧
  inUse s.works.lots = [] ∧ inUse s.works.coils = [] ∧ s.works.freeCoils = 96 ∧
  s.works.waitList = [] ∧
  (∀ p : PackerIx, s.works.queues[p] = [] ∧ s.works.held[p] = [] ∧ s.works.reservations p = []) ∧
  s.works.notices = Notices.clear ∧ s.port.store = none ∧
  s.port.result = { status := .busy, aux := 0, fields := [], firstField := 0, mode := .run32 } ∧
  ∀ i : LineIx, let l := s.works.line i
    l.state = .idle ∧ l.suspended = false ∧ l.lot = none ∧ l.coil = none ∧ l.revision = 0 ∧
    l.amendPending = false ∧ l.cut = .noCut ∧ l.reserved = none ∧ l.cutPoint = 0 ∧
    l.halted = false ∧ l.starve = none ∧ l.jointClose = none ∧ l.order = .halt ∧
    l.position = 0 ∧ l.remainder = 0 ∧ l.baselines = ⟨0, 0, 0, 0⟩ ∧ l.baselinesValid = false ∧
    l.slipTallies = 0 ∧ l.resyncs = 0 ∧ l.sequenceGaps = 0 ∧ l.staleEntries = 0 ∧
    l.unrecorded = 0 ∧ l.twist.window = [] ∧ l.twist.band = .warming ∧ l.knot.faultRun = 0 ∧
    l.knot.soundRun = 0

/-! ## Transactions (9.1, 9.2) -/

/-- R162, R164: the fall of HSELN latches the result buffer; while the transaction lasts, HSO clocks
out the latched status and then, for RESULT, the latched readout, and 00h for any other code;
outside a transaction HSO is high impedance, and every release ends one. RESULT replaces nothing, in
every part state. That the input buffer is emptied at the fall and keeps the bytes after the
release, and the record of HSO's bytes, are the model's choice (entry 8). -/
def Obligations.ResultReadsTheLatchedBuffer : Prop :=
  (∀ s : State, exec .transactionStart s = .next { s with
    port := { s.port with
      transaction := some { latched := s.port.result, discarded := false }, inputBuffer := [] } }) ∧
  (∀ (args : List Byte) (s : State) (t : Transaction), s.port.transaction = some t →
    exec (.result args) s = .next { s with
      port := { s.port with
        transaction := none, inputBuffer := 0x40 :: args,
        hso := (List.range (args.length + 1)).map t.latched.readByte } }) ∧
  (∀ (s : State) (t : Transaction) (code : Byte) (n : Nat), s.port.transaction = some t →
    s.hsoByte? code n = some (if n = 0 ∨ code = 0x40 then t.latched.readByte n else 0)) ∧
  (∀ (s : State) (code : Byte) (n : Nat), s.port.transaction = none → s.hsoByte? code n = none) ∧
  (∀ (c : Instr) (code : Byte) (args : List Byte) (s t : State),
    c.transaction? = some (code, args) → exec c s = .next t → t.port.transaction = none)

/-- R164: the bytes of the readout, and where the field number goes after each field. -/
def Obligations.ReadoutSendsHeaderThenFields : Prop :=
  ∀ r : ResultBuffer, r.firstField ≤ 31 →
    r.readByte 0 = BitVec.ofNat 8 r.status.code ∧
    r.readByte 1 = BitVec.ofNat 8 r.fields.length ∧ r.readByte 2 = r.aux ∧
    (∀ k j, j < 4 → r.readByte (4 * k + j + 3) =
      BitVec.ofNat 8 ((r.fields.getD (r.fieldNumber k) 0).toNat / 256 ^ (3 - j))) ∧
    r.fieldNumber 0 = r.firstField ∧
    (∀ k, r.fieldNumber (k + 1) =
      match r.mode with
      | .wrap16 =>
        if r.fieldNumber k = 15 then 0
        else if r.fieldNumber k = 31 then 16 else r.fieldNumber k + 1
      | .run32 => if r.fieldNumber k = 31 then 0 else r.fieldNumber k + 1)

/-- R162, R163 check 1: a transaction released while the part is LOADING, or after the part entered
LOADING during it, changes nothing but the port's own record of it. -/
def Obligations.LoadingDiscardsCommands : Prop :=
  ∀ (c : Instr) (code : Byte) (args : List Byte) (s : State),
    c.transaction? = some (code, args) →
    s.partState = .loading ∨ s.transactionDiscarded = true →
    exec c s = .next { s with
      port := { s.port with
        transaction := none, inputBuffer := code :: args, hso := s.port.latched.sent code args } }

/-- R163 checks 2 and 3: a code that is not in table 9.1, or a wrong argument count, is MALFORMED
and changes no record. The result's first field 0 is the model's choice (entry 26). -/
def Obligations.MalformedTransactionsAreRefused : Prop :=
  (∀ (code : Byte) (args : List Byte) (s : State), s.takesCommands →
    hostCodes.contains code = false →
    exec (.unknownCommandCode code args) s = .next (s.answered code args (.plain .malformed))) ∧
  (∀ (c : Instr) (code : Byte) (args : List Byte) (s : State), s.takesCommands →
    c.transaction? = some (code, args) → (∀ x a, c ≠ .unknownCommandCode x a) → c.wf = false →
    exec c s = .next (s.answered code args (.plain .malformed)))

/-- R163 check 4, R30: the eleven record-changing commands are refused HELD in HOLD. The result's
first field 0 is the model's choice (entry 26). -/
def Obligations.HoldRefusesRecordCommands : Prop :=
  ∀ (c : Instr) (code : Byte) (args : List Byte) (s : State),
    c.changesRecords = true → c.wf = true → c.transaction? = some (code, args) →
    s.partState = .hold → s.transactionDiscarded = false →
    exec c s = .next (s.answered code args (.plain .held))

/-- R163: a refused command changes no record and no block state, and an accepted record-changing
command changes the records and answers OK, and nothing else. Auxiliary byte 0 (entry 25) and first
field 0 (entry 26) where no rule gives them are the model's choices. -/
def Obligations.RecordCommandsChangeOnlyRecords : Prop :=
  ∀ (c : Instr) (code : Byte) (args : List Byte) (s : State),
    c.changesRecords = true → c.transaction? = some (code, args) → s.takesCommands →
    (∃ st, st ≠ Status.ok ∧ exec c s = .next (s.answered code args (.plain st))) ∨
    ∃ w, exec c s = .next { s.answered code args (.plain .ok) with works := w }

/-! ## Lots (1.2) -/

/-- R3: LOT_OPEN checks in the order given and creates the record in the lowest free entry.
Auxiliary byte 0 (entry 25) and first field 0 (entry 26) where no rule gives them are the model's
choices. -/
def Obligations.LotOpenCreatesTheRecord : Prop :=
  ∀ (args : List Byte) (s : State), args.length = 41 → s.takesRecordCommands →
    let n := bytesAt args 0 2
    let sp := specOf (args.drop 2)
    exec (.lotOpen args) s = .next
      (if n = 0 then s.answered 0x01 args (.plain .outOfRange)
      else if (s.works.lot? n).isSome then s.answered 0x01 args (.plain .lotExists)
      else if sp.inRange = false then s.answered 0x01 args (.plain .outOfRange)
      else match lowestFree s.works.lots with
        | none => s.answered 0x01 args (.plain .tableFull)
        | some e => { s.answered 0x01 args (.plain .ok) with
          works := { s.works with
            lots := s.works.lots.set e (some
              { number := n, state := .opened, spec := sp, revision := 0, produced := 0,
                unassigned := 0, retired := 0, coilsMade := 0, coilsRetired := 0,
                nextSequence := 1 }) } })

/-- R4, R5, R99: LOT_AMEND makes its checks in order; accepted, it replaces the lot's specification,
raises its revision, and reaches each line of the running set by its run state. A code that names no
product kind counts as a field out of range (the model's choice, entry 16), and so are auxiliary
byte 0 (entry 25) and first field 0 (entry 26) where no rule gives them. -/
def Obligations.LotAmendReachesTheLines : Prop :=
  ∀ (args : List Byte) (s : State), args.length = 41 → s.takesRecordCommands →
    let n := bytesAt args 0 2
    let sp := specOf (args.drop 2)
    let refusal : Option Status :=
      match s.works.lot? n with
      | none => some .unknownLot
      | some lot =>
        if lot.state = .closed then some .wrongState
        else if (sp.kind = .laid ∨ sp.kind = .net) ∧ sp.kind ≠ lot.spec.kind then some .wrongKind
        else if sp.inRange = false then some .outOfRange
        else if 255 ≤ lot.revision then some .revisionLimit
        else none
    (∀ st, refusal = some st →
      exec (.lotAmend args) s = .next (s.answered 0x02 args (.plain st))) ∧
    ∀ lot, s.works.lot? n = some lot → refusal = none →
    ∃ w, exec (.lotAmend args) s = .next { s.answered 0x02 args (.plain .ok) with works := w } ∧
      w.lots = mapTable (Option.map fun l =>
        if l.number = n then { l with spec := sp, revision := l.revision + 1 } else l)
        s.works.lots ∧
      (∀ i, w.line i =
        let l := s.works.line i
        if l.lot = some n then
          match l.state with
          | .idle => l
          | .primed | .starved =>
            { l with spec := sp, revision := lot.revision + 1, amendPending := false }
          | .running | .releasing => { l with amendPending := true }
        else l) ∧
      (∀ k, w.coil? k = (s.works.coil? k).map fun c =>
        if ∃ i : LineIx, (s.works.line i).lot = some n ∧ (s.works.line i).state = .primed ∧
            (s.works.line i).coil = some k then
          { c with revision := lot.revision + 1, limits := sp.limits }
        else c) ∧
      w.waitList = s.works.waitList ∧ w.lanes = s.works.lanes ∧ w.queues = s.works.queues ∧
      w.held = s.works.held ∧ w.notices = s.works.notices

/-- R6, R8: LOT_CLOSE makes an OPEN lot CLOSING, or CLOSED when no line runs it; LOT_RETIRE frees
the entry of a CLOSED lot that holds no coil. Auxiliary byte 0 (entry 25) and first field 0 (entry
26) where no rule gives them are the model's choices. -/
def Obligations.LotCloseAndRetireFollowTheState : Prop :=
  ∀ (args : List Byte) (s : State), args.length = 2 → s.takesRecordCommands →
    let n := bytesAt args 0 2
    exec (.lotClose args) s = .next
      (match s.works.lot? n with
        | none => s.answered 0x03 args (.plain .unknownLot)
        | some lot =>
          if lot.state ≠ .opened then s.answered 0x03 args (.plain .wrongState)
          else { s.answered 0x03 args (.plain .ok) with
            works := s.works.modifyLot n fun l =>
              { l with state := if s.works.runningSet n = [] then .closed else .closing } }) ∧
    exec (.lotRetire args) s = .next
      (match s.works.lot? n with
        | none => s.answered 0x04 args (.plain .unknownLot)
        | some lot =>
          if lot.state ≠ .closed then s.answered 0x04 args (.plain .wrongState)
          else if 0 < s.works.coilsHeld n then s.answered 0x04 args (.plain .hasCoils)
          else { s.answered 0x04 args (.plain .ok) with works := s.works.removeLot n })

/-! ## Lines (1.4, 2.2, 6.6, 7.1) -/

/-- R14, R15, R20, R99: LINE_ASSIGN makes its checks in order; accepted, it sets the line's record
to its start, opens the lot's next coil at 0 in the lowest free entry, and makes the line PRIMED,
SUSPENDED when its station is isolated. Auxiliary byte 0 (entry 25) and first field 0 (entry 26)
where no rule gives them are the model's choices. -/
def Obligations.LineAssignOpensTheFirstCoil : Prop :=
  ∀ (args : List Byte) (s : State), args.length = 3 → s.takesRecordCommands →
    let n := bytesAt args 1 2
    let refusal : Option Status :=
      if 15 < bytesAt args 0 1 then some .outOfRange
      else
        let l := s.works.line (Fin.ofNat 16 (bytesAt args 0 1))
        if l.kind = .unused then some .wrongKind
        else
          match s.works.lot? n with
          | none => some .unknownLot
          | some lot =>
            if l.state ≠ .idle then some .wrongState
            else if lot.state ≠ .opened then some .wrongState
            else if ¬ ((l.kind = .twist ∧ lot.spec.kind = .laid) ∨
                (l.kind = .knot ∧ lot.spec.kind = .net)) then some .wrongKind
            else if 10000 ≤ lot.nextSequence then some .tableFull
            else if lowestFree s.works.coils = none then some .tableFull
            else none
    (∀ st, refusal = some st →
      exec (.lineAssign args) s = .next (s.answered 0x08 args (.plain st))) ∧
    ∀ (i : LineIx) (lot : Lot) (e : CoilIx), bytesAt args 0 1 = i.val →
    s.works.lot? n = some lot → lowestFree s.works.coils = some e → refusal = none →
    let l := s.works.line i
    ∃ w, exec (.lineAssign args) s = .next { s.answered 0x08 args (.plain .ok) with works := w } ∧
      w.line i = { l with
        state := .primed, suspended := s.link.lineIsolated i, lot := some n, spec := lot.spec,
        revision := lot.revision, amendPending := false, coil := some ⟨n, lot.nextSequence⟩,
        position := 0, remainder := 0, baselinesValid := false, cut := .noCut, reserved := none,
        cutPoint := 0, halted := false, starve := none, jointClose := none, slip := .reset,
        twist := if l.kind = .twist then .reset else l.twist,
        knot := if l.kind = .knot then .reset else l.knot } ∧
      (∀ j, j ≠ i → w.line j = s.works.line j) ∧
      w.coils = s.works.coils.set e (some
        { key := ⟨n, lot.nextSequence⟩, state := .opened, line := i, packer := none,
          revision := lot.revision, start := 0, stop := none, joints := 0, zones := [],
          unlisted := 0, unlistedOpen := [], faultRows := 0, missedKnots := 0, excessKnots := 0,
          slipTallies := 0, weight := none, density := none, reasons := [], grade := .first,
          final := false,
          limits :=
            { maxJoints := lot.spec.maxJoints, minSound := lot.spec.minSound,
              rejectShare := lot.spec.rejectShare, densityNominal := lot.spec.densityNominal,
              densityTolerance := lot.spec.densityTolerance } }) ∧
      w.lots = mapTable (Option.map fun t =>
        if t.number = n then { t with nextSequence := t.nextSequence + 1 } else t)
        s.works.lots ∧
      w.waitList = s.works.waitList ∧ w.lanes = s.works.lanes ∧ w.queues = s.works.queues ∧
      w.held = s.works.held ∧ w.notices = s.works.notices

/-- R130 to R132: LINE_RELEASE makes its checks in order. It orders a release cut on a RUNNING line
that is not SUSPENDED. It frees at once a PRIMED line and a SUSPENDED line whose coil has length 0,
removing the coil, freeing a place that the line's ordered cut reserved (R141) and then handing out
the entry (R26; this order is the model's choice, entry 22); a STARVED line; and any other SUSPENDED
line, whose coil ends at the run position with LENGTH_UNCERTAIN. A HELD wait is withdrawn. R7: a
CLOSING lot whose last line leaves becomes CLOSED in the same event. Auxiliary byte 0 (entry 25) and
first field 0 (entry 26) where no rule gives them are the model's choices. -/
def Obligations.LineReleaseOrdersTheCutOrFrees : Prop :=
  (∀ (args : List Byte) (s : State), args.length = 1 → s.takesRecordCommands →
    15 < bytesAt args 0 1 →
    exec (.lineRelease args) s = .next (s.answered 0x09 args (.plain .outOfRange))) ∧
  ∀ (args : List Byte) (s : State) (i : LineIx), args.length = 1 → s.takesRecordCommands →
    bytesAt args 0 1 = i.val →
    let l := s.works.line i
    let idle := { l with
      state := .idle, suspended := false, lot := none, revision := 0, amendPending := false,
      coil := none, cut := .noCut, reserved := none, cutPoint := 0, halted := false,
      starve := none, jointClose := none }
    let lotsAfter := mapTable (Option.map fun t =>
      if l.lot = some t.number ∧ t.state = .closing ∧
          (∀ j, (s.works.line j).lot = some t.number → j = i) then
        { t with state := .closed }
      else t) s.works.lots
    let accepted := fun w : Works =>
      exec (.lineRelease args) s = .next { s.answered 0x09 args (.plain .ok) with works := w }
    (l.state = .idle ∨ (l.state = .releasing ∧ l.suspended = false) →
      exec (.lineRelease args) s = .next (s.answered 0x09 args (.plain .wrongState))) ∧
    (l.state = .running → l.suspended = false →
      (l.cut = .ordered →
        accepted (s.works.modifyLine i fun l => { l with state := .releasing })) ∧
      (l.cut = .noCut →
        accepted (s.works.modifyLine i fun l =>
          { l with
            state := .releasing, cut := .ordered, reserved := none, cutPoint := l.position })) ∧
      (∀ p, l.cut = .held → l.reserved = some p →
        accepted { (s.works.modifyLine i fun l =>
            { l with
              state := .releasing, cut := .ordered, reserved := none, cutPoint := l.position,
              halted := false }) with
          held := s.works.held.set p (s.works.held[p].filter fun j => decide (j ≠ i)) })) ∧
    (∀ c, s.keysLawful → s.works.currentCoil? i = some c →
      (l.state = .primed ∧ l.cut ≠ .held) ∨ ((l.state = .running ∨ l.state = .releasing) ∧
        l.suspended = true ∧ s.works.coilLength c = 0) →
      let freed := { s.works with
        lines := (s.works.modifyLine i fun _ => idle).lines, lots := lotsAfter,
        coils := mapTable (fun e => e.filter fun b => decide (b.key ≠ c.key)) s.works.coils,
        held := s.works.heldWithout i }
      ∃ v w : Works, accepted w ∧ v.handedOut w ∧
        ((l.cut ≠ .ordered ∨ l.reserved = none) → v = freed) ∧
        (∀ p, l.cut = .ordered → l.reserved = some p → s.works.held[p] = [] → v = freed) ∧
        (∀ p j rest b, l.cut = .ordered → l.reserved = some p → s.works.held[p] = j :: rest →
          s.works.currentCoil? j = some b → b.key ≠ c.key → j ≠ i →
          v = { (freed.modifyLine j fun x =>
              { x with
                cut := .ordered, reserved := some p, cutPoint := b.start + x.spec.target,
                halted := false }) with
            held := s.works.held.set p rest })) ∧
    (l.state = .starved →
      accepted { s.works with
        waitList := s.works.waitList.filter (fun j => decide (j ≠ i)), lots := lotsAfter,
        lines := (s.works.modifyLine i fun _ => idle).lines }) ∧
    (∀ c, l.state = .running ∨ l.state = .releasing → l.suspended = true →
      s.works.currentCoil? i = some c → 0 < s.works.coilLength c →
      ∃ w b, accepted w ∧
        w.coil? c.key = some b ∧ (∀ k, k ≠ c.key → w.coil? k = s.works.coil? k) ∧
        c.endsAs b l.position [.lengthUncertain] (s.works.packerFor i) ∧
        w.queues = s.works.queuesWith c.key (s.works.packerFor i) ∧
        w.held = s.works.heldWithout i ∧ w.line i = idle ∧
        (∀ n u, l.lot = some n → s.works.lot? n = some u → ∃ u', w.lot? n = some u' ∧
          u'.state = (if u.state = .closing ∧ s.works.runningSet n = [i] then .closed
            else u.state) ∧
          u'.nextSequence = u.nextSequence ∧ u'.produced = u.produced ∧
          u'.retired = u.retired ∧ (c.key.lot = n → u'.coilsMade = u.coilsMade + 1) ∧
          (u.unassigned ≤ 281474976710655 → u'.unassigned = u.unassigned)) ∧
        (∀ j, j ≠ i → w.line j = s.works.line j) ∧ w.waitList = s.works.waitList ∧
        w.lanes = s.works.lanes ∧ w.notices.line = (s.works.raiseLine i 0x100).notices.line ∧
        w.notices.packer = s.works.notices.packer ∧ w.notices.station = s.works.notices.station)

/-- R32, R34: LINE_WHEELS makes its checks in order; accepted, it places the pair, or the kind
defaults when it conflicts, and a change of check source closes the SLIP zone of a slipping line at
the run position (R102) and returns the slip detector to NORMAL, its run starts and peak kept (the
model's choice, entry 33). Auxiliary byte 0 (entry 25) and first field 0 (entry 26) where no rule
gives them are the model's choices. -/
def Obligations.LineWheelsSetsTheSources : Prop :=
  (∀ (args : List Byte) (s : State) (st : Status), args.length = 3 → s.takesRecordCommands →
    let line := bytesAt args 0 1
    let m := bytesAt args 1 1
    (if 15 < line ∨ m = 0 ∨ 3 < m ∨ 2 < bytesAt args 2 1 then some Status.outOfRange
      else if (s.works.line (Fin.ofNat 16 line)).kind = .unused then some .wrongKind
      else none) = some st →
    exec (.lineWheels args) s = .next (s.answered 0x0A args (.plain st))) ∧
  ∀ (args : List Byte) (s : State) (i : LineIx) (m : MeasureSource) (c : CheckSource),
    args.length = 3 → s.takesRecordCommands → bytesAt args 0 1 = i.val →
    bytesAt args 1 1 = m.code → bytesAt args 2 1 = c.code →
    let l := s.works.line i
    l.kind ≠ .unused →
    let conflict : Bool :=
      (decide (l.kind = .knot) && decide (m ≠ .rows)) ||
      (decide (l.kind = .twist) &&
        (decide (m = .rows) || (decide (m = .wheelA) && decide (c = .wheelA)) ||
          (decide (m = .wheelB) && decide (c = .wheelB))))
    let check : CheckSource :=
      if conflict then (if l.kind = .knot then .off else .wheelB) else c
    ∃ w, exec (.lineWheels args) s = .next { s.answered 0x0A args (.plain .ok) with works := w } ∧
      w.line i = { l with
        measure := if conflict then (if l.kind = .knot then .rows else .wheelA) else m,
        check := check,
        slip := if check = l.check then l.slip
          else { l.slip with slipping := false, slipRun := 0, cleanRun := 0 } } ∧
      (∀ j, j ≠ i → w.line j = s.works.line j) ∧
      (check = l.check ∨ l.slip.slipping = false ∨ s.works.currentCoil? i = none →
        w.coils = s.works.coils) ∧
      (∀ c, check ≠ l.check → l.slip.slipping = true → s.works.currentCoil? i = some c →
        let x := (c.asked (.closeAt .slip l.position)).1
        (∀ k, k ≠ c.key → w.coil? k = s.works.coil? k) ∧
        ∃ g, w.coil? c.key = some { x with grade := g } ∧
          (c.final = false → x.zones ≠ c.zones → g = x.gradeAt (s.works.coilLength c)) ∧
          (x.zones = c.zones → g = c.grade)) ∧
      w.notices = (if conflict then s.works.raiseLine i 0x200 else s.works).notices ∧
      w.lots = s.works.lots ∧ w.waitList = s.works.waitList ∧ w.lanes = s.works.lanes ∧
      w.queues = s.works.queues ∧ w.held = s.works.held

/-- R137: LANE_SET. Auxiliary byte 0 (entry 25) and first field 0 (entry 26) where no rule gives
them are the model's choices. -/
def Obligations.LaneSetReplacesTheLane : Prop :=
  ∀ (args : List Byte) (s : State), args.length = 2 → s.takesCommands →
    let line := bytesAt args 0 1
    let lane := bytesAt args 1 1
    exec (.laneSet args) s = .next
      (if s.partState = .hold then s.answered 0x0B args (.plain .held)
      else if 15 < line then s.answered 0x0B args (.plain .outOfRange)
      else if 7 < lane ∧ lane ≠ 255 then s.answered 0x0B args (.plain .outOfRange)
      else if (s.works.line (Fin.ofNat 16 line)).kind = .unused then
        s.answered 0x0B args (.plain .wrongKind)
      else { s.answered 0x0B args (.plain .ok) with
        works := { s.works with
          lanes := s.works.lanes.set (Fin.ofNat 16 line)
            (if lane = 255 then none else some (Fin.ofNat 8 lane)) } })

/-! ## Coils (1.6, 1.7, 5.4, 7.5) -/

/-- R107: COIL_MARK makes its checks in order; accepted, it places one closed OPERATOR zone, listed
in start order or counted unlisted, and changes no other coil. Auxiliary byte 0 (entry 25) and first
field 0 (entry 26) where no rule gives them are the model's choices. -/
def Obligations.CoilMarkPlacesAnOperatorZone : Prop :=
  ∀ (args : List Byte) (s : State), args.length = 12 → s.takesRecordCommands →
    let k := keyAt args 0
    let start := bytesAt args 4 4
    let stop := bytesAt args 8 4
    let refusal : Option Status :=
      match s.works.coil? k with
      | none => some .unknownCoil
      | some c =>
        let len := s.works.coilLength c
        if c.state = .sealed then some .wrongState
        else if stop < start then some .outOfRange
        else if ∃ z ∈ c.zones, z.cause = .operator ∧ min start len < z.stop.getD len ∧
            z.start < min stop len then some .outOfRange
        else none
    (∀ st, refusal = some st →
      exec (.coilMark args) s = .next (s.answered 0x10 args (.plain st))) ∧
    ∀ c, s.works.coil? k = some c → refusal = none →
    let len := s.works.coilLength c
    ∃ w c', exec (.coilMark args) s = .next { s.answered 0x10 args (.plain .ok) with works := w } ∧
      w.coil? k = some c' ∧ (∀ k', k' ≠ k → w.coil? k' = s.works.coil? k') ∧
      (c.zones.length < 8 →
        c'.zones = insertZone ⟨.operator, min start len, some (min stop len), 0⟩ c.zones ∧
        c'.unlisted = c.unlisted ∧ Reason.zones ∈ c'.reasons) ∧
      (8 ≤ c.zones.length →
        c'.zones = c.zones ∧ c'.unlisted = min 255 (c.unlisted + 1) ∧
        Reason.zoneOverflow ∈ c'.reasons) ∧
      c'.unlistedOpen = c.unlistedOpen ∧
      (c.final = false → c'.grade = c'.gradeAt len) ∧
      w.lots = s.works.lots ∧ w.lines = s.works.lines ∧ w.waitList = s.works.waitList ∧
      w.lanes = s.works.lanes ∧ w.queues = s.works.queues ∧ w.held = s.works.held ∧
      w.notices = s.works.notices

/-- R141, R145, R146: COIL_SEAL is refused for a key that no coil has and for an OPEN or SEALED
coil; it seals a FULL or TAKEN coil with its weight, DENSITY joining when it is out of tolerance,
takes it out of its queue, and grants the freed place to the head of the held list. Auxiliary byte 0
(entry 25) and first field 0 (entry 26) where no rule gives them are the model's choices. -/
def Obligations.CoilSealSealsAndFreesAPlace : Prop :=
  ∀ (args : List Byte) (s : State), args.length = 8 → s.takesRecordCommands →
    let k := keyAt args 0
    let weight := bytesAt args 4 4
    let refused := fun st : Status =>
      exec (.coilSeal args) s = .next (s.answered 0x11 args (.plain st))
    (s.works.coil? k = none → refused .unknownCoil) ∧
    ∀ c : Coil, s.works.coil? k = some c →
    (c.state = .opened ∨ c.state = .sealed → refused .wrongState) ∧
    ∀ p : PackerIx,
    let len := s.works.coilLength c
    c.state = .full ∨ c.state = .taken → c.packer = some p →
    ∃ w c', exec (.coilSeal args) s = .next { s.answered 0x11 args (.plain .ok) with works := w } ∧
      w.coil? k = some c' ∧ (∀ k', k' ≠ k → w.coil? k' = s.works.coil? k') ∧
      c'.state = .sealed ∧ c'.final = true ∧ c'.packer = some p ∧ c'.zones = c.zones ∧
      (weight = 0 → c'.weight = c.weight ∧ c'.density = c.density ∧ Reason.unweighed ∈ c'.reasons) ∧
      (0 < weight → c'.weight = some weight ∧
        c'.density = some (min 4294967295 ((weight * 1000000 + len / 2) / len))) ∧
      (0 < weight →
        let d := min 4294967295 ((weight * 1000000 + len / 2) / len)
        (Reason.density ∈ c'.reasons ↔ Reason.density ∈ c.reasons ∨ (0 < c.limits.densityNominal ∧
          c.limits.densityTolerance * c.limits.densityNominal <
            (max d c.limits.densityNominal - min d c.limits.densityNominal) * 1000))) ∧
      (weight = 0 → (Reason.density ∈ c'.reasons ↔ Reason.density ∈ c.reasons)) ∧
      (c.final = false → c'.grade = c'.gradeAt len) ∧
      w.queues = s.works.queues.set p (s.works.queues[p].filter fun k' => decide (k' ≠ k)) ∧
      w.notices = (s.works.raisePacker p 0x2).notices ∧
      (s.works.held[p] = [] → w.lines = s.works.lines ∧ w.held = s.works.held) ∧
      (∀ i rest, s.works.held[p] = i :: rest →
        w.held = s.works.held.set p rest ∧ (w.line i).cut = .ordered ∧
        (w.line i).reserved = some p ∧ (w.line i).halted = false ∧
        (∀ b, s.works.currentCoil? i = some b →
          (w.line i).cutPoint = b.start + (s.works.line i).spec.target) ∧
        (∀ j, j ≠ i → w.line j = s.works.line j)) ∧
      w.lots = s.works.lots ∧ w.waitList = s.works.waitList ∧ w.lanes = s.works.lanes

/-- R9, R10, R24: COIL_RETIRE is refused for a key that no coil has and for a coil that is not
SEALED; it moves a SEALED coil's length to its lot's retired length and takes the coil out of the
table, with COUNT_SATURATED exactly when the length would carry the total past its limit (again at
each later such addition, entry 35); with no line waiting the entry stays free. Auxiliary byte 0
(entry 25) and first field 0 (entry 26) where no rule gives them are the model's choices. -/
def Obligations.CoilRetireMovesTheLength : Prop :=
  ∀ (args : List Byte) (s : State), args.length = 4 → s.takesRecordCommands →
    let k := keyAt args 0
    let refused := fun st : Status =>
      exec (.coilRetire args) s = .next (s.answered 0x12 args (.plain st))
    (s.works.coil? k = none → refused .unknownCoil) ∧
    ∀ c : Coil, s.works.coil? k = some c →
    (c.state = .opened ∨ c.state = .full ∨ c.state = .taken → refused .wrongState) ∧
    let len := s.works.coilLength c
    (c.state = .sealed → s.works.waitList = [] →
    ∃ w, exec (.coilRetire args) s = .next { s.answered 0x12 args (.plain .ok) with works := w } ∧
      w.coil? k = none ∧ (∀ k', k' ≠ k → w.coil? k' = s.works.coil? k') ∧
      w.lots = mapTable (Option.map fun t =>
        if t.number = k.lot then
          { t with
            retired := min 281474976710655 (t.retired + len), coilsRetired := t.coilsRetired + 1 }
        else t) s.works.lots ∧
      w.lines = s.works.lines ∧ w.waitList = [] ∧ w.lanes = s.works.lanes ∧
      w.queues = s.works.queues ∧ w.held = s.works.held ∧
      w.notices.global = s.works.notices.global |||
        (if (s.works.lot? k.lot).any fun t => decide (281474976710655 < t.retired + len) then 0x8
          else 0) ∧
      w.notices.line = s.works.notices.line ∧ w.notices.packer = s.works.notices.packer ∧
      w.notices.station = s.works.notices.station)

/-- R24, R26: the entry that a COIL_RETIRE frees is handed to the wait list (`Works.handedOut`).
Lines whose lot has no sequence left are passed over, leave the list and stay STARVED with
SEQ_EXHAUSTED; the next takes the entry, runs again with a coil of its lot that starts at its run
position, its sources reopen the zones whose conditions hold (R75, R95, R109), and its planned-cut
test is made. With no line left to serve the entry stays free. Auxiliary byte 0 (entry 25) and first
field 0 (entry 26) where no rule gives them are the model's choices. -/
def Obligations.FreedEntryServesTheWaitList : Prop :=
  ∀ (args : List Byte) (s : State) (c : Coil), s.keysLawful → args.length = 4 →
    s.takesRecordCommands → s.works.coil? (keyAt args 0) = some c → c.state = .sealed →
    ∃ v w : Works, exec (.coilRetire args) s =
        .next { s.answered 0x12 args (.plain .ok) with works := w } ∧
      v = { s.works with
        coils := mapTable (fun e => e.filter fun b => decide (b.key ≠ c.key)) s.works.coils,
        lots := mapTable (Option.map fun t =>
          if t.number = c.key.lot then
            { t with
              retired := min 281474976710655 (t.retired + s.works.coilLength c),
              coilsRetired := t.coilsRetired + 1 }
          else t) s.works.lots,
        notices := { s.works.notices with global := v.notices.global } } ∧
      v.handedOut w

/-! ## Reading and notices (9.2, 10.1) -/

/-- R27, R165: READ_RECORD copies the view of the record as it stands into the result buffer, and
the views show the records. A refusal leaves first field 0 and RUN32 (the model's choice, entry 26),
a view auxiliary byte 0 (entry 25), and the key is one 32-bit number (entry 32); in the views, the
bits of line field 18 are entry 17, the zone positions beyond 32 bits entry 18, and an unset
sequence entry 34. -/
def Obligations.ReadRecordCopiesTheView : Prop :=
  (∀ (args : List Byte) (s : State), args.length = 6 → s.takesCommands →
    let kind := bytesAt args 0 1
    let key := bytesAt args 1 4
    let first := bytesAt args 5 1
    let answer := fun fields : List Word =>
      exec (.readRecord args) s = .next (s.answered 0x18 args
        { status := .ok, aux := 0, fields := fields, firstField := first, mode := .wrap16 })
    let refusal := fun st : Status =>
      exec (.readRecord args) s = .next (s.answered 0x18 args (.plain st))
    (31 < first ∨ kind = 0 ∨ 4 < kind → refusal .outOfRange) ∧
    (first ≤ 31 →
      (kind = 1 → s.works.lot? key = none → refusal .unknownLot) ∧
      (∀ l, kind = 1 → s.works.lot? key = some l →
        answer (s.lotView l) ∧ (s.lotView l).length = 32) ∧
      (kind = 2 → 15 < key → refusal .outOfRange) ∧
      (∀ i : LineIx, kind = 2 → key = i.val →
        answer (s.lineView i) ∧ (s.lineView i).length = 32) ∧
      (kind = 3 → s.works.coil? ⟨key / 65536, key % 65536⟩ = none → refusal .unknownCoil) ∧
      (∀ c, kind = 3 → s.works.coil? ⟨key / 65536, key % 65536⟩ = some c →
        answer (s.coilView c) ∧ (s.coilView c).length = 32) ∧
      (kind = 4 → key = 0 ∨ 30 < key → refusal .outOfRange) ∧
      (∀ d : StationIx, kind = 4 → key = d.val + 1 → s.link.stations[d] = none →
        refusal .outOfRange) ∧
      (∀ (d : StationIx) (st : Station), kind = 4 → key = d.val + 1 →
        s.link.stations[d] = some st →
        answer (s.stationView d st) ∧ (s.stationView d st).length = 32))) ∧
  (∀ (s : State) (l : Lot), let sp := l.spec
    (∀ r ∈ [(0, 31, 16, l.number),
        (0, 15, 8, match l.state with | .opened => 1 | .closing => 2 | .closed => 3),
        (0, 7, 0, l.revision),
        (1, 31, 24, match sp.kind with | .laid => 1 | .net => 2 | .other n => n),
        (1, 23, 16, sp.layDirection), (1, 15, 0, sp.twistSpan),
        (2, 31, 16, sp.nominalTwist), (2, 15, 0, sp.twistTolerance),
        (3, 31, 16, sp.persistence), (3, 15, 0, sp.knotsPerRow),
        (4, 31, 16, sp.rowPitch), (4, 15, 8, sp.faultRowsToOpen),
        (4, 7, 0, sp.soundRowsToClose), (5, 31, 0, sp.target),
        (6, 31, 16, sp.cutLead), (6, 15, 0, sp.jointMargin), (7, 31, 0, sp.allowance),
        (8, 31, 0, sp.minSound), (9, 31, 24, sp.maxJoints), (9, 23, 8, sp.rejectShare),
        (9, 7, 0, sp.densityTolerance), (10, 31, 0, sp.densityNominal),
        (11, 31, 16, l.nextSequence), (11, 15, 0, s.works.coilsHeld l.number),
        (12, 31, 16, l.coilsMade), (12, 15, 0, l.coilsRetired), (13, 31, 16, 0),
        (14, 31, 0, s.timeBase), (16, 31, 0, l.produced), (17, 15, 0, l.produced / 2 ^ 32),
        (18, 31, 0, l.unassigned), (19, 15, 0, l.unassigned / 2 ^ 32),
        (20, 31, 0, l.retired), (21, 15, 0, l.retired / 2 ^ 32),
        (17, 31, 16, 0), (19, 31, 16, 0), (21, 31, 16, 0)],
      shows (s.lotView l) r.1 r.2.1 r.2.2.1 r.2.2.2) ∧
    (∀ i : LineIx,
      shows (s.lotView l) 13 i i (if (s.works.line i).lot = some l.number then 1 else 0)) ∧
    (∀ n ∈ [15, 22, 23, 24, 25, 26, 27, 28, 29, 30, 31], (s.lotView l).getD n 0 = 0)) ∧
  (∀ (s : State) (i : LineIx), let l := s.works.line i
    let run := match l.state with
      | .idle => 0 | .primed => 1 | .running => 2 | .starved => 3 | .releasing => 4
    let flag := fun b : Bool => if b then 1 else 0
    let extreme := fun x : Int => ((max (-32768) (min 32767 x)) % 65536).toNat
    (∀ r ∈ [(0, 31, 28, i.val),
        (0, 27, 24, match l.kind with | .unused => 0 | .twist => 1 | .knot => 2),
        (0, 23, 20, if l.suspended then 5 else run), (0, 19, 16, if l.suspended then run else 0),
        (0, 15, 12, match l.cut with | .noCut => 0 | .ordered => 1 | .held => 2),
        (0, 11, 8, match l.starve with
          | none => 0 | some .noEntry => 1 | some .seqExhausted => 2),
        (0, 7, 4, match l.order with | .run => 0 | .cut => 1 | .halt => 2),
        (0, 3, 3, flag l.amendPending), (0, 2, 2, flag l.baselinesValid),
        (0, 1, 1, flag l.jointClose.isSome), (0, 0, 0, 0),
        (1, 31, 16, l.lot.getD 0), (1, 15, 8, l.revision),
        (1, 7, 4, match l.measure with | .wheelA => 1 | .wheelB => 2 | .rows => 3),
        (1, 3, 0, match l.check with | .off => 0 | .wheelA => 1 | .wheelB => 2),
        (2, 31, 16, (l.coil.map fun k => k.sequence).getD 0),
        (2, 15, 8, (l.reserved.map fun p => p.val).getD 255),
        (2, 7, 0, ((s.works.waitList.idxOf? i).map fun n => n + 1).getD 0),
        (3, 31, 0, l.position), (4, 31, 16, l.position / 2 ^ 32), (4, 15, 0, l.remainder),
        (5, 31, 0, if l.order = .cut then l.cutPoint - l.position else 0),
        (6, 31, 0, l.jointClose.getD 0), (7, 31, 16, l.jointClose.getD 0 / 2 ^ 32),
        (7, 15, 8, l.address), (7, 7, 0, 0), (8, 31, 16, l.baselines.spindle.toNat),
        (8, 15, 0, l.baselines.wheelA.toNat), (9, 31, 16, l.baselines.wheelB.toNat),
        (9, 15, 0, l.baselines.rows.toNat), (10, 31, 16, l.wheelA), (10, 15, 0, l.wheelB),
        (11, 31, 16, l.slipTallies), (11, 15, 0, l.resyncs), (12, 31, 16, l.sequenceGaps),
        (12, 15, 0, l.staleEntries), (13, 31, 16, l.unrecorded), (13, 15, 0, 0),
        (14, 31, 0, s.timeBase), (15, 31, 0, 0)],
      shows (s.lineView i) r.1 r.2.1 r.2.2.1 r.2.2.2) ∧
    (l.kind = .twist → ∀ r ∈ [(16, 31, 24, match l.twist.band with
          | .warming => 0 | .inBand => 1 | .suspect => 2 | .out => 3 | .recovering => 4),
        (16, 23, 16, l.twist.window.length), (16, 15, 0, 0), (17, 31, 0, l.twist.lastValue),
        (18, 31, 0, extreme l.twist.extreme), (19, 31, 0, windowLength l.twist.window),
        (20, 31, 0, windowLength l.twist.window / 2 ^ 32),
        (21, 31, 0, min 4294967295 (windowQuarters l.twist.window)),
        (22, 31, 0, l.twist.suspectStart), (23, 31, 0, l.twist.suspectStart / 2 ^ 32 % 65536),
        (24, 31, 0, l.twist.recoveryStart), (25, 31, 0, l.twist.recoveryStart / 2 ^ 32 % 65536)],
      shows (s.lineView i) r.1 r.2.1 r.2.2.1 r.2.2.2) ∧
    (l.kind = .knot → ∀ r ∈ [(16, 31, 24, flag l.knot.faulted), (16, 23, 0, 0),
        (17, 31, 16, l.knot.faultRun), (17, 15, 0, l.knot.soundRun),
        (18, 31, 0, extreme l.knot.extreme)],
      shows (s.lineView i) r.1 r.2.1 r.2.2.1 r.2.2.2) ∧
    (∀ n, (l.kind = .twist ∧ 26 ≤ n) ∨ (l.kind = .knot ∧ 19 ≤ n) ∨ (l.kind = .unused ∧ 16 ≤ n) →
      (s.lineView i).getD n 0 = 0)) ∧
  (∀ (s : State) (c : Coil),
    let reasons := [Reason.zones, .zoneOverflow, .jointsOver, .short, .overlength, .density,
      .lengthUncertain, .unplannedCut, .loose, .unweighed]
    (∀ r ∈ [(0, 31, 16, c.key.lot), (0, 15, 0, c.key.sequence),
        (1, 31, 28, match c.state with | .opened => 1 | .full => 2 | .taken => 3 | .sealed => 4),
        (1, 27, 24, match c.grade with | .first => 1 | .second => 2 | .reject => 3),
        (1, 23, 23, if c.final then 1 else 0), (1, 22, 20, 0), (1, 19, 16, c.line.val),
        (1, 15, 8, (c.packer.map fun p => p.val).getD 255), (1, 7, 0, c.revision),
        (2, 31, 0, c.start), (3, 31, 16, c.start / 2 ^ 32), (3, 15, 8, c.joints),
        (3, 7, 0, c.unlisted), (4, 31, 0, min 4294967295 (s.works.coilLength c)),
        (5, 31, 28, c.zones.length), (5, 27, 10, 0), (6, 31, 16, c.faultRows),
        (6, 15, 0, c.slipTallies), (7, 31, 16, c.missedKnots), (7, 15, 0, c.excessKnots),
        (8, 31, 0, c.weight.getD 0), (9, 31, 0, c.density.getD 0), (11, 31, 0, s.timeBase)],
      shows (s.coilView c) r.1 r.2.1 r.2.2.1 r.2.2.2) ∧
    (∀ n r, reasons[n]? = some r → shows (s.coilView c) 5 n n (if r ∈ c.reasons then 1 else 0)) ∧
    (∀ k : Fin 8,
      let cause := fun x => shows (s.coilView c) 10 (4 * k + 2) (4 * k) x
      let openFlag := fun x => shows (s.coilView c) 10 (4 * k + 3) (4 * k + 3) x
      let extreme := fun x =>
        shows (s.coilView c) (12 + k / 2) (31 - k % 2 * 16) (16 - k % 2 * 16) x
      (c.zones[k.val]? = none → cause 0 ∧ openFlag 0 ∧ extreme 0 ∧
        (s.coilView c).getD (16 + 2 * k) 0 = 0 ∧ (s.coilView c).getD (17 + 2 * k) 0 = 0) ∧
      (∀ z, c.zones[k.val]? = some z →
        cause (match z.cause with
          | .twist => 1 | .knot => 2 | .slip => 3 | .joint => 4 | .operator => 5) ∧
        openFlag (if z.stop = none then 1 else 0) ∧
        extreme ((max (-32768) (min 32767 z.extreme)) % 65536).toNat ∧
        shows (s.coilView c) (16 + 2 * k) 31 0 (min 4294967295 z.start) ∧
        shows (s.coilView c) (17 + 2 * k) 31 0
          (match z.stop with | none => 0xFFFFFFFF | some e => min 4294967295 e)))) ∧
  (∀ (s : State) (d : StationIx) (st : Station),
    let flag := fun b : Bool => if b then 1 else 0
    (∀ r ∈ [(0, 31, 24, d.val + 1), (0, 23, 20, match st.role with | .line _ => 1 | .packer _ => 2),
        (0, 19, 16, match st.role with | .line i => i.val | .packer p => p.val),
        (0, 15, 12, match st.level with | .one => 1 | .two => 2), (0, 11, 8, flag st.isolated),
        (0, 7, 7, flag st.repeatOwed), (0, 6, 6, flag st.probeDue),
        (0, 5, 0, st.roundsSinceProbe), (1, 31, 24, st.failures),
        (1, 23, 16, (st.expected.getD 0).toNat), (1, 15, 8, (st.last.getD 0).toNat),
        (1, 7, 2, 0), (1, 1, 1, flag st.expected.isNone), (1, 0, 0, flag st.last.isNone),
        (2, 31, 16, st.sequenceGaps), (2, 15, 0, st.protocolErrors),
        (3, 31, 24, match st.pending with
          | none => 0 | some (.spec _ _) => 1 | some (.coil _) => 2 | some (.refuse _) => 3),
        (3, 23, 16, 0), (3, 15, 8, s.link.roundCount), (3, 7, 0, 0), (14, 31, 0, s.timeBase)],
      shows (s.stationView d st) r.1 r.2.1 r.2.2.1 r.2.2.2) ∧
    (∀ n, 4 ≤ n → n ≠ 14 → (s.stationView d st).getD n 0 = 0))

/-- R166: LIST_KEYS lists the keys in use from the start index on, at most 32, and tells where to go
on. That entries remain when the walk ended before the last entry, in use or not, is the model's
choice (entry 27). The result's first field 0 is the model's choice (entry 26). -/
def Obligations.ListKeysWalksTheTables : Prop :=
  ∀ (args : List Byte) (s : State), args.length = 2 → s.takesCommands →
    let table := bytesAt args 0 1
    let start := bytesAt args 1 1
    let lots := (List.finRange 32).filterMap fun e =>
      if start ≤ e.val then s.works.lots[e].map fun l => (e.val, l.number) else none
    let coils := (List.finRange 96).filterMap fun e =>
      if start ≤ e.val then
        s.works.coils[e].map fun c => (e.val, c.key.lot % 65536 * 65536 + c.key.sequence % 65536)
      else none
    let page := fun (keys : List (Nat × Nat)) (next : Byte) =>
      exec (.listKeys args) s = .next (s.answered 0x19 args
        { status := .ok, aux := next, fields := (keys.take 32).map fun k => BitVec.ofNat 32 k.2,
          firstField := 0, mode := .run32 })
    ((table ≠ 1 ∧ table ≠ 2) ∨ (table = 1 ∧ 32 ≤ start) ∨ (table = 2 ∧ 96 ≤ start) →
      exec (.listKeys args) s = .next (s.answered 0x19 args (.plain .outOfRange))) ∧
    (table = 1 → start < 32 → page lots 255) ∧
    (table = 2 → start < 96 → coils.length < 32 → page coils 255) ∧
    (∀ k, table = 2 → start < 96 → coils[31]? = some k →
      page coils (if k.1 < 95 then BitVec.ofNat 8 (k.1 + 1) else 255))

/-- R169, R170, R171: the notice sets hold the events raised and the conditions that stand; ATTN is
asserted exactly while some enabled notice of some set is set; LAMP shows its condition by its
polarity, and off in LOADING; and NOTICE_READ shows all sets and ATTN as they stand, and clears the
event notices in the read-clears mode alone. That the bits of the fields that R170 lists for no
notice read 0 is the model's choice (entry 39). -/
def Obligations.NoticeReadShowsTheSets : Prop :=
  ∀ s : State,
    let on := fun (b : Bool) (x : Half) => if b then x else 0
    let enabled := fun n : Nat => s.settings.enables.getLsbD n = true
    s.globalNotices = s.works.notices.global ||| on (decide (s.partState = .hold)) 0x2 |||
      on (decide (s.works.freeCoils < s.settings.tableLow)) 0x4 ∧
    (∀ i : LineIx, let l := s.works.line i
      s.lineNotices i = s.works.notices.line[i] ||| on l.suspended 0x1 |||
        on (decide (l.state = .starved)) 0x2 ||| on (decide (l.cut = .held)) 0x4 |||
        on l.halted 0x8) ∧
    (∀ p : PackerIx, s.packerNotices p =
      s.works.notices.packer[p] ||| on (decide (s.works.placesInUse p = 6)) 0x1) ∧
    (∀ d : StationIx, s.stationNotices d = s.works.notices.station[d] |||
      on (match s.link.stations[d] with | some st => st.isolated | none => false) 0x1) ∧
    (s.attn = true ↔
      (∃ n, n < 4 ∧ enabled n ∧ s.globalNotices.getLsbD n = true) ∨
      (∃ (i : LineIx) (n : Nat), n < 10 ∧ enabled (4 + n) ∧
        (s.lineNotices i).getLsbD n = true) ∨
      (∃ (p : PackerIx) (n : Nat), n < 3 ∧ enabled (14 + n) ∧
        (s.packerNotices p).getLsbD n = true) ∨
      (∃ (d : StationIx) (n : Nat), n < 4 ∧ enabled (17 + n) ∧
        (s.stationNotices d).getLsbD n = true)) ∧
    (s.lampHigh = s.settings.lampActiveHigh ↔ s.partState ≠ .loading ∧
      ((s.settings.lampCondition = 0 ∧ ∃ i, (s.works.line i).state = .starved) ∨
        (s.settings.lampCondition = 1 ∧
          ∃ i, (s.works.line i).cut = .held ∨ (s.works.line i).halted = true) ∨
        (s.settings.lampCondition = 2 ∧ ∃ p, s.works.placesInUse p = 6) ∨
        (s.settings.lampCondition = 3 ∧
          ∃ (d : StationIx) (st : Station), s.link.stations[d] = some st ∧ st.isolated = true) ∨
        (s.settings.lampCondition = 4 ∧ s.partState = .hold) ∨
        (s.settings.lampCondition = 5 ∧ ∃ c ∈ inUse s.works.coils, c.state = .opened ∧
          ((∃ z ∈ c.zones, z.stop = none ∧ (z.cause = .twist ∨ z.cause = .knot)) ∨
            Cause.twist ∈ c.unlistedOpen ∨ Cause.knot ∈ c.unlistedOpen)))) ∧
    (s.takesCommands → ∃ fields, exec (.noticeRead []) s = .next
      { s.answered 0x20 []
          { status := .ok, aux := if s.attn then 1 else 0, fields := fields, firstField := 0,
            mode := .run32 } with
        works := if s.settings.writeOneClears then s.works
          else { s.works with notices := Notices.clear } } ∧
      fields.length = 14 ∧ fields.getD 0 0 = (s.globalNotices).setWidth 32 ∧
      (∀ j, (hj : j < 8) → fields.getD (1 + j) 0 =
        (s.lineNotices ⟨2 * j, by omega⟩).setWidth 32 * 65536 +
          (s.lineNotices ⟨2 * j + 1, by omega⟩).setWidth 32) ∧
      (∀ p : PackerIx, shows fields 9 (4 * p + 2) (4 * p) (s.packerNotices p).toNat ∧
        shows fields 9 (4 * p + 3) (4 * p + 3) 0) ∧
      (∀ d : StationIx, shows fields (10 + d / 8) (4 * (d % 8) + 3) (4 * (d % 8))
        (s.stationNotices d).toNat) ∧
      shows fields 13 31 24 0)

/-- R170: NOTICE_CLEAR clears the event notices that its mask names in one set, and nothing else; it
is refused for a set that is not there. Auxiliary byte 0 (entry 25) and first field 0 (entry 26)
where no rule gives them are the model's choices. -/
def Obligations.NoticeClearClearsNamedEvents : Prop :=
  ∀ (args : List Byte) (s : State), args.length = 4 → s.takesCommands →
    let kind := bytesAt args 0 1
    let index := bytesAt args 1 1
    let mask : Half := BitVec.ofNat 16 (bytesAt args 2 2)
    let ns := s.works.notices
    let cleared := fun n : Notices =>
      exec (.noticeClear args) s = .next { s.answered 0x21 args (.plain .ok) with
        works := { s.works with notices := n } }
    (kind = 0 → index = 0 → cleared { ns with global := ns.global &&& ~~~mask }) ∧
    (∀ i : LineIx, kind = 1 → index = i.val →
      cleared { ns with line := ns.line.set i (ns.line[i] &&& ~~~mask) }) ∧
    (∀ p : PackerIx, kind = 2 → index = p.val →
      cleared { ns with packer := ns.packer.set p (ns.packer[p] &&& ~~~mask) }) ∧
    (∀ d : StationIx, kind = 3 → index = d.val + 1 → s.link.stations[d].isSome = true →
      cleared { ns with station := ns.station.set d (ns.station[d] &&& ~~~mask) }) ∧
    (3 < kind ∨ (kind = 0 ∧ 0 < index) ∨ (kind = 1 ∧ 15 < index) ∨ (kind = 2 ∧ 7 < index) ∨
        (kind = 3 ∧ (index = 0 ∨ 30 < index)) →
      exec (.noticeClear args) s = .next (s.answered 0x21 args (.plain .outOfRange))) ∧
    (∀ d : StationIx, kind = 3 → index = d.val + 1 → s.link.stations[d] = none →
      exec (.noticeClear args) s = .next (s.answered 0x21 args (.plain .outOfRange)))

/-- The laws that the spec gives for all times: R5 (revisions), R17 and R22 (lines and coils), R25
(the wait list), R102 (open zones on OPEN coils alone) and R138 (only the head TAKEN) as
`State.recordsLinked` says them; R11 (length is conserved); R102 (zones within the length of an OPEN
coil); and R22 and R114: a SEALED coil does not change until it leaves the table. What R102 says of
the length of an ended coil is not stated, because of a cut behind the run position (entry 15). That
the registers stand in their ranges (RegistersStayInRange) is a premise: a remainder of a whole
millimetre would resolve a cut beyond the run position (R47). -/
def Obligations.LawsOfTheRecordsStay : Prop :=
  ∀ s t : State, s.keysLawful → s.ranged → s.recordsLinked → step s = .next t →
    t.recordsLinked ∧ (s.lengthConserved → t.lengthConserved) ∧
    (s.zonesWithin → t.zonesWithin) ∧
    ∀ c ∈ inUse s.works.coils, c.state = .sealed →
      t.works.coil? c.key = none ∨
        (t.works.coil? c.key = some c ∧ t.works.coilLength c = s.works.coilLength c)

/-! ## Probe, store and restarts (8.4, 9.3, 9.4) -/

/-- R158, R163: STATION_PROBE sets probe due on an ISOLATED station and changes nothing on an ACTIVE
one. A level-one station that it makes due during a round waits for the round after it (entry 28).
Auxiliary byte 0 (entry 25) and first field 0 (entry 26) where no rule gives them are the model's
choices. -/
def Obligations.StationProbeSetsProbeDue : Prop :=
  ∀ (args : List Byte) (s : State), args.length = 1 → s.takesCommands →
    let a := bytesAt args 0 1
    (a = 0 ∨ 30 < a →
      exec (.stationProbe args) s = .next (s.answered 0x30 args (.plain .outOfRange))) ∧
    (∀ d : StationIx, a = d.val + 1 → s.link.stations[d] = none →
      exec (.stationProbe args) s = .next (s.answered 0x30 args (.plain .outOfRange))) ∧
    (∀ (d : StationIx) (st : Station), a = d.val + 1 → s.link.stations[d] = some st →
      exec (.stationProbe args) s = .next
        (if st.isolated then { s.answered 0x30 args (.plain .ok) with
          link := { s.link with
            stations := s.link.stations.set d (some { st with probeDue := true }),
            round := if st.level = .one ∧ st.probeDue = false then
                s.link.round.map fun pos => { pos with late := pos.late ++ [d] }
              else s.link.round } }
        else s.answered 0x30 args (.plain .ok)))

/-- R167: STORE_READ and STORE_WRITE begin a transfer when none is in flight and are refused BUSY
when one is; the outcome replaces the buffer when the transfer ends, unless another command's
outcome stands in it. The model's choices: without a request in flight the end of a transfer changes
nothing (entry 7), a write's outcome and a request that has begun leave auxiliary byte 0 (entry 25),
and first field 0 (entry 26). -/
def Obligations.StoreRequestsBeginAndEnd : Prop :=
  (∀ (args : List Byte) (s : State), args.length = 2 → s.takesCommands →
    exec (.storeRead args) s = .next
      (if s.port.store.isSome then s.answered 0x28 args (.plain .busy)
      else
        let t := s.answered 0x28 args (.plain .busy)
        { t with port := { t.port with
          store := some { address := bytesAt args 0 2, data := none },
          storeOutcomeWanted := true } })) ∧
  (∀ (args : List Byte) (s : State), args.length = 3 → s.takesCommands →
    exec (.storeWrite args) s = .next
      (if s.port.store.isSome then s.answered 0x29 args (.plain .busy)
      else
        let t := s.answered 0x29 args (.plain .busy)
        { t with port := { t.port with
          store := some { address := bytesAt args 0 2, data := some (args.getD 2 0) },
          storeOutcomeWanted := true } })) ∧
  (∀ (ack : Bool) (s : State) (r : StoreRequest), s.port.store = some r →
    Memory.wf s.eeprom = true →
    ∃ t, exec (.storeTransferDone ack) s = .next t ∧
      t.port = { s.port with
        store := none, storeOutcomeWanted := false,
        result := if s.port.storeOutcomeWanted then
            { status := .ok,
              aux := if ack = true ∧ r.data = none then Memory.read s.eeprom r.address else 0,
              fields := [if ack then 0 else 1], firstField := 0, mode := .run32 }
          else s.port.result } ∧
      (∀ a, Memory.read t.eeprom a =
        match r.data with
        | some b => if ack = true ∧ a = r.address then b else Memory.read s.eeprom a
        | none => Memory.read s.eeprom a) ∧
      t = { s with port := t.port, eeprom := t.eeprom }) ∧
  (∀ (ack : Bool) (s : State), s.port.store = none → exec (.storeTransferDone ack) s = .next s)

/-- R29, R153, R168, R169: RESTART_WARM keeps every record, ends the suspensions and restarts the
link. A poll still being sent is cut off with its exchange (the model's choice, entry 41). -/
def Obligations.RestartWarmKeepsTheRecords : Prop :=
  ∀ s : State, s.takesCommands →
    ∃ t, exec (.restartWarm []) s = .next t ∧
      t.works = { s.works with
        lines := mapTable (fun l => { l with suspended := false }) s.works.lines,
        notices := Notices.clear } ∧
      t.link = { s.link with
        stations := mapTable (Option.map fun st =>
          { role := st.role, level := st.level, isolated := false, failures := 0,
            repeatOwed := false, probeDue := false, roundsSinceProbe := 0, expected := none,
            last := none, pending := none, sequenceGaps := st.sequenceGaps,
            protocolErrors := st.protocolErrors }) s.link.stations,
        roundCount := 0, rotation := none, round := none, turn := none, reception := none } ∧
      t.port.result =
        { status := .ok, aux := 0, fields := [], firstField := 0, mode := .run32 } ∧
      t.port.store = none ∧ t.port.inputBuffer = [] ∧ t.port.transaction = none ∧
      t.partState = s.partState ∧ t.resumeTimer = s.resumeTimer ∧ t.supplyOk = s.supplyOk ∧
      t.timeBase = s.timeBase ∧ t.settings = s.settings ∧
      ((∀ r, s.port.store = some r → r.data = none) → t.eeprom = s.eeprom)

/-- R27, R28, R149, R168, R169, R174: RESTART_COLD, POWER_ON and RESETN_ASSERT put the part into
LOADING with its tables, lists and notices cleared, its lines IDLE at position 0, the result buffer
BUSY and no store request. That POWER_ON keeps the level of SUPPLY_OK is the model's choice (entry
2). -/
def Obligations.EnteringLoadingClearsTheTables : Prop :=
  ∀ (c : Instr) (s : State),
    (c = .restartCold [] ∧ s.takesCommands) ∨ c = .powerOn ∨ c = .resetnAssert →
    ∃ t, exec c s = .next t ∧ t.partState = .loading ∧ t.resumeTimer = none ∧
      t.timeBase = (if c = .restartCold [] then s.timeBase else 0) ∧ t.supplyOk = s.supplyOk ∧
      inUse t.works.lots = [] ∧ inUse t.works.coils = [] ∧ t.works.waitList = [] ∧
      t.works.freeCoils = 96 ∧
      (∀ p : PackerIx, t.works.queues[p] = [] ∧ t.works.held[p] = [] ∧
        t.works.reservations p = []) ∧
      t.works.notices = Notices.clear ∧ t.port.store = none ∧
      t.port.result = { status := .busy, aux := 0, fields := [], firstField := 0, mode := .run32 } ∧
      (∀ x, t.port.transaction = some x → x.discarded = true) ∧ t.lkde = false ∧
      (∀ i, let l := t.works.line i
        l.state = .idle ∧ l.suspended = false ∧ l.lot = none ∧ l.coil = none ∧ l.position = 0 ∧
        l.remainder = 0 ∧ l.baselinesValid = false ∧ l.baselines = ⟨0, 0, 0, 0⟩ ∧
        l.cut = .noCut ∧ l.reserved = none ∧ l.order = .halt) ∧
      ((∀ r, s.port.store = some r → r.data = none) → t.eeprom = s.eeprom)

/-! ## Loading and the part state (10.2, 10.3) -/

/-- R172 to R174: LOAD_COMPLETE takes a good image value by value, clamped, with the stations placed
in entry order, the pairs judged and WHEELS_DEFAULTED raised where they conflict, and raises no
LOAD_ERR for it; or it loads the defaults image and raises LOAD_ERR. The part enters READY or HOLD
by SUPPLY_OK. What the EEPROM acknowledged is the row's operand (entry 36). Auxiliary byte 0 (entry
25) and first field 0 (entry 26) where no rule gives them are the model's choices. -/
def Obligations.LoadTakesTheImageOrTheDefaults : Prop :=
  ∀ (ack : Bool) (s : State), s.partState = .loading →
    let img := (List.range 195).map (Memory.read s.eeprom)
    let good := ack = true ∧ bytesAt img 0 2 = 0x5A62 ∧ bytesAt img 2 1 = 195 ∧
      (img.map BitVec.toNat).sum % 256 = 0
    let byte := fun n => bytesAt img n 1
    let lineAddress := fun i : LineIx => max 1 (min 30 (byte (3 + 9 * i.val + 1)))
    let linePlaced := fun i : LineIx => byte (3 + 9 * i.val) ≠ 0 ∧
      ∀ j < i, byte (3 + 9 * j.val) ≠ 0 → lineAddress j ≠ lineAddress i
    let packerAddress := fun p : PackerIx => min 30 (byte (147 + 2 * p.val))
    let packerPlaced := fun p : PackerIx => packerAddress p ≠ 0 ∧
      (∀ i : LineIx, byte (3 + 9 * i.val) ≠ 0 → lineAddress i ≠ packerAddress p) ∧
      ∀ q < p, packerAddress q ≠ packerAddress p
    let level := fun n => if byte n ≤ 1 then Level.one else Level.two
    ∃ t, exec (.loadComplete ack) s = .next t ∧
      t = { s with
        partState := if s.supplyOk then .ready else .hold, resumeTimer := none,
        settings := t.settings,
        works := { s.works with
          lines := t.works.lines, lanes := t.works.lanes, notices := t.works.notices },
        link := { Link.reset with stations := t.link.stations, lastPoll := s.link.lastPoll },
        port := { s.port with
          result := { status := .ok, aux := 0, fields := [], firstField := 0, mode := .run32 },
          store := none, storeOutcomeWanted := false } } ∧
      t.works.notices.packer = s.works.notices.packer ∧
      t.works.notices.station = s.works.notices.station ∧
      (good →
        t.settings =
          { linkRate := min 3 (byte 179), replyTimeout := max 1 (byte 180),
            retryLimit := min 3 (byte 181), isolationThreshold := min 15 (byte 182),
            roundPeriod := max 1 (byte 183), slipPermille := max 5 (min 500 (bytesAt img 184 2)),
            tableLow := min 95 (byte 186), enables := BitVec.ofNat 32 (bytesAt img 187 4),
            writeOneClears := decide (byte 191 ≠ 0), lampCondition := min 5 (byte 192),
            lampActiveHigh := decide (byte 193 ≠ 0) } ∧
        t.works.notices.global = s.works.notices.global ∧
        (∀ i : LineIx,
          let at0 := 3 + 9 * i.val
          let kind := if byte at0 = 1 then LineKind.twist else .knot
          let m := if byte (at0 + 7) ≤ 1 then MeasureSource.wheelA
            else if byte (at0 + 7) = 2 then .wheelB else .rows
          let c := if byte (at0 + 8) = 0 then CheckSource.off
            else if byte (at0 + 8) = 1 then .wheelA else .wheelB
          let conflict := (kind = .knot ∧ m ≠ .rows) ∨
            (kind = .twist ∧ (m = .rows ∨ (m = .wheelA ∧ c = .wheelA) ∨
              (m = .wheelB ∧ c = .wheelB)))
          let fresh : Line := { Line.reset with
            address := lineAddress i, wheelA := max 100 (bytesAt img (at0 + 3) 2),
            wheelB := max 100 (bytesAt img (at0 + 5) 2) }
          (¬ linePlaced i →
            t.works.line i = { fresh with kind := .unused, measure := m, check := c } ∧
            t.works.notices.line[i] = s.works.notices.line[i]) ∧
          (linePlaced i → conflict →
            t.works.line i = { fresh with
              kind := kind, measure := if kind = .knot then .rows else .wheelA,
              check := if kind = .knot then .off else .wheelB } ∧
            t.works.notices.line[i] = s.works.notices.line[i] ||| 0x200) ∧
          (linePlaced i → ¬ conflict →
            t.works.line i = { fresh with kind := kind, measure := m, check := c } ∧
            t.works.notices.line[i] = s.works.notices.line[i]) ∧
          t.works.lanes[i] = (if byte (163 + i.val) = 255 then none
            else some (Fin.ofNat 8 (min 7 (byte (163 + i.val)))))) ∧
        (∀ d : StationIx,
          (∀ i : LineIx, linePlaced i → lineAddress i = d.val + 1 →
            t.link.stations[d] = some (Station.start (.line i) (level (3 + 9 * i.val + 2)))) ∧
          (∀ p : PackerIx, packerPlaced p → packerAddress p = d.val + 1 →
            t.link.stations[d] = some (Station.start (.packer p) (level (148 + 2 * p.val)))) ∧
          ((∀ i : LineIx, linePlaced i → lineAddress i ≠ d.val + 1) →
            (∀ p : PackerIx, packerPlaced p → packerAddress p ≠ d.val + 1) →
            t.link.stations[d] = none))) ∧
      (¬ good →
        t.works.notices.global = s.works.notices.global ||| 0x1 ∧
        t.works.notices.line = s.works.notices.line ∧
        t.settings =
          { linkRate := 2, replyTimeout := 50, retryLimit := 2, isolationThreshold := 8,
            roundPeriod := 10, slipPermille := 50, tableLow := 8, enables := 0xFFFFFFFF,
            writeOneClears := false, lampCondition := 0, lampActiveHigh := false } ∧
        (∀ i : LineIx,
          t.works.line i = { Line.reset with
            kind := .twist, address := i.val + 1, wheelA := 1000, wheelB := 1000,
            measure := .wheelA, check := .off } ∧
          t.works.lanes[i] = some (Fin.ofNat 8 (i.val % 8)) ∧
          t.link.stations[i.val]? = some (some (Station.start (.line i) .one))) ∧
        (∀ p : PackerIx,
          t.link.stations[16 + p.val]? = some (some (Station.start (.packer p) .two))) ∧
        (∀ d : StationIx, 24 ≤ d.val → t.link.stations[d] = none))

/-- R161, R175: the edges of SUPPLY_OK and the resume timer move the part between READY and HOLD.
The model's choices: entering HOLD ends the round and keeps a poll that is being sent (entry 23), an
edge is taken as it is told (entry 31), and the timer's end is told by its row, whatever the timer
holds (entry 5). -/
def Obligations.SupplyMovesThePartState : Prop :=
  (∀ s : State, s.partState = .ready →
    exec .supplyOkFall s = .next { s with
      supplyOk := false, partState := .hold, resumeTimer := none,
      link := { s.link with
        round := none, turn := s.link.turn.filter fun t => decide (t.phase ≠ .due) } }) ∧
  (∀ s : State, s.partState = .hold →
    exec .supplyOkFall s = .next { s with supplyOk := false, resumeTimer := none } ∧
    exec .supplyOkRise s = .next { s with supplyOk := true, resumeTimer := some 0 }) ∧
  (∀ s : State, s.partState = .loading →
    exec .supplyOkFall s = .next { s with supplyOk := false } ∧
    exec .supplyOkRise s = .next { s with supplyOk := true }) ∧
  (∀ (s : State) (n : Nat), s.partState = .hold → s.resumeTimer = some n → s.supplyOk = true →
    exec .resumeTimerExpiry s = .next { s with partState := .ready, resumeTimer := none })

/-! ## Rounds, polls and failed exchanges (8.3, 8.4) -/

/-- R154: ROUND_START counts the round on the link and on every ISOLATED station. -/
def Obligations.RoundStartCountsTheRound : Prop :=
  ∀ s : State, s.partState = .ready → s.link.turn = none → s.link.round = none →
    ∃ k, exec .roundStart s = .next { s with link := k } ∧
      k.roundCount = (s.link.roundCount + 1) % 32 ∧
      k.stations = mapTable (Option.map fun st =>
        if st.isolated then
          { st with
            roundsSinceProbe := min 32 (st.roundsSinceProbe + 1),
            probeDue := st.probeDue || decide (32 ≤ st.roundsSinceProbe + 1) }
        else st) s.link.stations ∧
      k.rotation = s.link.rotation ∧ k.turn = none ∧ k.reception = s.link.reception ∧
      (∀ (d : StationIx) (st : Station), s.link.stations[d] = some st → st.isolated = false →
        k.round = some { levelOneAfter := 0, levelTwoDone := false })

/-- R151, R154, R155, R158: POLL_SEND sends the poll a turn owes, or the first poll of the round's
next turn: of the level-one stations in address order those not yet passed, an ISOLATED one only
with its probe due and not in the round in which a STATION_PROBE made it due (entry 28), and then of
one level-two station, the first after the rotation point. Nothing is sent outside READY, while an
exchange is outstanding, or when no turn is left: a POLL_SEND out of its turn changes nothing (the
model's choice, entry 7). LKDE is high from the poll until POLL_TRANSMIT_DONE, and low in HOLD and
LOADING (entry 23); a poll ends a reception (entry 24). -/
def Obligations.PollSendSendsTheNextPoll : Prop :=
  let serves := fun (pos : RoundPosition) (e : StationIx) (u : Station) =>
    u.isolated = false ∨ (u.probeDue = true ∧ e ∉ pos.late)
  let levelOneDone := fun (s : State) (pos : RoundPosition) =>
    ∀ (e : StationIx) (u : Station), pos.levelOneAfter ≤ e.val → s.link.stations[e] = some u →
      u.level = .one → ¬ serves pos e u
  let first := fun (s : State) (d : StationIx) (st : Station) (round : RoundPosition)
      (rotation : Option StationIx) =>
    exec .pollSend s = .next { s with
      link := { s.link with
        round := some round, rotation := rotation,
        turn := some
          { station := d, probe := st.isolated, tries := 1, extras := 0, phase := .sending },
        reception := none, lastPoll := s.pollFor d } }
  (∀ (s : State) (t : Turn), s.partState = .ready → s.link.turn = some t → t.phase = .due →
    exec .pollSend s = .next { s with
      link := { s.link with
        turn := some { t with tries := t.tries + 1, phase := .sending }, reception := none,
        lastPoll := s.pollFor t.station } }) ∧
  (∀ (s : State) (pos : RoundPosition) (d : StationIx) (st : Station), s.partState = .ready →
    s.link.turn = none → s.link.round = some pos → pos.levelOneAfter ≤ d.val →
    s.link.stations[d] = some st → st.level = .one → serves pos d st →
    (∀ (e : StationIx) (u : Station), pos.levelOneAfter ≤ e.val → e < d →
      s.link.stations[e] = some u → u.level = .one → ¬ serves pos e u) →
    first s d st { pos with levelOneAfter := d.val + 1 } s.link.rotation) ∧
  (∀ (s : State) (pos : RoundPosition) (d : StationIx) (st : Station), s.partState = .ready →
    s.link.turn = none → s.link.round = some pos → levelOneDone s pos →
    pos.levelTwoDone = false → s.link.stations[d] = some st → st.level = .two →
    st.isolated = false ∨ st.probeDue = true →
    let place := fun e : StationIx => match s.link.rotation with
      | none => e.val
      | some r => (e.val + 29 - r.val) % 30
    (∀ (e : StationIx) (u : Station), place e < place d → s.link.stations[e] = some u →
      u.level = .two → u.isolated = true ∧ u.probeDue = false) →
    first s d st { pos with levelOneAfter := 30, levelTwoDone := true } (some d)) ∧
  (∀ s : State, s.partState ≠ .ready ∨ (∃ t, s.link.turn = some t ∧ t.phase ≠ .due) ∨
      (s.link.turn = none ∧ (s.link.round = none ∨
        ∃ pos, s.link.round = some pos ∧ levelOneDone s pos ∧ (pos.levelTwoDone = true ∨
          ∀ (e : StationIx) (u : Station), s.link.stations[e] = some u → u.level = .two →
            u.isolated = true ∧ u.probeDue = false))) →
    exec .pollSend s = .next s) ∧
  (∀ (s : State) (t : Turn), s.link.turn = some t → t.phase = .sending →
    (s.lkde = true ↔ s.partState = .ready) ∧
    exec .pollTransmitDone s = .next { s with
      link := { s.link with turn := some { t with phase := .waiting } } } ∧
    State.lkde { s with
      link := { s.link with turn := some { t with phase := .waiting } } } = false)

/-- R117: the standing order of each run state and cut state. R117, R155: the bytes of a poll:
REPEAT, to a line's station the standing order with its remaining unless the line is SUSPENDED, to a
packer's station no order, and the pending answer. -/
def Obligations.PollCarriesOrderAndAnswer : Prop :=
  (∀ l : Line,
    (l.state = .idle → l.order = .halt) ∧ (l.state = .primed → l.order = .run) ∧
    (l.state = .starved → l.order = .halt) ∧
    (l.state = .running → l.cut = .noCut → l.order = .run) ∧
    (l.state = .running → l.cut = .ordered → l.order = .cut) ∧
    (l.state = .running → l.cut = .held → l.halted = false → l.order = .run) ∧
    (l.state = .running → l.cut = .held → l.halted = true → l.order = .halt) ∧
    (l.state = .releasing → l.cut = .ordered → l.order = .cut)) ∧
  (∀ (s : State) (d : StationIx) (st : Station), s.link.stations[d] = some st →
    let flags (order : Nat) : Byte :=
      BitVec.ofNat 8
        ((if st.repeatOwed then 1 else 0) + order + (if st.pending.isSome then 4 else 0))
    let answer := (st.pending.map Answer.bytes).getD []
    let poll := fun (order : Nat) (block : List Byte) =>
      s.pollFor d = frameBytes (d.val + 1) 0x01 (flags order) (block ++ answer)
    (∀ p, st.role = .packer p → poll 0 []) ∧
    (∀ i, st.role = .line i →
      let l := s.works.line i
      (l.suspended = true → poll 0 []) ∧
      (l.suspended = false →
        (l.order = .run → poll 2 [0, 0, 0, 0, 0]) ∧
        (l.order = .cut → poll 2 ([1] ++ toBytes 4 (l.cutPoint - l.position))) ∧
        (l.order = .halt → poll 2 [2, 0, 0, 0, 0]))))

/-- R17, R152, R156, R158, R161: a reply timeout, a character time-out, a frame not intact and a
frame of another address each fail the exchange that is outstanding: repeat is owed, and a retry
while tries remain; a turn that fails counts a failure, and at the threshold isolates the station,
discards its pending answer and suspends its line, unless the line is IDLE. A failed probe is over;
in HOLD the exchange ends with no retry and no failure. Without an exchange only a reception ends: a
REPLY_TIMEOUT out of its turn changes nothing (the model's choice, entry 7). -/
def Obligations.FailedExchangeRetriesOrIsolates : Prop :=
  ∀ (c : Instr) (s : State),
    (c = .replyTimeout ∧ s.link.reception = none) ∨ c = .characterTimeout ∨
      (∃ x, c = .frameNotIntact x) ∨ c = .frameWrongAddress →
    ((s.link.turn = none ∨ ∃ t, s.link.turn = some t ∧ t.phase = .due) →
      exec c s = .next { s with link := { s.link with reception := none } }) ∧
    ∀ (t : Turn) (st : Station), s.link.turn = some t → t.phase ≠ .due →
      s.link.stations[t.station] = some st →
      let ends := fun (st' : Station) (w : Works) =>
        ∃ round, (round = s.link.round ∨ round = none) ∧ exec c s = .next { s with
          works := w,
          link := { s.link with
            stations := s.link.stations.set t.station (some { st' with repeatOwed := true }),
            turn := none, reception := none, round := round } }
      (s.partState = .hold → ends st s.works) ∧
      (s.partState = .ready → t.probe = true →
        ends { st with roundsSinceProbe := 0, probeDue := false } s.works) ∧
      (s.partState = .ready → t.probe = false → t.tries ≤ s.settings.retryLimit →
        exec c s = .next { s with
          link := { s.link with
            stations := s.link.stations.set t.station (some { st with repeatOwed := true }),
            turn := some { t with phase := .due }, reception := none } }) ∧
      (s.partState = .ready → t.probe = false → s.settings.retryLimit < t.tries →
        (s.settings.isolationThreshold = 0 ∨
            min 255 (st.failures + 1) < s.settings.isolationThreshold →
          ends { st with failures := min 255 (st.failures + 1) } s.works) ∧
        (0 < s.settings.isolationThreshold →
          s.settings.isolationThreshold ≤ min 255 (st.failures + 1) →
          ends { st with
              failures := min 255 (st.failures + 1), isolated := true, roundsSinceProbe := 0,
              probeDue := false, pending := none }
            (match st.role with
              | .packer _ => s.works
              | .line i => s.works.modifyLine i fun l =>
                if l.state = .idle then l else { l with suspended := true })))

/-! ## Reception (8.1) -/

/-- R152: a frame in reception begins at A5h and collects the characters; any other character while
none is in reception is discarded. -/
def Obligations.CharacterReceivedCollectsAFrame : Prop :=
  (∀ s : State, s.link.reception = none →
    exec (.characterReceived 0xA5) s = .next { s with
      link := { s.link with reception := some [] } }) ∧
  (∀ (c : Byte) (s : State), s.link.reception = none → c ≠ 0xA5 →
    exec (.characterReceived c) s = .next s) ∧
  (∀ (c : Byte) (s : State) (bs : List Byte), s.link.reception = some bs → bs.length < 3 →
    exec (.characterReceived c) s = .next { s with
      link := { s.link with reception := some (bs ++ [c]) } }) ∧
  (∀ (c : Byte) (s : State) (bs : List Byte) (t : Turn) (st : Station),
    s.link.reception = some bs → bs.length = 3 → 48 < c.toNat →
    s.partState = .ready → s.link.turn = some t → t.phase ≠ .due → t.probe = false →
    t.tries ≤ s.settings.retryLimit → s.link.stations[t.station] = some st →
    exec (.characterReceived c) s = .next { s with
      link := { s.link with
        stations := s.link.stations.set t.station (some { st with repeatOwed := true }),
        turn := some { t with phase := .due }, reception := none } })

/-- R151, R152: the characters of a frame with its CRC, received one by one, do what the whole frame
does. That both are rows, and that a frame row's bytes decide what it says, are the model's choices
(entries 9 and 10). -/
def Obligations.CharactersDeliverTheirFrame : Prop :=
  ∀ (s : State) (address kind sequence : Byte) (payload : List Byte), s.link.reception = none →
    payload.length ≤ 48 →
    execAll ((frameBytes address.toNat kind sequence payload).map Instr.characterReceived) s =
      exec (.invalidFrameKind kind address sequence payload) s

/-! ## Frames of the stations (8.3, 8.5) -/

/-- R142, R157, R158, R159, R160: an IDLE frame and the lookups end their turn, and a lookup leaves
its answer pending. Of every frame: the reply of an ISOLATED station is dealt with as that of the
station reinstated and its line returned; a duplicate is dropped unless it is a TALLY or an IDLE; a
gap is counted and the frame dealt with; and MORE makes an extra exchange, up to three in READY. -/
def Obligations.IdleAndLookupsAreAnswered : Prop :=
  (∀ (s : State) (d : StationIx) (role : Role) (a q : Byte) (payload : List Byte),
    s.expects d role a q payload →
    (payload.length = 1 →
      exec (.idle a q payload) s = .next (s.afterReply d q none s.works)) ∧
    (∀ i, role = .line i → payload.length = 2 → payload.getD 1 0 = 1 →
      exec (.askSpec a q payload) s = .next (s.afterReply d q
        (some (if (s.works.line i).state = .idle then .refuse .notFound
          else .spec (s.works.line i).revision (s.works.line i).spec)) s.works)) ∧
    (∀ p, role = .packer p → payload.length = 2 → payload.getD 1 0 = 2 →
      s.works.queues[p] = [] →
      exec (.askNext a q payload) s =
        .next (s.afterReply d q (some (.refuse .notFound)) s.works)) ∧
    (∀ p k rest c, role = .packer p → payload.length = 2 → payload.getD 1 0 = 2 →
      s.works.queues[p] = k :: rest → s.works.coil? k = some c →
      exec (.askNext a q payload) s =
        .next (s.afterReply d q (some (.coil (s.works.coilAnswer c))) s.works)) ∧
    (payload.length = 6 → payload.getD 1 0 = 3 →
      exec (.askCoil a q payload) s = .next (s.afterReply d q
        (some (match s.works.coil? (keyAt payload 2) with
          | some c => .coil (s.works.coilAnswer c)
          | none => .refuse .notFound)) s.works))) ∧
  (∀ (c : Instr) (kind a q : Byte) (payload : List Byte) (s : State) (t : Turn) (st : Station),
    c.frame? = some (kind, a, q, payload) → s.link.turn = some t → t.phase ≠ .due →
    a.toNat = t.station.val + 1 → payload.length ≤ 48 → s.link.stations[t.station] = some st →
    let station := fun st' : Station => s.link.stations.set t.station (some st')
    let more := moreOf payload = true ∧ t.extras < 3 ∧ s.partState = .ready
    (st.isolated = true → exec c s = exec c { s with
      works := (match st.role with
        | .packer _ => s.works
        | .line i => s.works.modifyLine i fun l => { l with suspended := false }).raiseStation
          t.station 0x2,
      link := { s.link with stations := station { st with
        isolated := false, failures := 0, expected := none, last := none, probeDue := false } } }) ∧
    (∀ x, st.isolated = false → st.expected = some x → x ≠ q → st.last = some q →
      (kind ≠ 0x10 → kind ≠ 0x11 → ¬ more → exec c s = .next (State.endTurn { s with
        link := { s.link with
          stations := station { st with failures := 0, repeatOwed := false, pending := none },
          reception := none } })) ∧
      (kind = 0x10 ∨ kind = 0x11 → x = q + 1 → exec c s = exec c { s with
        link := { s.link with stations := station { st with expected := some q } } })) ∧
    (∀ x, st.isolated = false → st.expected = some x → x ≠ q → st.last ≠ some q →
      exec c s = exec c { s with
        works := (match st.role with
          | .packer _ => s.works
          | .line i => s.works.modifyLine i fun l =>
            { l with sequenceGaps := min 65535 (l.sequenceGaps + 1) }).raiseStation t.station 0x4,
        link := { s.link with stations := station { st with
          expected := some q, sequenceGaps := min 65535 (st.sequenceGaps + 1) } } }) ∧
    (more → ∃ u,
      exec c { s with link := { s.link with turn := some { t with extras := 3 } } } = .next u ∧
      exec c s = .next { u with
        link := { u.link with
          turn := some
            { t with probe := false, tries := 0, extras := t.extras + 1, phase := .due },
          round := s.link.round } }) ∧
    (¬ more → ∃ u, exec c s = .next u ∧ u.link.turn = none))

/-- R35, R36, R118, R119, R121: a TALLY of an IDLE line is discarded; one of a PRIMED line sets the
baselines, makes the line RUNNING, and credits nothing; at its order point the cut is ordered, or
HELD when its lane's packer has no place. -/
def Obligations.TallyTakesTheBaselines : Prop :=
  ∀ (s : State) (d : StationIx) (i : LineIx) (a q : Byte) (payload : List Byte),
    s.expects d (.line i) a q payload → tallyLengthOk payload.length = true →
    let l := s.works.line i
    let based := { l with
      baselines := countsAt payload 1, baselinesValid := true, state := .running }
    ((s.works.line i).state = .idle →
      exec (.tally a q payload) s = .next (s.afterReply d q none s.works)) ∧
    (∀ c, l.state = .primed → s.works.currentCoil? i = some c → l.cut = .noCut →
      let orderPoint := c.start + (l.spec.target - min l.spec.cutLead l.spec.target)
      (l.position < orderPoint →
        exec (.tally a q payload) s = .next (s.afterReply d q none
          (s.works.modifyLine i fun _ => based))) ∧
      (orderPoint ≤ l.position → ∀ p, s.works.lanes[i] = p →
        (∀ x, p = some x → s.works.placesInUse x < 6) →
        exec (.tally a q payload) s = .next (s.afterReply d q none
          (s.works.modifyLine i fun _ => { based with
            cut := .ordered, reserved := p, cutPoint := c.start + l.spec.target,
            halted := false }))) ∧
      (orderPoint ≤ l.position → l.halted = false → ∀ p, s.works.lanes[i] = some p →
        6 ≤ s.works.placesInUse p →
        let halts := decide (c.start + l.spec.target + l.spec.allowance ≤ l.position)
        ∃ w c', exec (.tally a q payload) s = .next (s.afterReply d q none w) ∧
          w.line i = { based with cut := .held, reserved := some p, halted := halts } ∧
          w.held = s.works.held.set p (s.works.held[p] ++ [i]) ∧
          w.currentCoil? i = some c' ∧ (halts = true → Reason.overlength ∈ c'.reasons) ∧
          (halts = false → c' = c) ∧ (∀ j, j ≠ i → w.line j = s.works.line j) ∧
          w.lots = s.works.lots ∧ w.waitList = s.works.waitList ∧ w.lanes = s.works.lanes ∧
          w.queues = s.works.queues ∧ w.notices = s.works.notices))

/-- R37 to R45, R118 to R121: a plausible TALLY credits the whole millimetres of the measure length
and the old remainder to the run position and to the lot's totals, with COUNT_SATURATED exactly when
it would carry one of them past its limit (again at each later such credit, entry 35), and moves the
baselines; the slip detector takes the tally's finding (the run starts and the peak are kept as
entry 33 says); and the planned-cut test is made at the new position. R41, R73, R92, R100 to R103,
R105: the zone requests of the monitor, of the slip detector and of a pending joint close that the
position has reached (`Line.tallyAsks`) reach the zone list of the current coil in that order
(`Coil.askedAll`), with ZONE_OPENED for each zone opened, and the coil is graded anew; no other coil
changes. -/
def Obligations.TallyCreditsTheLength : Prop :=
  ∀ (s : State) (d : StationIx) (i : LineIx) (a q : Byte) (payload : List Byte) (n : Nat),
    s.expects d (.line i) a q payload → tallyLengthOk payload.length = true →
    let l := s.works.line i
    let counts := countsAt payload 1
    let delta : Nat :=
      match l.measure with
      | .wheelA => (counts.wheelA - l.baselines.wheelA).toNat * l.wheelA
      | .wheelB => (counts.wheelB - l.baselines.wheelB).toNat * l.wheelB
      | .rows => (counts.rows - l.baselines.rows).toNat * (l.spec.rowPitch * 100)
    let mm := (delta + l.remainder) / 1000
    let pos := min 281474976710655 (l.position + mm)
    let asks := l.tallyAsks s.settings.slipPermille counts (entriesOf (payload.drop 9))
      ((payload.getD 0 0).getLsbD 2) pos
    let slips : Bool := match l.checkLength? (counts.minus l.baselines) with
      | none => false
      | some check => decide (100000 ≤ max delta check ∧
        s.settings.slipPermille * max delta check < (max delta check - min delta check) * 1000)
    l.state = .running ∨ l.state = .releasing ∨ l.state = .starved → l.lot = some n →
    (payload.getD 0 0).getLsbD 1 = false →
    (counts.spindle - l.baselines.spindle).toNat < 32768 →
    (counts.wheelA - l.baselines.wheelA).toNat < 32768 →
    (counts.wheelB - l.baselines.wheelB).toNat < 32768 →
    (counts.rows - l.baselines.rows).toNat < 32768 →
    ∃ w, exec (.tally a q payload) s = .next (s.afterReply d q none w) ∧
      (w.line i).position = pos ∧
      (w.line i).remainder = (delta + l.remainder) % 1000 ∧
      (w.line i).baselines = counts ∧ (w.line i).baselinesValid = true ∧
      (w.line i).state = l.state ∧ (w.line i).lot = l.lot ∧ (w.line i).coil = l.coil ∧
      (w.line i).spec = l.spec ∧ (w.line i).revision = l.revision ∧
      (∀ j, j ≠ i → w.line j = s.works.line j) ∧
      w.lots = mapTable (Option.map fun t =>
        if t.number = n then
          { t with
            produced := min 281474976710655 (t.produced + mm),
            unassigned := if l.state = .starved then min 281474976710655 (t.unassigned + mm)
              else t.unassigned }
        else t) s.works.lots ∧
      w.waitList = s.works.waitList ∧ w.lanes = s.works.lanes ∧ w.queues = s.works.queues ∧
      (l.check = .off → (w.line i).slip = l.slip ∧ (w.line i).slipTallies = l.slipTallies) ∧
      (∀ check : Nat,
        (l.check = .wheelA ∧
            check = (counts.wheelA - l.baselines.wheelA).toNat * l.wheelA) ∨
          (l.check = .wheelB ∧
            check = (counts.wheelB - l.baselines.wheelB).toNat * l.wheelB) →
        let m := max delta check
        let gap := (m - min delta check) * 1000
        let dis := gap / m
        (m < 100000 → (w.line i).slip = l.slip ∧ (w.line i).slipTallies = l.slipTallies) ∧
        (100000 ≤ m → gap ≤ s.settings.slipPermille * m →
          (w.line i).slipTallies = l.slipTallies ∧
          (w.line i).slip =
            (if l.slip.slipping = false then { l.slip with slipRun := 0 }
            else if l.slip.cleanRun = 0 then
              { l.slip with cleanRun := 1, cleanStart := l.position }
            else if l.slip.cleanRun = 1 then { l.slip with cleanRun := 2 }
            else { l.slip with slipping := false, slipRun := 0, cleanRun := 0 })) ∧
        (100000 ≤ m → s.settings.slipPermille * m < gap →
          (w.line i).slipTallies = min 65535 (l.slipTallies + 1) ∧
          (w.line i).slip =
            (if l.slip.slipping = true then { l.slip with cleanRun := 0 }
            else if l.slip.slipRun = 0 then
              { l.slip with slipRun := 1, slipStart := l.position, slipPeak := dis }
            else if l.slip.slipRun = 1 then
              { l.slip with slipRun := 2, slipPeak := max l.slip.slipPeak dis }
            else { l.slip with slipping := true, slipRun := 0, cleanRun := 0 }) ∧
          (l.slip.slipping = false → 2 ≤ l.slip.slipRun →
            (w.notices.line[i]).getLsbD 6 = true))) ∧
      (w.line i).jointClose = l.jointClose.filter (fun p => decide (pos < p)) ∧
      (∀ j : LineIx, w.notices.line[j] = s.works.notices.line[j] |||
        (if (s.works.currentCoil? i).any fun c =>
            decide (c.line = j) && (c.askedAll asks).2 then 0x10 else 0) |||
        (if j = i ∧ l.slip.slipping = false ∧ (w.line i).slip.slipping = true then 0x40
          else 0)) ∧
      w.notices.global = s.works.notices.global |||
        (if 281474976710655 < l.position + mm ∨ (s.works.lot? n).any (fun t =>
            decide (281474976710655 < t.produced + mm ∨
              (l.state = .starved ∧ 281474976710655 < t.unassigned + mm))) then 0x8 else 0) ∧
      w.notices.packer = s.works.notices.packer ∧
      w.notices.station = s.works.notices.station ∧
      (s.works.currentCoil? i = none → w.coils = s.works.coils) ∧
      (∀ c, s.works.currentCoil? i = some c → ∃ c', w.currentCoil? i = some c' ∧
        c' = { (c.askedAll asks).1 with
          reasons := c'.reasons, grade := c'.grade, slipTallies := c'.slipTallies,
          faultRows := c'.faultRows, missedKnots := c'.missedKnots,
          excessKnots := c'.excessKnots } ∧
        (∀ r, r ∈ c'.reasons ↔ r ∈ (c.askedAll asks).1.reasons ∨
          (r = .overlength ∧ l.state = .running ∧ (w.line i).cut = .held ∧ l.halted = false ∧
            c.start + l.spec.target + l.spec.allowance ≤ pos)) ∧
        (c.final = false → c'.grade = c'.gradeAt (w.coilLength c')) ∧
        c'.slipTallies = (if slips then min 65535 (c.slipTallies + 1) else c.slipTallies) ∧
        (l.kind ≠ .knot → c'.faultRows = c.faultRows ∧ c'.missedKnots = c.missedKnots ∧
          c'.excessKnots = c.excessKnots) ∧
        (∀ k, k ≠ c.key → w.coil? k = s.works.coil? k) ∧
        let orderPoint := c.start + (l.spec.target - min l.spec.cutLead l.spec.target)
        let same := (w.line i).cut = l.cut ∧ (w.line i).reserved = l.reserved ∧
          (w.line i).cutPoint = l.cutPoint ∧ w.held = s.works.held
        (l.state = .running ∧ l.cut = .noCut ∧ orderPoint ≤ pos →
          (∀ p, s.works.lanes[i] = p → (∀ x, p = some x → s.works.placesInUse x < 6) →
            (w.line i).cut = .ordered ∧ (w.line i).reserved = p ∧
            (w.line i).cutPoint = c.start + l.spec.target ∧ (w.line i).halted = false ∧
            w.held = s.works.held) ∧
          (∀ p, s.works.lanes[i] = some p → 6 ≤ s.works.placesInUse p →
            (w.line i).cut = .held ∧ (w.line i).reserved = some p ∧
            w.held = s.works.held.set p (s.works.held[p] ++ [i]))) ∧
        (l.state ≠ .running ∨ l.cut ≠ .noCut ∨ pos < orderPoint → same) ∧
        (l.state = .running → (w.line i).cut = .held → l.halted = false →
          ((w.line i).halted = true ↔ c.start + l.spec.target + l.spec.allowance ≤ pos) ∧
          ((w.line i).halted = true → Reason.overlength ∈ c'.reasons)))

/-- R37, R50, R51: an implausible TALLY credits nothing; it resyncs the line, marks its coil
LENGTH_UNCERTAIN and closes the coil's open TWIST, KNOT and SLIP zones at the run position, as
requests of the line (`Coil.asked`, R102); the coil is graded anew, and no other coil changes. That
the slip detector keeps its run starts and peak is the model's choice (entry 33). -/
def Obligations.ImplausibleTallyResyncs : Prop :=
  ∀ (s : State) (d : StationIx) (i : LineIx) (a q : Byte) (payload : List Byte),
    s.expects d (.line i) a q payload → tallyLengthOk payload.length = true →
    let l := s.works.line i
    let counts := countsAt payload 1
    l.state = .running ∨ l.state = .releasing ∨ l.state = .starved →
    (payload.getD 0 0).getLsbD 1 = true ∨
      32768 ≤ (counts.spindle - l.baselines.spindle).toNat ∨
      32768 ≤ (counts.wheelA - l.baselines.wheelA).toNat ∨
      32768 ≤ (counts.wheelB - l.baselines.wheelB).toNat ∨
      32768 ≤ (counts.rows - l.baselines.rows).toNat →
    ∃ w, exec (.tally a q payload) s = .next (s.afterReply d q none w) ∧
      w.line i = { l with
        baselines := counts, baselinesValid := true, resyncs := min 65535 (l.resyncs + 1),
        slip := { l.slip with slipping := false, slipRun := 0, cleanRun := 0 },
        twist := if l.kind = .twist then .reset else l.twist,
        knot := if l.kind = .knot then .reset else l.knot } ∧
      (∀ j, j ≠ i → w.line j = s.works.line j) ∧ w.lots = s.works.lots ∧
      (s.works.currentCoil? i = none → w.coils = s.works.coils) ∧
      (∀ c, s.works.currentCoil? i = some c → ∃ c', w.currentCoil? i = some c' ∧
        c' = { (c.askedAll [.closeAt .twist l.position, .closeAt .knot l.position,
          .closeAt .slip l.position]).1 with reasons := c'.reasons, grade := c'.grade } ∧
        (∀ z ∈ c'.zones, z.cause = .twist ∨ z.cause = .knot ∨ z.cause = .slip →
          z.stop ≠ none) ∧
        (∀ r, r ∈ c'.reasons ↔ r ∈ c.reasons ∨ r = .lengthUncertain) ∧
        (c.final = false →
          Reason.lengthUncertain ∉ c.reasons ∨ c.grade = c.gradeAt (s.works.coilLength c) →
          c'.grade = c'.gradeAt (w.coilLength c')) ∧
        ∀ k, k ≠ c.key → w.coil? k = s.works.coil? k) ∧
      w.notices = (s.works.raiseLine i 0x20).notices ∧ w.waitList = s.works.waitList ∧
      w.lanes = s.works.lanes ∧ w.queues = s.works.queues ∧ w.held = s.works.held

/-- R46 to R49, R100, R104, R106: a MARK of an IDLE line is discarded. Of another, the resolved
position and the records that a credit, a resync or the first baselines leave (`State.handsOn`) go
to the Grade Unit, which leaves the counts, the position and the monitors as they then are. A JOINT
counts a joint and opens its zone a margin before it, or joins the one that is open, and a zone
whose margin is already passed closes (R105); a FLAW_START opens an OPERATOR zone at it and a
FLAW_END closes that zone; on a full list the zone is counted unlisted (R101). The coil is graded
anew (R112). On a line without a coil an opening is an unrecorded defect, and a close is dropped. -/
def Obligations.BackdatedMarkReachesItsCoil : Prop :=
  ∀ (s : State) (d : StationIx) (i : LineIx) (a q : Byte) (payload : List Byte),
    s.expects d (.line i) a q payload → payload.length = 10 →
    let kind := payload.getD 1 0
    let dropped := fun (w : Works) =>
      exec (.mark a q payload) s = .next (s.afterReply d q none w)
    ((s.works.line i).state = .idle → kind = 1 ∨ kind = 2 ∨ kind = 3 → dropped s.works) ∧
    ∀ (u : Works) (pos : Nat),
      s.handsOn d i a q ((payload.getD 0 0).getLsbD 1) (countsAt payload 2) u pos →
      let l := u.line i
      (u.currentCoil? i = none →
        (kind = 1 ∨ kind = 2 → dropped (u.modifyLine i fun l =>
          { l with unrecorded := min 65535 (l.unrecorded + 1) })) ∧
        (kind = 3 → dropped u)) ∧
      ∀ c : Coil, u.currentCoil? i = some c →
        let marked := fun (l' : Line) (notices : Notices) (b : Coil) (joins : List Reason)
            (graded : Bool) =>
          ∃ w c', exec (.mark a q payload) s = .next (s.afterReply d q none w) ∧
            w.line i = l' ∧ (∀ j, j ≠ i → w.line j = u.line j) ∧ w.lots = u.lots ∧
            w.currentCoil? i = some c' ∧ (∀ k, k ≠ c.key → w.coil? k = u.coil? k) ∧
            c' = { b with reasons := c'.reasons, grade := c'.grade } ∧
            (∀ r, r ∈ c'.reasons ↔ r ∈ c.reasons ∨ r ∈ joins) ∧
            (graded = true → c.final = false → c'.grade = c'.gradeAt (u.coilLength c)) ∧
            (graded = false → c'.grade = c.grade) ∧ w.notices = notices ∧
            w.queues = u.queues ∧ w.held = u.held ∧ w.waitList = u.waitList ∧
            w.lanes = u.lanes
        let start := fun (cause : Cause) (at0 : Nat) =>
          ((c.zones.filter fun z => decide (z.cause = cause)).map fun z =>
            z.stop.getD 0).foldl max at0
        let opens := fun (cause : Cause) (at0 : Nat) (stop : Option Nat) (extreme : Int) =>
          (c.zones.takeWhile fun z => decide (z.start ≤ start cause at0)) ++
            { cause := cause, start := start cause at0, stop := stop, extreme := extreme } ::
              c.zones.dropWhile fun z => decide (z.start ≤ start cause at0)
        let listed := fun cause : Cause => ∃ z ∈ c.zones, z.cause = cause ∧ z.stop = none
        let unlisted := fun cause : Cause => cause ∈ c.unlistedOpen
        let raised := (u.raiseLine c.line 0x10).notices
        let joint := pos - c.start - l.spec.jointMargin
        let closeAt := pos + l.spec.jointMargin
        let pending := max (l.jointClose.getD 0) closeAt
        let joints := min 255 (c.joints + 1)
        let tooMany := if c.limits.maxJoints < joints then [Reason.jointsOver] else []
        (kind = 1 → ¬ listed .joint → ¬ unlisted .joint → c.zones.length < 8 →
          (l.position < closeAt →
            marked { l with jointClose := some closeAt } raised
              { c with joints := joints, zones := opens .joint joint none 1 }
              (.zones :: tooMany) true) ∧
          (closeAt ≤ l.position →
            marked { l with jointClose := none } raised
              { c with
                joints := joints,
                zones := opens .joint joint
                  (some (max (start .joint joint) (closeAt - c.start))) 1 }
              (.zones :: tooMany) true)) ∧
        (kind = 1 → ¬ listed .joint → ¬ unlisted .joint → 8 ≤ c.zones.length →
          (l.position < closeAt →
            marked { l with jointClose := some closeAt } raised
              { c with
                joints := joints, unlisted := min 255 (c.unlisted + 1),
                unlistedOpen := c.unlistedOpen ++ [.joint] } (.zoneOverflow :: tooMany) true) ∧
          (closeAt ≤ l.position →
            marked { l with jointClose := none } raised
              { c with joints := joints, unlisted := min 255 (c.unlisted + 1) }
              (.zoneOverflow :: tooMany) true)) ∧
        (kind = 1 → listed .joint ∨ unlisted .joint →
          (l.position < pending →
            marked { l with jointClose := some pending } u.notices
              { c with
                joints := joints,
                zones := c.zones.map fun z =>
                  if z.cause = .joint ∧ z.stop = none then
                    { z with extreme := z.extreme + 1 }
                  else z } tooMany true) ∧
          (pending ≤ l.position →
            marked { l with jointClose := none } u.notices
              { c with
                joints := joints,
                zones := c.zones.map fun z =>
                  if z.cause = .joint ∧ z.stop = none then
                    { z with
                      extreme := z.extreme + 1, stop := some (max z.start (pending - c.start)) }
                  else z,
                unlistedOpen := if listed .joint then c.unlistedOpen
                  else c.unlistedOpen.filter fun x => decide (x ≠ .joint) } tooMany true)) ∧
        (kind = 2 → ¬ listed .operator → ¬ unlisted .operator → c.zones.length < 8 →
          marked l raised { c with zones := opens .operator (pos - c.start) none 0 } [.zones]
            true) ∧
        (kind = 2 → ¬ listed .operator → ¬ unlisted .operator → 8 ≤ c.zones.length →
          marked l raised
            { c with
              unlisted := min 255 (c.unlisted + 1),
              unlistedOpen := c.unlistedOpen ++ [.operator] } [.zoneOverflow] true) ∧
        (kind = 2 → listed .operator ∨ unlisted .operator → dropped u) ∧
        (kind = 3 → listed .operator →
          marked l u.notices
            { c with
              zones := c.zones.map fun z =>
                if z.cause = .operator ∧ z.stop = none then
                  { z with stop := some (max z.start (pos - c.start)) }
                else z } [] true) ∧
        (kind = 3 → ¬ listed .operator →
          marked l u.notices
            { c with
              unlistedOpen := c.unlistedOpen.filter fun x => decide (x ≠ .operator) } [] false)

/-- R108, R109, R118, R119, R122 to R128: a CUT_DONE of a RUNNING line, resolved to a position other
than the coil's start, with the records as its credit or resync left them (`State.handsOn`), ends
the coil there and opens the lot's next coil at the same position, with the zones whose cause goes
on; with no entry or no sequence left the line starves. The ended coil (`Coil.endsAs`) has its open
zones closed at the end and the reasons of the end, joins the queue of the reserved packer, or of
the line's lane while a place is free, or is sealed loose (`Works.packerFor`), and COIL_CLOSED is
raised; with no cut ordered after that credit or resync (the model's choice, entry 40) it is an
unplanned cut, and a HELD wait is withdrawn. A pending amendment is applied before the next coil,
and the planned-cut test is made of it. -/
def Obligations.CutMakesABoundary : Prop :=
  ∀ (s : State) (d : StationIx) (i : LineIx) (a q : Byte) (payload : List Byte) (c : Coil)
    (lot : Lot) (u : Works) (pos : Nat),
    s.expects d (.line i) a q payload → payload.length = 9 →
    s.handsOn d i a q ((payload.getD 0 0).getLsbD 1) (countsAt payload 1) u pos →
    State.keysLawful { s with works := u } →
    let l := u.line i
    l.state = .running → u.currentCoil? i = some c → l.lot = some c.key.lot →
    u.lot? c.key.lot = some lot → pos ≠ c.start →
    let sp := if l.amendPending then lot.spec else l.spec
    let revision := if l.amendPending then lot.revision else l.revision
    let continues := fun q : Cause => match q with
      | .twist => decide (l.twist.band = .out) || decide (l.twist.band = .recovering)
      | .knot => l.knot.faulted
      | .slip => l.slip.slipping
      | .joint => l.jointClose.isSome
      | .operator => false
    let listed := (c.zones.filter fun z => z.stop.isNone && continues z.cause).map fun z => z.cause
    let unlisted := [Cause.twist, .knot, .slip, .joint].filter fun q =>
      continues q && !listed.contains q
    let carried := (listed ++ unlisted).map fun q => ({
      cause := q, start := 0, stop := none,
      extreme := match q with
        | .twist => l.twist.extreme
        | .knot => l.knot.extreme
        | .slip => ((c.openZone? .slip).map fun z => z.extreme).getD 0
        | .joint => ((c.openZone? .joint).map fun z => z.extreme).getD 1
        | .operator => 0 } : Zone)
    let withdrawn := u.heldWithout i
    let orderPoint := pos + (sp.target - min sp.cutLead sp.target)
    let ended := fun (w : Works) =>
      ∃ b, w.coil? c.key = some b ∧
        c.endsAs b pos (if l.cut = .ordered then [] else [.unplannedCut]) (u.packerFor i) ∧
        w.queues = u.queuesWith c.key (u.packerFor i) ∧
        w.notices.line = (u.raiseLine i 0x100).notices.line ∧
        w.notices.packer = u.notices.packer ∧ w.notices.station = u.notices.station ∧
        (w.line i).spec = sp ∧ (w.line i).revision = revision ∧
        (w.line i).amendPending = false ∧ (w.line i).position = l.position ∧
        (w.line i).lot = l.lot ∧ (∀ j, j ≠ i → w.line j = u.line j) ∧
        w.lanes = u.lanes
    (∀ e, lot.nextSequence < 10000 → lowestFree u.coils = some e →
      ∃ w n, exec (.cutDone a q payload) s = .next (s.afterReply d q none w) ∧ ended w ∧
        (w.line i).coil = some ⟨c.key.lot, lot.nextSequence⟩ ∧ (w.line i).state = .running ∧
        (w.line i).jointClose = l.jointClose ∧
        w.coil? ⟨c.key.lot, lot.nextSequence⟩ = some n ∧ n.start = pos ∧ n.stop = none ∧
        n.state = .opened ∧ n.line = i ∧ n.joints = 0 ∧ n.revision = revision ∧
        n.limits =
          { maxJoints := sp.maxJoints, minSound := sp.minSound, rejectShare := sp.rejectShare,
            densityNominal := sp.densityNominal, densityTolerance := sp.densityTolerance } ∧
        (c.zonesLawful → n.zones = carried) ∧
        w.lots = mapTable (Option.map fun t =>
          if t.number = c.key.lot then
            { t with coilsMade := t.coilsMade + 1, nextSequence := t.nextSequence + 1 }
          else t) u.lots ∧
        w.waitList = u.waitList ∧ ((w.line i).cut = .noCut ↔ l.position < orderPoint) ∧
        ((w.line i).cut = .ordered → (w.line i).reserved = u.lanes[i] ∧
          (w.line i).cutPoint = pos + sp.target) ∧
        ((w.line i).cut ≠ .held → w.held = withdrawn) ∧
        ((w.line i).cut = .held → ∃ p, u.lanes[i] = some p ∧
          (w.line i).reserved = some p ∧ w.held = withdrawn.set p (withdrawn[p] ++ [i]))) ∧
    (∀ why, (why = StarveReason.seqExhausted ∧ 10000 ≤ lot.nextSequence) ∨
        (why = .noEntry ∧ lot.nextSequence < 10000 ∧ lowestFree u.coils = none) →
      ∃ w, exec (.cutDone a q payload) s = .next (s.afterReply d q none w) ∧ ended w ∧
        (w.line i).state = .starved ∧ (w.line i).starve = some why ∧ (w.line i).coil = none ∧
        (w.line i).cut = .noCut ∧ (w.line i).reserved = none ∧ (w.line i).jointClose = none ∧
        (w.line i).order = .halt ∧ w.held = withdrawn ∧
        w.lots = mapTable (Option.map fun t =>
          if t.number = c.key.lot then
            { t with
              coilsMade := t.coilsMade + 1,
              unassigned := min 281474976710655 (t.unassigned + (l.position - pos)) }
          else t) u.lots ∧
        w.waitList = if why = .noEntry then u.waitList ++ [i] else u.waitList)

/-- R7, R46, R108, R113, R122, R124, R125, R129: a CUT_DONE of a RELEASING line ends its coil at the
resolved position (`Coil.endsAs`; no UNPLANNED_CUT joins), places it, raises COIL_CLOSED, opens no
other, and makes the line IDLE; the rope made after the cut is unassigned length,
and a CLOSING lot whose last line it was becomes CLOSED. A cut resolved to the coil's start, as on a
PRIMED line, raises CUT_IGNORED and does nothing else. On an IDLE or STARVED line it is ignored as a
protocol error of the station, a credit that it carried before standing. -/
def Obligations.ReleaseCutFreesTheLine : Prop :=
  ∀ (s : State) (d : StationIx) (i : LineIx) (a q : Byte) (payload : List Byte),
    s.expects d (.line i) a q payload → payload.length = 9 →
    let resolved := s.handsOn d i a q ((payload.getD 0 0).getLsbD 1) (countsAt payload 1)
    let protocolError := fun u : Works =>
      ∃ t, exec (.cutDone a q payload) s = .next t ∧
        t.works = u.raiseStation d 0x8 ∧
        t.link.stations = s.link.stations.set d (s.link.stations[d].map fun st =>
          { st.taken q with protocolErrors := min 65535 (st.protocolErrors + 1) }) ∧
        t.link.turn = none ∧ t = { s with works := t.works, link := t.link }
    (∀ (u : Works) (pos : Nat) (c : Coil) (lot : Lot), resolved u pos →
      let l := u.line i
      l.state = .releasing → u.currentCoil? i = some c →
      l.lot = some c.key.lot → u.lot? c.key.lot = some lot → pos ≠ c.start →
      ∃ w b t, exec (.cutDone a q payload) s = .next (s.afterReply d q none w) ∧
        w.coil? c.key = some b ∧ (∀ k, k ≠ c.key → w.coil? k = u.coil? k) ∧
        c.endsAs b pos [] (u.packerFor i) ∧
        w.queues = u.queuesWith c.key (u.packerFor i) ∧
        w.notices.line = (u.raiseLine i 0x100).notices.line ∧
        w.notices.packer = u.notices.packer ∧ w.notices.station = u.notices.station ∧
        w.line i = { l with
          state := .idle, suspended := false, lot := none, revision := 0, amendPending := false,
          coil := none, cut := .noCut, reserved := none, cutPoint := 0, halted := false,
          starve := none, jointClose := none } ∧
        (∀ j, j ≠ i → w.line j = u.line j) ∧ w.lot? c.key.lot = some t ∧
        t.state = (if lot.state = .closing ∧ u.runningSet c.key.lot = [i] then .closed
          else lot.state) ∧
        t.coilsMade = lot.coilsMade + 1 ∧ t.nextSequence = lot.nextSequence ∧
        t.unassigned = min 281474976710655 (lot.unassigned + (l.position - pos)) ∧
        w.waitList = u.waitList ∧ w.lanes = u.lanes ∧ w.held = u.held) ∧
    (∀ (u : Works) (pos : Nat) (c : Coil), resolved u pos → (u.line i).state ≠ .starved →
      u.currentCoil? i = some c → pos = c.start →
      exec (.cutDone a q payload) s = .next (s.afterReply d q none (u.raiseLine i 0x80))) ∧
    ((s.works.line i).state = .idle → protocolError s.works) ∧
    (∀ (u : Works) (pos : Nat), resolved u pos → (s.works.line i).state = .starved →
      protocolError u)

/-- R143: a TAKEN of the FULL head makes it TAKEN and is answered with it; any other TAKEN is
refused with its reason, changes no coil or queue, and raises REFUSED_TAKE. A TAKEN coil can still
be marked and sealed by the host, and cannot be retired. -/
def Obligations.TakenTakesTheHead : Prop :=
  (∀ (s : State) (d : StationIx) (p : PackerIx) (a q : Byte) (payload : List Byte),
    s.expects d (.packer p) a q payload → payload.length = 5 →
    let k := keyAt payload 1
    let refused := fun r : RefuseReason =>
      exec (.taken a q payload) s =
        .next (s.afterReply d q (some (.refuse r)) (s.works.raisePacker p 0x4))
    (∀ c, s.works.coil? k = some c → s.works.queues[p].head? = some k → c.state = .full →
      exec (.taken a q payload) s = .next (s.afterReply d q
        (some (.coil { s.works.coilAnswer c with state := .taken }))
        (s.works.modifyCoil k fun c => { c with state := .taken }))) ∧
    (∀ c, s.works.coil? k = some c → s.works.queues[p].head? = some k → c.state = .taken →
      refused .wrongState) ∧
    (∀ c, s.works.coil? k = some c → c.state = .sealed → refused .wrongState) ∧
    (s.works.coil? k = none → refused .notHead) ∧
    (∀ c, s.works.coil? k = some c → s.works.queues[p].head? ≠ some k ∨ c.state = .opened →
      c.state ≠ .sealed → refused .notHead)) ∧
  (∀ (s : State) (k : CoilKey) (c : Coil) (p : PackerIx), s.takesRecordCommands →
    s.works.coil? k = some c → c.state = .taken → c.packer = some p →
    (∀ args : List Byte, args.length = 12 → keyAt args 0 = k →
      bytesAt args 4 4 ≤ bytesAt args 8 4 → (∀ z ∈ c.zones, z.cause ≠ .operator) →
      ∃ t, exec (.coilMark args) s = .next t ∧ t.port.result.status = .ok) ∧
    (∀ args : List Byte, args.length = 8 → keyAt args 0 = k →
      ∃ t b, exec (.coilSeal args) s = .next t ∧ t.port.result.status = .ok ∧
        t.works.coil? k = some b ∧ b.state = .sealed) ∧
    (∀ args : List Byte, args.length = 4 → keyAt args 0 = k →
      ∃ t, exec (.coilRetire args) s = .next t ∧ t.port.result.status = .wrongState ∧
        t.works = s.works))

/-- R144, with the weight applied as R145 and the freed place granted as R141 give: a SEALED of the
TAKEN head takes it out of the queue, seals it with its weight, DENSITY joining when it is out of
tolerance, makes its grade final, raises COIL_SEALED, and grants the place that frees to the head of
the held list. Any other SEALED is refused with its reason, changes nothing, and raises
REFUSED_TAKE. -/
def Obligations.SealedSealsTheHead : Prop :=
  ∀ (s : State) (d : StationIx) (p : PackerIx) (a q : Byte) (payload : List Byte),
    s.expects d (.packer p) a q payload → payload.length = 9 →
    let k := keyAt payload 1
    let weight := bytesAt payload 5 4
    let refused := fun r : RefuseReason =>
      exec (.sealed a q payload) s =
        .next (s.afterReply d q (some (.refuse r)) (s.works.raisePacker p 0x4))
    (∀ c, s.works.coil? k = some c → s.works.queues[p].head? = some k → c.state = .taken →
      let len := s.works.coilLength c
      ∃ w c', exec (.sealed a q payload) s =
          .next (s.afterReply d q (some (.coil (w.coilAnswer c'))) w) ∧
        w.coil? k = some c' ∧ (∀ k', k' ≠ k → w.coil? k' = s.works.coil? k') ∧
        c'.state = .sealed ∧ c'.final = true ∧ c'.packer = c.packer ∧ c'.zones = c.zones ∧
        (c.final = false → c'.grade = c'.gradeAt len) ∧
        (0 < weight → c'.weight = some weight ∧
          c'.density = some (min 4294967295 ((weight * 1000000 + len / 2) / len))) ∧
        (weight = 0 → c'.weight = c.weight ∧ c'.density = c.density ∧
          Reason.unweighed ∈ c'.reasons) ∧
        (0 < weight →
          let d := min 4294967295 ((weight * 1000000 + len / 2) / len)
          (Reason.density ∈ c'.reasons ↔ Reason.density ∈ c.reasons ∨
            (0 < c.limits.densityNominal ∧
              c.limits.densityTolerance * c.limits.densityNominal <
                (max d c.limits.densityNominal - min d c.limits.densityNominal) * 1000))) ∧
        (weight = 0 → (Reason.density ∈ c'.reasons ↔ Reason.density ∈ c.reasons)) ∧
        w.queues = s.works.queues.set p (s.works.queues[p].filter fun k' => decide (k' ≠ k)) ∧
        w.notices = (s.works.raisePacker p 0x2).notices ∧
        (s.works.held[p] = [] → w.lines = s.works.lines ∧ w.held = s.works.held) ∧
        (∀ i rest, s.works.held[p] = i :: rest →
          w.held = s.works.held.set p rest ∧ (w.line i).cut = .ordered ∧
          (w.line i).reserved = some p ∧ (w.line i).halted = false ∧
          (∀ b, s.works.currentCoil? i = some b →
            (w.line i).cutPoint = b.start + (s.works.line i).spec.target) ∧
          (∀ j, j ≠ i → w.line j = s.works.line j)) ∧
        w.lots = s.works.lots ∧ w.waitList = s.works.waitList ∧ w.lanes = s.works.lanes) ∧
    (∀ c, s.works.coil? k = some c → s.works.queues[p].head? = some k → c.state = .full →
      refused .wrongState) ∧
    (∀ c, s.works.coil? k = some c → c.state = .sealed → refused .wrongState) ∧
    (s.works.coil? k = none → refused .notHead) ∧
    (∀ c, s.works.coil? k = some c → s.works.queues[p].head? ≠ some k ∨ c.state = .opened →
      c.state ≠ .sealed → refused .notHead)

/-- R160: a frame of a kind that no station may send, or whose payload does not fit its kind, is
discarded as a protocol error; the records keep everything but the PROTOCOL notice. A frame that
does not belong to the station's role is a protocol error too, and is answered REFUSE WRONG_ROLE. -/
def Obligations.InvalidKindIsAProtocolError : Prop :=
  ∀ (s : State) (d : StationIx) (role : Role) (a q : Byte) (payload : List Byte),
    s.expects d role a q payload →
    let discarded := fun (c : Instr) (answer : Option Answer) =>
      ∃ t, exec c s = .next t ∧ t.works = s.works.raiseStation d 0x8 ∧
        t.link.stations = s.link.stations.set d (s.link.stations[d].map fun st =>
          { st.taken q with
            protocolErrors := min 65535 (st.protocolErrors + 1), pending := answer }) ∧
        t.link.turn = none ∧ t = { s with works := t.works, link := t.link }
    (∀ kind, stationKinds.contains kind = false →
      discarded (.invalidFrameKind kind a q payload) none) ∧
    (∀ (c : Instr) (kind : Byte), c.frame? = some (kind, a, q, payload) →
      stationKinds.contains kind = true →
      (∀ c' : Instr, c'.frame? = some (kind, a, q, payload) → c'.wf = false) →
      discarded c none) ∧
    (∀ p, role = .packer p →
      (tallyLengthOk payload.length = true →
        discarded (.tally a q payload) (some (.refuse .wrongRole))) ∧
      (payload.length = 10 → payload.getD 1 0 = 1 ∨ payload.getD 1 0 = 2 ∨ payload.getD 1 0 = 3 →
        discarded (.mark a q payload) (some (.refuse .wrongRole))) ∧
      (payload.length = 9 → discarded (.cutDone a q payload) (some (.refuse .wrongRole))) ∧
      (payload.length = 2 → payload.getD 1 0 = 1 →
        discarded (.askSpec a q payload) (some (.refuse .wrongRole)))) ∧
    (∀ i, role = .line i →
      (payload.length = 2 → payload.getD 1 0 = 2 →
        discarded (.askNext a q payload) (some (.refuse .wrongRole))) ∧
      (payload.length = 5 → discarded (.taken a q payload) (some (.refuse .wrongRole))) ∧
      (payload.length = 9 → discarded (.sealed a q payload) (some (.refuse .wrongRole))))

/-! ## Frames of whole families -/

/-- R167, R174: an EEPROM byte changes only at the address of a write that is in flight, whatever
the command, and the EEPROM keeps its canonical form (entry 3). -/
def Obligations.EepromChangesOnlyUnderAWrite : Prop :=
  ∀ (c : Instr) (s t : State), Memory.wf s.eeprom = true → exec c s = .next t →
    Memory.wf t.eeprom = true ∧
    ∀ a, (∀ r, s.port.store = some r → r.data ≠ none → a ≠ r.address) →
      Memory.read t.eeprom a = Memory.read s.eeprom a

/-- R152, R160: the rows of the station link change the records and the Link Engine alone. -/
def Obligations.LinkRowsLeaveTheRestOfThePart : Prop :=
  ∀ (c : Instr) (s t : State), c.onLink = true → exec c s = .next t →
    t = { s with works := t.works, link := t.link }

/-! ## The units' rules (3.4, 4.3, 5.6) -/

/-- R65: the verdict on a twist value. R58 to R64: what one tally makes of the window and the value.
R66 to R72: how the verdict moves the band. R57: a plausible TALLY of a TWIST line does this to the
line's monitor; where its request goes TallyCreditsTheLength says. R100: without a coil, an opening
asked for by the monitor or the slip detector is an unrecorded defect of the line. -/
def Obligations.TwistVerdictFollowsTheBand : Prop :=
  (∀ (sp : Spec) (t : Nat),
    let tol := sp.nominalTwist * sp.twistTolerance / 1000
    (verdict sp t = .high ↔ sp.nominalTwist + tol < t) ∧
    (verdict sp t = .low ↔ t < sp.nominalTwist - tol) ∧
    (verdict sp t = .inside ↔ sp.nominalTwist - tol ≤ t ∧ t ≤ sp.nominalTwist + tol) ∧
    (100 ≤ sp.nominalTwist → sp.twistTolerance ≤ 300 →
      70 ≤ sp.nominalTwist - tol ∧ verdict sp 0 = .low) ∧
    (t ≤ 65535 → 65535 < sp.nominalTwist + tol → verdict sp t ≠ .high) ∧
    (100 ≤ sp.nominalTwist → sp.nominalTwist ≤ 65000 → sp.twistTolerance ≤ 300 →
      65535 < sp.nominalTwist + tol → verdict sp 65535 = .inside)) ∧
  (∀ (m : TwistMonitor) (sp : Spec) (dl dq pre pos : Nat),
    let r := m.tally sp dl dq pre pos
    let room := match m.window with
      | g :: h :: rest => if 16 ≤ m.window.length then
          { length := g.length + h.length, quarters := g.quarters + h.quarters } :: rest
        else m.window
      | _ => m.window
    let grown : List Segment :=
      if 0 < dl then room ++ [{ length := dl, quarters := dq }]
      else match m.window.getLast? with
        | some g => m.window.dropLast ++ [{ g with quarters := g.quarters + dq }]
        | none => if 0 < dq then [{ length := 0, quarters := dq }] else []
    let len := windowLength r.1.window
    let t := min 65535 ((windowQuarters r.1.window * 25000000 + len / 2) / len)
    let dev : Int := (t : Int) - sp.nominalTwist
    let inside := verdict sp t = .inside
    let m' := { m with window := r.1.window, lastValue := t }
    let further := if m.extreme.natAbs < dev.natAbs then dev else m.extreme
    let suspect := fun (start : Nat) (extreme : Int) =>
      let n := { m' with suspectStart := start, extreme := extreme }
      if sp.persistence ≤ pos - start then
        ({ n with band := Band.out }, TwistRequest.openAt start extreme)
      else ({ n with band := .suspect }, .nothing)
    let recover := fun start : Nat =>
      let n := { m' with recoveryStart := start }
      if sp.persistence ≤ pos - start then
        ({ n with band := Band.inBand, extreme := 0 }, TwistRequest.closeAt start)
      else ({ n with band := .recovering }, .nothing)
    (∃ dropped, grown = dropped ++ r.1.window ∧
      (∀ g rest, r.1.window = g :: rest →
        rest = [] ∨ windowLength rest < sp.twistSpan * 1000000) ∧
      (dropped ≠ [] → r.1.window ≠ [] ∧ sp.twistSpan * 1000000 ≤ len)) ∧
    (len < sp.twistSpan * 500000 → r = ({ m with window := r.1.window }, .nothing)) ∧
    (sp.twistSpan * 500000 ≤ len →
      ((m.band = .warming ∨ m.band = .inBand) → inside →
        r = ({ m' with band := .inBand }, .nothing)) ∧
      ((m.band = .warming ∨ m.band = .inBand) → ¬ inside → r = suspect pre dev) ∧
      (m.band = .suspect → inside → r = ({ m' with band := .inBand, extreme := 0 }, .nothing)) ∧
      (m.band = .suspect → ¬ inside → r = suspect m.suspectStart further) ∧
      (m.band = .out → inside → r = recover pre) ∧
      (m.band = .recovering → inside → r = recover m.recoveryStart) ∧
      ((m.band = .out ∨ m.band = .recovering) → ¬ inside →
        r = ({ m' with band := .out, extreme := further },
          if m.extreme.natAbs < dev.natAbs then .raise dev else .nothing)))) ∧
  (∀ (s : State) (d : StationIx) (i : LineIx) (a q : Byte) (payload : List Byte),
    s.creditable d i a q payload → (s.works.line i).kind = .twist →
    let l := s.works.line i
    let diff := (countsAt payload 1).minus l.baselines
    ∃ w, exec (.tally a q payload) s = .next (s.afterReply d q none w) ∧
      (w.line i).knot = l.knot ∧
      (w.line i).twist = (l.twist.tally l.spec (l.measureLength diff) diff.spindle.toNat
        l.position (w.line i).position).1 ∧
      let opened := match (l.twist.tally l.spec (l.measureLength diff) diff.spindle.toNat
          l.position (w.line i).position).2 with
        | .openAt _ _ => 1
        | _ => 0
      let slips := if l.slip.slipping = false ∧ (w.line i).slip.slipping = true then 1 else 0
      (s.works.currentCoil? i = none → l.unrecorded ≤ 65535 →
        (w.line i).unrecorded = min 65535 (l.unrecorded + opened + slips)) ∧
      (s.works.currentCoil? i ≠ none → (w.line i).unrecorded = l.unrecorded))

/-- R83: an entry maps to the newest row of the tally that has its low byte. R84, R85: of the
entries of one row the last counts, and the others and those of no row are stale. R86, R88: the kind
and the start of each row (beyond the limit of positions the start is entry 38). R89 to R91: how one
row moves the runs and the knot state. R81, R87: a plausible TALLY of a KNOT line does this row by
row, and counts the rows on the coil; where its requests go TallyCreditsTheLength says. R93, R100:
without a coil each fault row, and each opening that the monitor or the slip detector asks for, is
an unrecorded defect of the line. -/
def Obligations.FaultEntryMapsToTheNewestRow : Prop :=
  (∀ (last : Half) (rows : Nat) (low : Byte), rows ≤ 32767 →
    let lowByte := fun off => (last.toNat + 65536 - rows + off) % 65536 % 256
    (∀ off, mapEntry last rows low = some off ↔
      1 ≤ off ∧ off ≤ rows ∧ lowByte off = low.toNat ∧
        ∀ j, off < j → j ≤ rows → lowByte j ≠ low.toNat) ∧
    (mapEntry last rows low = none ↔ ∀ j, 1 ≤ j → j ≤ rows → lowByte j ≠ low.toNat) ∧
    (256 ≤ rows → mapEntry last rows low ≠ none)) ∧
  (∀ (last : Half) (rows : Nat) (es : List FaultEntry) (sp : Spec) (overflow : Bool) (pre : Nat),
    let maps := fun (e : FaultEntry) off => mapEntry last rows e.lowByte = some off
    let rs := classifyRows sp last rows es overflow pre
    (∀ off e, mappedEntry last rows es off = some e ↔
      ∃ before later, es = before ++ e :: later ∧ maps e off ∧ ∀ e' ∈ later, ¬ maps e' off) ∧
    staleCount last rows es +
      ((List.range rows).filter fun n => (mappedEntry last rows es (n + 1)).isSome).length =
        es.length ∧
    rs.length = rows ∧
    ∀ n r, rs[n]? = some r → r.start = pre + n * sp.rowPitch / 10 ∧
      r.kind = match mappedEntry last rows es (n + 1) with
        | some e => if e.tied = sp.knotsPerRow then .sound else .known e.tied
        | none => if overflow then .unknown else .sound) ∧
  (∀ (m : KnotMonitor) (sp : Spec) (start : Nat),
    let fault := fun (kind : RowKind) (dev : Option Nat) =>
      let n := { m with
        faultStart := if m.faultRun = 0 then start else m.faultStart,
        faultRun := min 65535 (m.faultRun + 1), soundRun := 0 }
      let extreme := if m.faultRun = 0 then dev.getD 0 else max m.extreme (dev.getD 0)
      (m.faulted = false → m.row sp { start := start, kind := kind } =
        if sp.faultRowsToOpen ≤ n.faultRun then
          ({ n with extreme := extreme, faulted := true }, .openAt n.faultStart extreme)
        else ({ n with extreme := extreme }, .nothing)) ∧
      (m.faulted = true → m.row sp { start := start, kind := kind } =
        if m.extreme < dev.getD 0 then
          ({ n with extreme := dev.getD 0 }, .raise (dev.getD 0))
        else (n, .nothing))
    let n := { m with
      soundStart := if m.soundRun = 0 then start else m.soundStart,
      soundRun := min 65535 (m.soundRun + 1), faultRun := 0 }
    (∀ tied, fault (.known tied)
      (some (max tied sp.knotsPerRow - min tied sp.knotsPerRow))) ∧ fault .unknown none ∧
    (m.faulted = false →
      m.row sp { start := start, kind := .sound } = ({ n with extreme := 0 }, .nothing)) ∧
    (m.faulted = true → m.row sp { start := start, kind := .sound } =
      if sp.soundRowsToClose ≤ n.soundRun then
        ({ n with faulted := false, extreme := 0 }, .closeAt n.soundStart)
      else (n, .nothing))) ∧
  (∀ (s : State) (d : StationIx) (i : LineIx) (a q : Byte) (payload : List Byte),
    s.creditable d i a q payload → (s.works.line i).kind = .knot →
    let l := s.works.line i
    let counts := countsAt payload 1
    let rows := (counts.minus l.baselines).rows.toNat
    let es := entriesOf (payload.drop 9)
    let rs := classifyRows l.spec counts.rows rows es ((payload.getD 0 0).getLsbD 2) l.position
    let faults := (rs.filter fun r => decide (r.kind ≠ .sound)).length
    let knots := fun (f : Nat → Nat) => (rs.map fun r => match r.kind with
      | .known tied => f tied
      | .sound | .unknown => 0).sum
    ∃ w, exec (.tally a q payload) s = .next (s.afterReply d q none w) ∧
      (w.line i).twist = l.twist ∧
      (w.line i).knot = rs.foldl (fun m r => (m.row l.spec r).1) l.knot ∧
      (w.line i).staleEntries = min 65535 (l.staleEntries + staleCount counts.rows rows es) ∧
      let opened := (rs.foldl (fun (x : KnotMonitor × Nat) r =>
        ((x.1.row l.spec r).1, x.2 + match (x.1.row l.spec r).2 with
          | .openAt _ _ => 1
          | _ => 0)) (l.knot, 0)).2
      let slips := if l.slip.slipping = false ∧ (w.line i).slip.slipping = true then 1 else 0
      (s.works.currentCoil? i = none → l.unrecorded ≤ 65535 →
        (w.line i).unrecorded = min 65535 (l.unrecorded + faults + opened + slips)) ∧
      (s.works.currentCoil? i ≠ none → (w.line i).unrecorded = l.unrecorded) ∧
      ∀ c, s.works.currentCoil? i = some c → ∃ c', w.currentCoil? i = some c' ∧
        c'.faultRows = min 65535 (c.faultRows + faults) ∧
        c'.missedKnots = min 65535 (c.missedKnots + knots fun tied => l.spec.knotsPerRow - tied) ∧
        c'.excessKnots = min 65535 (c.excessKnots + knots fun tied => tied - l.spec.knotsPerRow))

/-- R111, R112: the grade of a coil by its reasons and its zone share. -/
def Obligations.GradeFollowsReasonsAndShare : Prop :=
  ∀ (c : Coil) (len : Nat),
    let share := if len = 0 then 0
      else min 1000 ((c.zones.map fun z => z.stop.getD len - z.start).sum * 1000 / len)
    let reject := Reason.zoneOverflow ∈ c.reasons ∨ Reason.jointsOver ∈ c.reasons ∨
      Reason.short ∈ c.reasons ∨ Reason.density ∈ c.reasons ∨ c.limits.rejectShare < share
    let second := Reason.zones ∈ c.reasons ∨ Reason.lengthUncertain ∈ c.reasons ∨
      Reason.overlength ∈ c.reasons ∨ Reason.unplannedCut ∈ c.reasons
    (c.gradeAt len = .reject ↔ reject) ∧ (c.gradeAt len = .second ↔ ¬ reject ∧ second) ∧
    (c.gradeAt len = .first ↔ ¬ reject ∧ ¬ second)

/-! ## Encodings (8.1, 9.1) -/

/-- Tables 8.1 and 9.1: a specification whose fields fit their bytes is read back whole from its
39-byte block, and an answer's SPEC content is the block with the revision after the kind. -/
def Obligations.SpecificationBlockRoundTrips : Prop :=
  ∀ sp : Spec, sp.kind = .laid ∨ sp.kind = .net → sp.layDirection < 256 →
    sp.nominalTwist < 65536 → sp.twistTolerance < 65536 → sp.twistSpan < 256 →
    sp.persistence < 65536 → sp.knotsPerRow < 65536 → sp.rowPitch < 65536 →
    sp.faultRowsToOpen < 256 → sp.soundRowsToClose < 256 → sp.target < 4294967296 →
    sp.cutLead < 65536 → sp.allowance < 4294967296 → sp.minSound < 4294967296 →
    sp.maxJoints < 256 → sp.jointMargin < 65536 → sp.rejectShare < 65536 →
    sp.densityNominal < 4294967296 → sp.densityTolerance < 256 →
    sp.bytes.length = 39 ∧ specOf sp.bytes = sp ∧
    ∀ revision, (sp.contentBytes revision).length = 40 ∧
      sp.contentBytes revision =
        sp.bytes.take 1 ++ [BitVec.ofNat 8 revision] ++ sp.bytes.drop 1

/-- Table 8.1: the payload of each station frame is read back as what the station put in it. -/
def Obligations.StationPayloadsRoundTrip : Prop :=
  ∀ (status : Byte) (counts : Counts) (es : List FaultEntry) (k : CoilKey) (weight : Nat),
    es.length ≤ 8 → (∀ e ∈ es, e.tied < 65536) → k.lot < 65536 → k.sequence < 65536 →
    weight < 4294967296 →
    let frame := fun (es : List FaultEntry) (overflow : Bool) =>
      ({ restarted := status.getLsbD 1, counts := counts, entries := es, overflow := overflow } :
        CountFrame)
    contentOf 0x10 [status] = some .idle ∧
    contentOf 0x11 (tallyPayload status counts es) =
      some (.tally (frame es (status.getLsbD 2))) ∧
    (∀ m, contentOf 0x12 (markPayload status m counts) = some (.mark m (frame [] false))) ∧
    contentOf 0x13 (cutDonePayload status counts) = some (.cutDone (frame [] false)) ∧
    contentOf 0x14 [status, 1] = some .askSpec ∧ contentOf 0x14 [status, 2] = some .askNext ∧
    contentOf 0x14 (askCoilPayload status k) = some (.askCoil k) ∧
    contentOf 0x15 (takenPayload status k) = some (.taken k) ∧
    contentOf 0x16 (sealedPayload status k weight) = some (.sealed k weight)

/-! ## Invariants -/

/-- R1, R10: no step gives two entries of a table one key, or gives out a coil sequence twice. -/
def Obligations.KeysStayLawful : Prop :=
  ∀ s t : State, s.keysLawful → step s = .next t → t.keysLawful

/-- Every register that `State.ranged` names stays in the range its table gives (1.2, 1.4, 1.6, 2.1,
3.1, 4.1, 8.2, 9, 10.2). -/
def Obligations.RegistersStayInRange : Prop :=
  ∀ s t : State, s.keysLawful → s.ranged → step s = .next t → t.ranged

/-- R101, R102: every coil's zone list stays lawful. -/
def Obligations.ZoneListsStayLawful : Prop :=
  ∀ s t : State, s.keysLawful → s.zonesLawful → step s = .next t → t.zonesLawful

/-- R138, R139: no step brings a packer above its six places. -/
def Obligations.PackerPlacesStayWithinSix : Prop :=
  ∀ s t : State, s.keysLawful → s.placesLawful → step s = .next t → t.placesLawful

/-- R6 to R8, R14: a CLOSED lot never has a line running it. -/
def Obligations.ClosedLotsStayIdle : Prop :=
  ∀ s t : State, s.keysLawful → s.closedLotsIdle → step s = .next t → t.closedLotsIdle

/-- The state right after reset meets every invariant stated above. -/
def Obligations.ResetMeetsTheInvariants : Prop :=
  Memory.wf State.reset.eeprom = true ∧ State.reset.keysLawful ∧ State.reset.ranged ∧
  State.reset.zonesLawful ∧ State.reset.placesLawful ∧ State.reset.closedLotsIdle ∧
  State.reset.recordsLinked ∧ State.reset.lengthConserved ∧ State.reset.zonesWithin
end

