-- ==== Sys2Proof/Laws/Bytes.lean ====
section
/-! SUPPORT. Numbers and their bytes, most significant first. -/

namespace Sys2Proof.Machine

@[simp] theorem toBytes_length (n v : Nat) : (toBytes n v).length = n := by
  induction n with
  | zero => rfl
  | succ n ih => simp [toBytes, ih]

theorem beNat_append (as bs : List Byte) :
    beNat (as ++ bs) = beNat as * 256 ^ bs.length + beNat bs := by
  induction bs using List.reverseRecOn with
  | nil => simp [beNat]
  | append_singleton bs b ih =>
    have h (l : List Byte) : beNat (l ++ [b]) = beNat l * 256 + b.toNat := by
      simp [beNat, List.foldl_append]
    rw [← List.append_assoc, h, ih, h]
    simp only [List.length_append, List.length_singleton, pow_succ]
    ring

theorem beNat_cons (b : Byte) (bs : List Byte) :
    beNat (b :: bs) = b.toNat * 256 ^ bs.length + beNat bs := by
  have := beNat_append [b] bs
  simpa [beNat] using this

/-- A number below 256^n is the number its n bytes spell. -/
theorem beNat_toBytes (n v : Nat) (h : v < 256 ^ n) : beNat (toBytes n v) = v := by
  have key : ∀ n v, beNat (toBytes n v) = v % 256 ^ n := by
    intro n
    induction n with
    | zero => intro v; simp [toBytes, beNat, Nat.mod_one]
    | succ n ih =>
      intro v
      rw [toBytes, beNat_cons, ih]
      simp only [toBytes_length, BitVec.toNat_ofNat]
      rw [show (2 : Nat) ^ 8 = 256 from rfl, pow_succ, Nat.mod_mul]
      ring
  rw [key, Nat.mod_eq_of_lt h]

/-- The bytes of a number at the front of a list. -/
theorem bytesAt_toBytes_append (n v : Nat) (rest : List Byte) (h : v < 256 ^ n) :
    bytesAt (toBytes n v ++ rest) 0 n = v := by
  simp [bytesAt, beNat_toBytes n v h]

/-- The bytes after a first block. -/
theorem bytesAt_append_right (as bs : List Byte) (at0 n : Nat) (h : as.length ≤ at0) :
    bytesAt (as ++ bs) at0 n = bytesAt bs (at0 - as.length) n := by
  simp [bytesAt, List.drop_append, List.drop_eq_nil_of_le h]

theorem beNat_lt (bs : List Byte) : beNat bs < 256 ^ bs.length := by
  induction bs with
  | nil => simp [beNat]
  | cons b bs ih =>
    rw [beNat_cons, List.length_cons, pow_succ]
    have := b.isLt
    have h2 : b.toNat * 256 ^ bs.length ≤ 255 * 256 ^ bs.length :=
      Nat.mul_le_mul_right _ (by omega)
    omega

/-- The number in n bytes is below 256^n. -/
theorem bytesAt_lt (bs : List Byte) (at0 n : Nat) : bytesAt bs at0 n < 256 ^ n :=
  lt_of_lt_of_le (beNat_lt _) (Nat.pow_le_pow_right (by decide) (by simp))

end Sys2Proof.Machine
end

