-- ==== Sys2Proof/Laws/State.lean ====
section
/-! SUPPORT. One lemma for each field that an update of the records, of the link or of the state
leaves, and what the updates of the port put in place. -/

namespace Sys2Proof.Machine

/-! ## The records -/

/-! ### Works.modifyLot -/

@[simp] theorem Works.modifyLot_lines (w : Works) (n : Nat) (f : Lot → Lot) :
    (w.modifyLot n f).lines = w.lines := rfl
@[simp] theorem Works.modifyLot_coils (w : Works) (n : Nat) (f : Lot → Lot) :
    (w.modifyLot n f).coils = w.coils := rfl
@[simp] theorem Works.modifyLot_waitList (w : Works) (n : Nat) (f : Lot → Lot) :
    (w.modifyLot n f).waitList = w.waitList := rfl
@[simp] theorem Works.modifyLot_lanes (w : Works) (n : Nat) (f : Lot → Lot) :
    (w.modifyLot n f).lanes = w.lanes := rfl
@[simp] theorem Works.modifyLot_queues (w : Works) (n : Nat) (f : Lot → Lot) :
    (w.modifyLot n f).queues = w.queues := rfl
@[simp] theorem Works.modifyLot_held (w : Works) (n : Nat) (f : Lot → Lot) :
    (w.modifyLot n f).held = w.held := rfl
@[simp] theorem Works.modifyLot_notices (w : Works) (n : Nat) (f : Lot → Lot) :
    (w.modifyLot n f).notices = w.notices := rfl

/-! ### Works.removeLot -/

@[simp] theorem Works.removeLot_lines (w : Works) (n : Nat) :
    (w.removeLot n).lines = w.lines := rfl
@[simp] theorem Works.removeLot_coils (w : Works) (n : Nat) :
    (w.removeLot n).coils = w.coils := rfl
@[simp] theorem Works.removeLot_waitList (w : Works) (n : Nat) :
    (w.removeLot n).waitList = w.waitList := rfl
@[simp] theorem Works.removeLot_lanes (w : Works) (n : Nat) :
    (w.removeLot n).lanes = w.lanes := rfl
@[simp] theorem Works.removeLot_queues (w : Works) (n : Nat) :
    (w.removeLot n).queues = w.queues := rfl
@[simp] theorem Works.removeLot_held (w : Works) (n : Nat) :
    (w.removeLot n).held = w.held := rfl
@[simp] theorem Works.removeLot_notices (w : Works) (n : Nat) :
    (w.removeLot n).notices = w.notices := rfl

/-! ### Works.modifyLine -/

@[simp] theorem Works.modifyLine_lots (w : Works) (i : LineIx) (f : Line → Line) :
    (w.modifyLine i f).lots = w.lots := rfl
@[simp] theorem Works.modifyLine_coils (w : Works) (i : LineIx) (f : Line → Line) :
    (w.modifyLine i f).coils = w.coils := rfl
@[simp] theorem Works.modifyLine_waitList (w : Works) (i : LineIx) (f : Line → Line) :
    (w.modifyLine i f).waitList = w.waitList := rfl
@[simp] theorem Works.modifyLine_lanes (w : Works) (i : LineIx) (f : Line → Line) :
    (w.modifyLine i f).lanes = w.lanes := rfl
@[simp] theorem Works.modifyLine_queues (w : Works) (i : LineIx) (f : Line → Line) :
    (w.modifyLine i f).queues = w.queues := rfl
@[simp] theorem Works.modifyLine_held (w : Works) (i : LineIx) (f : Line → Line) :
    (w.modifyLine i f).held = w.held := rfl
@[simp] theorem Works.modifyLine_notices (w : Works) (i : LineIx) (f : Line → Line) :
    (w.modifyLine i f).notices = w.notices := rfl

/-! ### Works.modifyCoil -/

@[simp] theorem Works.modifyCoil_lots (w : Works) (k : CoilKey) (f : Coil → Coil) :
    (w.modifyCoil k f).lots = w.lots := rfl
@[simp] theorem Works.modifyCoil_lines (w : Works) (k : CoilKey) (f : Coil → Coil) :
    (w.modifyCoil k f).lines = w.lines := rfl
@[simp] theorem Works.modifyCoil_waitList (w : Works) (k : CoilKey) (f : Coil → Coil) :
    (w.modifyCoil k f).waitList = w.waitList := rfl
@[simp] theorem Works.modifyCoil_lanes (w : Works) (k : CoilKey) (f : Coil → Coil) :
    (w.modifyCoil k f).lanes = w.lanes := rfl
@[simp] theorem Works.modifyCoil_queues (w : Works) (k : CoilKey) (f : Coil → Coil) :
    (w.modifyCoil k f).queues = w.queues := rfl
@[simp] theorem Works.modifyCoil_held (w : Works) (k : CoilKey) (f : Coil → Coil) :
    (w.modifyCoil k f).held = w.held := rfl
@[simp] theorem Works.modifyCoil_notices (w : Works) (k : CoilKey) (f : Coil → Coil) :
    (w.modifyCoil k f).notices = w.notices := rfl

/-! ### Works.removeCoil -/

@[simp] theorem Works.removeCoil_lots (w : Works) (k : CoilKey) :
    (w.removeCoil k).lots = w.lots := rfl
@[simp] theorem Works.removeCoil_lines (w : Works) (k : CoilKey) :
    (w.removeCoil k).lines = w.lines := rfl
@[simp] theorem Works.removeCoil_waitList (w : Works) (k : CoilKey) :
    (w.removeCoil k).waitList = w.waitList := rfl
@[simp] theorem Works.removeCoil_lanes (w : Works) (k : CoilKey) :
    (w.removeCoil k).lanes = w.lanes := rfl
@[simp] theorem Works.removeCoil_queues (w : Works) (k : CoilKey) :
    (w.removeCoil k).queues = w.queues := rfl
@[simp] theorem Works.removeCoil_held (w : Works) (k : CoilKey) :
    (w.removeCoil k).held = w.held := rfl
@[simp] theorem Works.removeCoil_notices (w : Works) (k : CoilKey) :
    (w.removeCoil k).notices = w.notices := rfl

/-! ### Works.joinQueue -/

@[simp] theorem Works.joinQueue_lots (w : Works) (p : PackerIx) (k : CoilKey) :
    (w.joinQueue p k).lots = w.lots := rfl
@[simp] theorem Works.joinQueue_lines (w : Works) (p : PackerIx) (k : CoilKey) :
    (w.joinQueue p k).lines = w.lines := rfl
@[simp] theorem Works.joinQueue_coils (w : Works) (p : PackerIx) (k : CoilKey) :
    (w.joinQueue p k).coils = w.coils := rfl
@[simp] theorem Works.joinQueue_waitList (w : Works) (p : PackerIx) (k : CoilKey) :
    (w.joinQueue p k).waitList = w.waitList := rfl
@[simp] theorem Works.joinQueue_lanes (w : Works) (p : PackerIx) (k : CoilKey) :
    (w.joinQueue p k).lanes = w.lanes := rfl
@[simp] theorem Works.joinQueue_held (w : Works) (p : PackerIx) (k : CoilKey) :
    (w.joinQueue p k).held = w.held := rfl
@[simp] theorem Works.joinQueue_notices (w : Works) (p : PackerIx) (k : CoilKey) :
    (w.joinQueue p k).notices = w.notices := rfl

/-! ### Works.leaveQueue -/

@[simp] theorem Works.leaveQueue_lots (w : Works) (p : PackerIx) (k : CoilKey) :
    (w.leaveQueue p k).lots = w.lots := rfl
@[simp] theorem Works.leaveQueue_lines (w : Works) (p : PackerIx) (k : CoilKey) :
    (w.leaveQueue p k).lines = w.lines := rfl
@[simp] theorem Works.leaveQueue_coils (w : Works) (p : PackerIx) (k : CoilKey) :
    (w.leaveQueue p k).coils = w.coils := rfl
@[simp] theorem Works.leaveQueue_waitList (w : Works) (p : PackerIx) (k : CoilKey) :
    (w.leaveQueue p k).waitList = w.waitList := rfl
@[simp] theorem Works.leaveQueue_lanes (w : Works) (p : PackerIx) (k : CoilKey) :
    (w.leaveQueue p k).lanes = w.lanes := rfl
@[simp] theorem Works.leaveQueue_held (w : Works) (p : PackerIx) (k : CoilKey) :
    (w.leaveQueue p k).held = w.held := rfl
@[simp] theorem Works.leaveQueue_notices (w : Works) (p : PackerIx) (k : CoilKey) :
    (w.leaveQueue p k).notices = w.notices := rfl

/-! ### Works.joinHeld -/

@[simp] theorem Works.joinHeld_lots (w : Works) (p : PackerIx) (i : LineIx) :
    (w.joinHeld p i).lots = w.lots := rfl
@[simp] theorem Works.joinHeld_lines (w : Works) (p : PackerIx) (i : LineIx) :
    (w.joinHeld p i).lines = w.lines := rfl
@[simp] theorem Works.joinHeld_coils (w : Works) (p : PackerIx) (i : LineIx) :
    (w.joinHeld p i).coils = w.coils := rfl
@[simp] theorem Works.joinHeld_waitList (w : Works) (p : PackerIx) (i : LineIx) :
    (w.joinHeld p i).waitList = w.waitList := rfl
@[simp] theorem Works.joinHeld_lanes (w : Works) (p : PackerIx) (i : LineIx) :
    (w.joinHeld p i).lanes = w.lanes := rfl
@[simp] theorem Works.joinHeld_queues (w : Works) (p : PackerIx) (i : LineIx) :
    (w.joinHeld p i).queues = w.queues := rfl
@[simp] theorem Works.joinHeld_notices (w : Works) (p : PackerIx) (i : LineIx) :
    (w.joinHeld p i).notices = w.notices := rfl

/-! ### Works.leaveHeld -/

@[simp] theorem Works.leaveHeld_lots (w : Works) (p : PackerIx) (i : LineIx) :
    (w.leaveHeld p i).lots = w.lots := rfl
@[simp] theorem Works.leaveHeld_lines (w : Works) (p : PackerIx) (i : LineIx) :
    (w.leaveHeld p i).lines = w.lines := rfl
@[simp] theorem Works.leaveHeld_coils (w : Works) (p : PackerIx) (i : LineIx) :
    (w.leaveHeld p i).coils = w.coils := rfl
@[simp] theorem Works.leaveHeld_waitList (w : Works) (p : PackerIx) (i : LineIx) :
    (w.leaveHeld p i).waitList = w.waitList := rfl
@[simp] theorem Works.leaveHeld_lanes (w : Works) (p : PackerIx) (i : LineIx) :
    (w.leaveHeld p i).lanes = w.lanes := rfl
@[simp] theorem Works.leaveHeld_queues (w : Works) (p : PackerIx) (i : LineIx) :
    (w.leaveHeld p i).queues = w.queues := rfl
@[simp] theorem Works.leaveHeld_notices (w : Works) (p : PackerIx) (i : LineIx) :
    (w.leaveHeld p i).notices = w.notices := rfl

/-! ### Works.leaveWait -/

@[simp] theorem Works.leaveWait_lots (w : Works) (i : LineIx) :
    (w.leaveWait i).lots = w.lots := rfl
@[simp] theorem Works.leaveWait_lines (w : Works) (i : LineIx) :
    (w.leaveWait i).lines = w.lines := rfl
@[simp] theorem Works.leaveWait_coils (w : Works) (i : LineIx) :
    (w.leaveWait i).coils = w.coils := rfl
@[simp] theorem Works.leaveWait_lanes (w : Works) (i : LineIx) :
    (w.leaveWait i).lanes = w.lanes := rfl
@[simp] theorem Works.leaveWait_queues (w : Works) (i : LineIx) :
    (w.leaveWait i).queues = w.queues := rfl
@[simp] theorem Works.leaveWait_held (w : Works) (i : LineIx) :
    (w.leaveWait i).held = w.held := rfl
@[simp] theorem Works.leaveWait_notices (w : Works) (i : LineIx) :
    (w.leaveWait i).notices = w.notices := rfl

/-! ### Works.raiseGlobal -/

@[simp] theorem Works.raiseGlobal_lots (w : Works) (b : Half) :
    (w.raiseGlobal b).lots = w.lots := rfl
@[simp] theorem Works.raiseGlobal_lines (w : Works) (b : Half) :
    (w.raiseGlobal b).lines = w.lines := rfl
@[simp] theorem Works.raiseGlobal_coils (w : Works) (b : Half) :
    (w.raiseGlobal b).coils = w.coils := rfl
@[simp] theorem Works.raiseGlobal_waitList (w : Works) (b : Half) :
    (w.raiseGlobal b).waitList = w.waitList := rfl
@[simp] theorem Works.raiseGlobal_lanes (w : Works) (b : Half) :
    (w.raiseGlobal b).lanes = w.lanes := rfl
@[simp] theorem Works.raiseGlobal_queues (w : Works) (b : Half) :
    (w.raiseGlobal b).queues = w.queues := rfl
@[simp] theorem Works.raiseGlobal_held (w : Works) (b : Half) :
    (w.raiseGlobal b).held = w.held := rfl

/-! ### Works.raiseLine -/

@[simp] theorem Works.raiseLine_lots (w : Works) (i : LineIx) (b : Half) :
    (w.raiseLine i b).lots = w.lots := rfl
@[simp] theorem Works.raiseLine_lines (w : Works) (i : LineIx) (b : Half) :
    (w.raiseLine i b).lines = w.lines := rfl
@[simp] theorem Works.raiseLine_coils (w : Works) (i : LineIx) (b : Half) :
    (w.raiseLine i b).coils = w.coils := rfl
@[simp] theorem Works.raiseLine_waitList (w : Works) (i : LineIx) (b : Half) :
    (w.raiseLine i b).waitList = w.waitList := rfl
@[simp] theorem Works.raiseLine_lanes (w : Works) (i : LineIx) (b : Half) :
    (w.raiseLine i b).lanes = w.lanes := rfl
@[simp] theorem Works.raiseLine_queues (w : Works) (i : LineIx) (b : Half) :
    (w.raiseLine i b).queues = w.queues := rfl
@[simp] theorem Works.raiseLine_held (w : Works) (i : LineIx) (b : Half) :
    (w.raiseLine i b).held = w.held := rfl

/-! ### Works.raisePacker -/

@[simp] theorem Works.raisePacker_lots (w : Works) (p : PackerIx) (b : Half) :
    (w.raisePacker p b).lots = w.lots := rfl
@[simp] theorem Works.raisePacker_lines (w : Works) (p : PackerIx) (b : Half) :
    (w.raisePacker p b).lines = w.lines := rfl
@[simp] theorem Works.raisePacker_coils (w : Works) (p : PackerIx) (b : Half) :
    (w.raisePacker p b).coils = w.coils := rfl
@[simp] theorem Works.raisePacker_waitList (w : Works) (p : PackerIx) (b : Half) :
    (w.raisePacker p b).waitList = w.waitList := rfl
@[simp] theorem Works.raisePacker_lanes (w : Works) (p : PackerIx) (b : Half) :
    (w.raisePacker p b).lanes = w.lanes := rfl
@[simp] theorem Works.raisePacker_queues (w : Works) (p : PackerIx) (b : Half) :
    (w.raisePacker p b).queues = w.queues := rfl
@[simp] theorem Works.raisePacker_held (w : Works) (p : PackerIx) (b : Half) :
    (w.raisePacker p b).held = w.held := rfl

/-! ### Works.raiseStation -/

@[simp] theorem Works.raiseStation_lots (w : Works) (d : StationIx) (b : Half) :
    (w.raiseStation d b).lots = w.lots := rfl
@[simp] theorem Works.raiseStation_lines (w : Works) (d : StationIx) (b : Half) :
    (w.raiseStation d b).lines = w.lines := rfl
@[simp] theorem Works.raiseStation_coils (w : Works) (d : StationIx) (b : Half) :
    (w.raiseStation d b).coils = w.coils := rfl
@[simp] theorem Works.raiseStation_waitList (w : Works) (d : StationIx) (b : Half) :
    (w.raiseStation d b).waitList = w.waitList := rfl
@[simp] theorem Works.raiseStation_lanes (w : Works) (d : StationIx) (b : Half) :
    (w.raiseStation d b).lanes = w.lanes := rfl
@[simp] theorem Works.raiseStation_queues (w : Works) (d : StationIx) (b : Half) :
    (w.raiseStation d b).queues = w.queues := rfl
@[simp] theorem Works.raiseStation_held (w : Works) (d : StationIx) (b : Half) :
    (w.raiseStation d b).held = w.held := rfl

/-! ### Works.clearEvents -/

@[simp] theorem Works.clearEvents_lots (w : Works) :
    (w.clearEvents).lots = w.lots := rfl
@[simp] theorem Works.clearEvents_lines (w : Works) :
    (w.clearEvents).lines = w.lines := rfl
@[simp] theorem Works.clearEvents_coils (w : Works) :
    (w.clearEvents).coils = w.coils := rfl
@[simp] theorem Works.clearEvents_waitList (w : Works) :
    (w.clearEvents).waitList = w.waitList := rfl
@[simp] theorem Works.clearEvents_lanes (w : Works) :
    (w.clearEvents).lanes = w.lanes := rfl
@[simp] theorem Works.clearEvents_queues (w : Works) :
    (w.clearEvents).queues = w.queues := rfl
@[simp] theorem Works.clearEvents_held (w : Works) :
    (w.clearEvents).held = w.held := rfl

/-! ### Works.resumeLines -/

@[simp] theorem Works.resumeLines_lots (w : Works) :
    (w.resumeLines).lots = w.lots := rfl
@[simp] theorem Works.resumeLines_coils (w : Works) :
    (w.resumeLines).coils = w.coils := rfl
@[simp] theorem Works.resumeLines_waitList (w : Works) :
    (w.resumeLines).waitList = w.waitList := rfl
@[simp] theorem Works.resumeLines_lanes (w : Works) :
    (w.resumeLines).lanes = w.lanes := rfl
@[simp] theorem Works.resumeLines_queues (w : Works) :
    (w.resumeLines).queues = w.queues := rfl
@[simp] theorem Works.resumeLines_held (w : Works) :
    (w.resumeLines).held = w.held := rfl
@[simp] theorem Works.resumeLines_notices (w : Works) :
    (w.resumeLines).notices = w.notices := rfl

/-! ## The link -/

/-! ### Link.modifyStation -/

@[simp] theorem Link.modifyStation_roundCount (k : Link) (d : StationIx) (f : Station → Station) :
    (k.modifyStation d f).roundCount = k.roundCount := rfl
@[simp] theorem Link.modifyStation_rotation (k : Link) (d : StationIx) (f : Station → Station) :
    (k.modifyStation d f).rotation = k.rotation := rfl
@[simp] theorem Link.modifyStation_round (k : Link) (d : StationIx) (f : Station → Station) :
    (k.modifyStation d f).round = k.round := rfl
@[simp] theorem Link.modifyStation_turn (k : Link) (d : StationIx) (f : Station → Station) :
    (k.modifyStation d f).turn = k.turn := rfl
@[simp] theorem Link.modifyStation_reception (k : Link) (d : StationIx) (f : Station → Station) :
    (k.modifyStation d f).reception = k.reception := rfl
@[simp] theorem Link.modifyStation_lastPoll (k : Link) (d : StationIx) (f : Station → Station) :
    (k.modifyStation d f).lastPoll = k.lastPoll := rfl

/-! ## The state -/

/-! ### State.respondWith -/

@[simp] theorem State.respondWith_pending (s : State) (r : ResultBuffer) :
    (s.respondWith r).pending = s.pending := rfl
@[simp] theorem State.respondWith_partState (s : State) (r : ResultBuffer) :
    (s.respondWith r).partState = s.partState := rfl
@[simp] theorem State.respondWith_resumeTimer (s : State) (r : ResultBuffer) :
    (s.respondWith r).resumeTimer = s.resumeTimer := rfl
@[simp] theorem State.respondWith_supplyOk (s : State) (r : ResultBuffer) :
    (s.respondWith r).supplyOk = s.supplyOk := rfl
@[simp] theorem State.respondWith_timeBase (s : State) (r : ResultBuffer) :
    (s.respondWith r).timeBase = s.timeBase := rfl
@[simp] theorem State.respondWith_settings (s : State) (r : ResultBuffer) :
    (s.respondWith r).settings = s.settings := rfl
@[simp] theorem State.respondWith_works (s : State) (r : ResultBuffer) :
    (s.respondWith r).works = s.works := rfl
@[simp] theorem State.respondWith_link (s : State) (r : ResultBuffer) :
    (s.respondWith r).link = s.link := rfl
@[simp] theorem State.respondWith_eeprom (s : State) (r : ResultBuffer) :
    (s.respondWith r).eeprom = s.eeprom := rfl
@[simp] theorem State.respondWith_freeIndex (s : State) (r : ResultBuffer) :
    (s.respondWith r).freeIndex = s.freeIndex := rfl

/-! ### State.respond -/

@[simp] theorem State.respond_pending (s : State) (st : Status) :
    (s.respond st).pending = s.pending := rfl
@[simp] theorem State.respond_partState (s : State) (st : Status) :
    (s.respond st).partState = s.partState := rfl
@[simp] theorem State.respond_resumeTimer (s : State) (st : Status) :
    (s.respond st).resumeTimer = s.resumeTimer := rfl
@[simp] theorem State.respond_supplyOk (s : State) (st : Status) :
    (s.respond st).supplyOk = s.supplyOk := rfl
@[simp] theorem State.respond_timeBase (s : State) (st : Status) :
    (s.respond st).timeBase = s.timeBase := rfl
@[simp] theorem State.respond_settings (s : State) (st : Status) :
    (s.respond st).settings = s.settings := rfl
@[simp] theorem State.respond_works (s : State) (st : Status) :
    (s.respond st).works = s.works := rfl
@[simp] theorem State.respond_link (s : State) (st : Status) :
    (s.respond st).link = s.link := rfl
@[simp] theorem State.respond_eeprom (s : State) (st : Status) :
    (s.respond st).eeprom = s.eeprom := rfl
@[simp] theorem State.respond_freeIndex (s : State) (st : Status) :
    (s.respond st).freeIndex = s.freeIndex := rfl

/-! ### State.release -/

@[simp] theorem State.release_pending (s : State) (c : Byte) (a : List Byte) :
    (s.release c a).pending = s.pending := rfl
@[simp] theorem State.release_partState (s : State) (c : Byte) (a : List Byte) :
    (s.release c a).partState = s.partState := rfl
@[simp] theorem State.release_resumeTimer (s : State) (c : Byte) (a : List Byte) :
    (s.release c a).resumeTimer = s.resumeTimer := rfl
@[simp] theorem State.release_supplyOk (s : State) (c : Byte) (a : List Byte) :
    (s.release c a).supplyOk = s.supplyOk := rfl
@[simp] theorem State.release_timeBase (s : State) (c : Byte) (a : List Byte) :
    (s.release c a).timeBase = s.timeBase := rfl
@[simp] theorem State.release_settings (s : State) (c : Byte) (a : List Byte) :
    (s.release c a).settings = s.settings := rfl
@[simp] theorem State.release_works (s : State) (c : Byte) (a : List Byte) :
    (s.release c a).works = s.works := rfl
@[simp] theorem State.release_link (s : State) (c : Byte) (a : List Byte) :
    (s.release c a).link = s.link := rfl
@[simp] theorem State.release_eeprom (s : State) (c : Byte) (a : List Byte) :
    (s.release c a).eeprom = s.eeprom := rfl
@[simp] theorem State.release_freeIndex (s : State) (c : Byte) (a : List Byte) :
    (s.release c a).freeIndex = s.freeIndex := rfl

/-! ### State.answered -/

@[simp] theorem State.answered_pending (s : State) (c : Byte) (a : List Byte) (r : ResultBuffer) :
    (s.answered c a r).pending = s.pending := rfl
@[simp] theorem State.answered_partState (s : State) (c : Byte) (a : List Byte) (r : ResultBuffer) :
    (s.answered c a r).partState = s.partState := rfl
@[simp] theorem State.answered_resumeTimer (s : State) (c : Byte) (a : List Byte) (r : ResultBuffer) :
    (s.answered c a r).resumeTimer = s.resumeTimer := rfl
@[simp] theorem State.answered_supplyOk (s : State) (c : Byte) (a : List Byte) (r : ResultBuffer) :
    (s.answered c a r).supplyOk = s.supplyOk := rfl
@[simp] theorem State.answered_timeBase (s : State) (c : Byte) (a : List Byte) (r : ResultBuffer) :
    (s.answered c a r).timeBase = s.timeBase := rfl
@[simp] theorem State.answered_settings (s : State) (c : Byte) (a : List Byte) (r : ResultBuffer) :
    (s.answered c a r).settings = s.settings := rfl
@[simp] theorem State.answered_works (s : State) (c : Byte) (a : List Byte) (r : ResultBuffer) :
    (s.answered c a r).works = s.works := rfl
@[simp] theorem State.answered_link (s : State) (c : Byte) (a : List Byte) (r : ResultBuffer) :
    (s.answered c a r).link = s.link := rfl
@[simp] theorem State.answered_eeprom (s : State) (c : Byte) (a : List Byte) (r : ResultBuffer) :
    (s.answered c a r).eeprom = s.eeprom := rfl
@[simp] theorem State.answered_freeIndex (s : State) (c : Byte) (a : List Byte) (r : ResultBuffer) :
    (s.answered c a r).freeIndex = s.freeIndex := rfl

/-! ### State.accept -/

@[simp] theorem State.accept_pending (s : State) (w : Works) :
    (s.accept w).pending = s.pending := rfl
@[simp] theorem State.accept_partState (s : State) (w : Works) :
    (s.accept w).partState = s.partState := rfl
@[simp] theorem State.accept_resumeTimer (s : State) (w : Works) :
    (s.accept w).resumeTimer = s.resumeTimer := rfl
@[simp] theorem State.accept_supplyOk (s : State) (w : Works) :
    (s.accept w).supplyOk = s.supplyOk := rfl
@[simp] theorem State.accept_timeBase (s : State) (w : Works) :
    (s.accept w).timeBase = s.timeBase := rfl
@[simp] theorem State.accept_settings (s : State) (w : Works) :
    (s.accept w).settings = s.settings := rfl
@[simp] theorem State.accept_link (s : State) (w : Works) :
    (s.accept w).link = s.link := rfl
@[simp] theorem State.accept_eeprom (s : State) (w : Works) :
    (s.accept w).eeprom = s.eeprom := rfl
@[simp] theorem State.accept_freeIndex (s : State) (w : Works) :
    (s.accept w).freeIndex = s.freeIndex := rfl

/-! ### State.modifyStation -/

@[simp] theorem State.modifyStation_pending (s : State) (d : StationIx) (f : Station → Station) :
    (s.modifyStation d f).pending = s.pending := rfl
@[simp] theorem State.modifyStation_partState (s : State) (d : StationIx) (f : Station → Station) :
    (s.modifyStation d f).partState = s.partState := rfl
@[simp] theorem State.modifyStation_resumeTimer (s : State) (d : StationIx) (f : Station → Station) :
    (s.modifyStation d f).resumeTimer = s.resumeTimer := rfl
@[simp] theorem State.modifyStation_supplyOk (s : State) (d : StationIx) (f : Station → Station) :
    (s.modifyStation d f).supplyOk = s.supplyOk := rfl
@[simp] theorem State.modifyStation_timeBase (s : State) (d : StationIx) (f : Station → Station) :
    (s.modifyStation d f).timeBase = s.timeBase := rfl
@[simp] theorem State.modifyStation_settings (s : State) (d : StationIx) (f : Station → Station) :
    (s.modifyStation d f).settings = s.settings := rfl
@[simp] theorem State.modifyStation_works (s : State) (d : StationIx) (f : Station → Station) :
    (s.modifyStation d f).works = s.works := rfl
@[simp] theorem State.modifyStation_port (s : State) (d : StationIx) (f : Station → Station) :
    (s.modifyStation d f).port = s.port := rfl
@[simp] theorem State.modifyStation_eeprom (s : State) (d : StationIx) (f : Station → Station) :
    (s.modifyStation d f).eeprom = s.eeprom := rfl
@[simp] theorem State.modifyStation_freeIndex (s : State) (d : StationIx) (f : Station → Station) :
    (s.modifyStation d f).freeIndex = s.freeIndex := rfl

/-! ### State.endReception -/

@[simp] theorem State.endReception_pending (s : State) :
    (s.endReception).pending = s.pending := rfl
@[simp] theorem State.endReception_partState (s : State) :
    (s.endReception).partState = s.partState := rfl
@[simp] theorem State.endReception_resumeTimer (s : State) :
    (s.endReception).resumeTimer = s.resumeTimer := rfl
@[simp] theorem State.endReception_supplyOk (s : State) :
    (s.endReception).supplyOk = s.supplyOk := rfl
@[simp] theorem State.endReception_timeBase (s : State) :
    (s.endReception).timeBase = s.timeBase := rfl
@[simp] theorem State.endReception_settings (s : State) :
    (s.endReception).settings = s.settings := rfl
@[simp] theorem State.endReception_works (s : State) :
    (s.endReception).works = s.works := rfl
@[simp] theorem State.endReception_port (s : State) :
    (s.endReception).port = s.port := rfl
@[simp] theorem State.endReception_eeprom (s : State) :
    (s.endReception).eeprom = s.eeprom := rfl
@[simp] theorem State.endReception_freeIndex (s : State) :
    (s.endReception).freeIndex = s.freeIndex := rfl

/-! ### State.endTurn -/

@[simp] theorem State.endTurn_pending (s : State) :
    (s.endTurn).pending = s.pending := rfl
@[simp] theorem State.endTurn_partState (s : State) :
    (s.endTurn).partState = s.partState := rfl
@[simp] theorem State.endTurn_resumeTimer (s : State) :
    (s.endTurn).resumeTimer = s.resumeTimer := rfl
@[simp] theorem State.endTurn_supplyOk (s : State) :
    (s.endTurn).supplyOk = s.supplyOk := rfl
@[simp] theorem State.endTurn_timeBase (s : State) :
    (s.endTurn).timeBase = s.timeBase := rfl
@[simp] theorem State.endTurn_settings (s : State) :
    (s.endTurn).settings = s.settings := rfl
@[simp] theorem State.endTurn_works (s : State) :
    (s.endTurn).works = s.works := rfl
@[simp] theorem State.endTurn_port (s : State) :
    (s.endTurn).port = s.port := rfl
@[simp] theorem State.endTurn_eeprom (s : State) :
    (s.endTurn).eeprom = s.eeprom := rfl
@[simp] theorem State.endTurn_freeIndex (s : State) :
    (s.endTurn).freeIndex = s.freeIndex := rfl

/-! ### State.answer -/

@[simp] theorem State.answer_pending (s : State) (d : StationIx) (x : Answer) :
    (s.answer d x).pending = s.pending := rfl
@[simp] theorem State.answer_partState (s : State) (d : StationIx) (x : Answer) :
    (s.answer d x).partState = s.partState := rfl
@[simp] theorem State.answer_resumeTimer (s : State) (d : StationIx) (x : Answer) :
    (s.answer d x).resumeTimer = s.resumeTimer := rfl
@[simp] theorem State.answer_supplyOk (s : State) (d : StationIx) (x : Answer) :
    (s.answer d x).supplyOk = s.supplyOk := rfl
@[simp] theorem State.answer_timeBase (s : State) (d : StationIx) (x : Answer) :
    (s.answer d x).timeBase = s.timeBase := rfl
@[simp] theorem State.answer_settings (s : State) (d : StationIx) (x : Answer) :
    (s.answer d x).settings = s.settings := rfl
@[simp] theorem State.answer_works (s : State) (d : StationIx) (x : Answer) :
    (s.answer d x).works = s.works := rfl
@[simp] theorem State.answer_port (s : State) (d : StationIx) (x : Answer) :
    (s.answer d x).port = s.port := rfl
@[simp] theorem State.answer_eeprom (s : State) (d : StationIx) (x : Answer) :
    (s.answer d x).eeprom = s.eeprom := rfl
@[simp] theorem State.answer_freeIndex (s : State) (d : StationIx) (x : Answer) :
    (s.answer d x).freeIndex = s.freeIndex := rfl

/-! ### State.protocolError -/

@[simp] theorem State.protocolError_pending (s : State) (d : StationIx) :
    (s.protocolError d).pending = s.pending := rfl
@[simp] theorem State.protocolError_partState (s : State) (d : StationIx) :
    (s.protocolError d).partState = s.partState := rfl
@[simp] theorem State.protocolError_resumeTimer (s : State) (d : StationIx) :
    (s.protocolError d).resumeTimer = s.resumeTimer := rfl
@[simp] theorem State.protocolError_supplyOk (s : State) (d : StationIx) :
    (s.protocolError d).supplyOk = s.supplyOk := rfl
@[simp] theorem State.protocolError_timeBase (s : State) (d : StationIx) :
    (s.protocolError d).timeBase = s.timeBase := rfl
@[simp] theorem State.protocolError_settings (s : State) (d : StationIx) :
    (s.protocolError d).settings = s.settings := rfl
@[simp] theorem State.protocolError_port (s : State) (d : StationIx) :
    (s.protocolError d).port = s.port := rfl
@[simp] theorem State.protocolError_eeprom (s : State) (d : StationIx) :
    (s.protocolError d).eeprom = s.eeprom := rfl
@[simp] theorem State.protocolError_freeIndex (s : State) (d : StationIx) :
    (s.protocolError d).freeIndex = s.freeIndex := rfl

/-! ### State.sendPoll -/

@[simp] theorem State.sendPoll_pending (s : State) (t : Turn) :
    (s.sendPoll t).pending = s.pending := rfl
@[simp] theorem State.sendPoll_partState (s : State) (t : Turn) :
    (s.sendPoll t).partState = s.partState := rfl
@[simp] theorem State.sendPoll_resumeTimer (s : State) (t : Turn) :
    (s.sendPoll t).resumeTimer = s.resumeTimer := rfl
@[simp] theorem State.sendPoll_supplyOk (s : State) (t : Turn) :
    (s.sendPoll t).supplyOk = s.supplyOk := rfl
@[simp] theorem State.sendPoll_timeBase (s : State) (t : Turn) :
    (s.sendPoll t).timeBase = s.timeBase := rfl
@[simp] theorem State.sendPoll_settings (s : State) (t : Turn) :
    (s.sendPoll t).settings = s.settings := rfl
@[simp] theorem State.sendPoll_works (s : State) (t : Turn) :
    (s.sendPoll t).works = s.works := rfl
@[simp] theorem State.sendPoll_port (s : State) (t : Turn) :
    (s.sendPoll t).port = s.port := rfl
@[simp] theorem State.sendPoll_eeprom (s : State) (t : Turn) :
    (s.sendPoll t).eeprom = s.eeprom := rfl
@[simp] theorem State.sendPoll_freeIndex (s : State) (t : Turn) :
    (s.sendPoll t).freeIndex = s.freeIndex := rfl

/-! ### State.pollSent -/

@[simp] theorem State.pollSent_pending (s : State) :
    (s.pollSent).pending = s.pending := rfl
@[simp] theorem State.pollSent_partState (s : State) :
    (s.pollSent).partState = s.partState := rfl
@[simp] theorem State.pollSent_resumeTimer (s : State) :
    (s.pollSent).resumeTimer = s.resumeTimer := rfl
@[simp] theorem State.pollSent_supplyOk (s : State) :
    (s.pollSent).supplyOk = s.supplyOk := rfl
@[simp] theorem State.pollSent_timeBase (s : State) :
    (s.pollSent).timeBase = s.timeBase := rfl
@[simp] theorem State.pollSent_settings (s : State) :
    (s.pollSent).settings = s.settings := rfl
@[simp] theorem State.pollSent_works (s : State) :
    (s.pollSent).works = s.works := rfl
@[simp] theorem State.pollSent_port (s : State) :
    (s.pollSent).port = s.port := rfl
@[simp] theorem State.pollSent_eeprom (s : State) :
    (s.pollSent).eeprom = s.eeprom := rfl
@[simp] theorem State.pollSent_freeIndex (s : State) :
    (s.pollSent).freeIndex = s.freeIndex := rfl

/-! ### State.tick -/

@[simp] theorem State.tick_pending (s : State) :
    (s.tick).pending = s.pending := rfl
@[simp] theorem State.tick_partState (s : State) :
    (s.tick).partState = s.partState := rfl
@[simp] theorem State.tick_supplyOk (s : State) :
    (s.tick).supplyOk = s.supplyOk := rfl
@[simp] theorem State.tick_settings (s : State) :
    (s.tick).settings = s.settings := rfl
@[simp] theorem State.tick_works (s : State) :
    (s.tick).works = s.works := rfl
@[simp] theorem State.tick_link (s : State) :
    (s.tick).link = s.link := rfl
@[simp] theorem State.tick_port (s : State) :
    (s.tick).port = s.port := rfl
@[simp] theorem State.tick_eeprom (s : State) :
    (s.tick).eeprom = s.eeprom := rfl
@[simp] theorem State.tick_freeIndex (s : State) :
    (s.tick).freeIndex = s.freeIndex := rfl

/-! ## What the port holds after an answer -/

@[simp] theorem State.respondWith_result (s : State) (r : ResultBuffer) :
    (s.respondWith r).port.result = r := rfl
@[simp] theorem State.respondWith_storeOutcomeWanted (s : State) (r : ResultBuffer) :
    (s.respondWith r).port.storeOutcomeWanted = false := rfl
@[simp] theorem State.respondWith_store (s : State) (r : ResultBuffer) :
    (s.respondWith r).port.store = s.port.store := rfl
@[simp] theorem State.answered_result (s : State) (c : Byte) (a : List Byte) (r : ResultBuffer) :
    (s.answered c a r).port.result = r := rfl
@[simp] theorem State.answered_store (s : State) (c : Byte) (a : List Byte) (r : ResultBuffer) :
    (s.answered c a r).port.store = s.port.store := rfl
@[simp] theorem State.accept_works (s : State) (w : Works) : (s.accept w).works = w := rfl
@[simp] theorem State.accept_result (s : State) (w : Works) :
    (s.accept w).port.result = .plain .ok := rfl

/-- A result put in the buffer after the release of its transaction. -/
theorem State.release_respondWith (s : State) (c : Byte) (a : List Byte) (r : ResultBuffer) :
    (s.release c a).respondWith r = s.answered c a r := rfl

/-- A status put in the buffer after the release of its transaction. -/
theorem State.release_respond (s : State) (c : Byte) (a : List Byte) (st : Status) :
    (s.release c a).respond st = s.answered c a (.plain st) := rfl

/-- An accepted change of the records after the release of its transaction. -/
theorem State.release_accept (s : State) (c : Byte) (a : List Byte) (w : Works) :
    (s.release c a).accept w = { s.answered c a (.plain .ok) with works := w } := rfl

end Sys2Proof.Machine
end

