-- ==== Sys2Proof/Laws/Link.lean ====
section
/-! SUPPORT. What the shared operations of the Link Engine can do, and what they leave. -/

namespace Sys2Proof.Machine

/-- The parts of the state that the station link never reaches: all but the records and the Link
Engine (R151 to R161). -/
structure State.sameAside (s t : State) : Prop where
  pending : t.pending = s.pending
  partState : t.partState = s.partState
  resumeTimer : t.resumeTimer = s.resumeTimer
  supplyOk : t.supplyOk = s.supplyOk
  timeBase : t.timeBase = s.timeBase
  settings : t.settings = s.settings
  port : t.port = s.port
  eeprom : t.eeprom = s.eeprom
  freeIndex : t.freeIndex = s.freeIndex

theorem State.sameAside.refl (s : State) : s.sameAside s := ⟨rfl, rfl, rfl, rfl, rfl, rfl, rfl, rfl, rfl⟩

theorem State.sameAside.trans {s t u : State} (h : s.sameAside t) (k : t.sameAside u) :
    s.sameAside u :=
  ⟨k.pending.trans h.pending, k.partState.trans h.partState, k.resumeTimer.trans h.resumeTimer,
    k.supplyOk.trans h.supplyOk, k.timeBase.trans h.timeBase, k.settings.trans h.settings,
    k.port.trans h.port, k.eeprom.trans h.eeprom, k.freeIndex.trans h.freeIndex⟩

/-- An update of the records and the link alone. -/
theorem State.sameAside_with (s : State) (w : Works) (k : Link) :
    s.sameAside { s with works := w, link := k } := ⟨rfl, rfl, rfl, rfl, rfl, rfl, rfl, rfl, rfl⟩

/-- R158: a failed turn raises the failure count, isolates when it reaches the threshold, and ends
the turn. -/
theorem State.failedTurn_cases (s : State) (d : StationIx) (st : Station) :
    let n := min Config.byteLimit (st.failures + 1)
    (isolates s.settings.isolationThreshold n = true ∧
      s.failedTurn d st =
        { s.modifyStation d (fun st => { st with failures := n }.isolate) with
          works := s.works.ownerIsolated st.role }.endTurn) ∨
    (isolates s.settings.isolationThreshold n = false ∧
      s.failedTurn d st = (s.modifyStation d fun st => { st with failures := n }).endTurn) := by
  simp only [State.failedTurn]
  split
  · next h => exact .inl ⟨h, rfl⟩
  · next h => exact .inr ⟨by simpa using h, rfl⟩

/-- R156, R158, R161: all that a failed exchange can do. -/
theorem State.failExchange_cases (s : State) (t : Turn) :
    let s1 := s.modifyStation t.station fun st => { st with repeatOwed := true }
    s.failExchange t = s1.endTurn ∨
    s.failExchange t = s1.failedProbe t.station ∨
    s.failExchange t = { s1 with link := { s1.link with turn := some { t with phase := .due } } } ∨
    ∃ st, s.failExchange t = s1.failedTurn t.station st := by
  simp only [State.failExchange]
  split
  · exact .inl rfl
  · next st _ =>
    split
    · exact .inl rfl
    · split
      · exact .inr (.inl rfl)
      · split
        · exact .inr (.inr (.inl rfl))
        · exact .inr (.inr (.inr ⟨st, rfl⟩))

theorem State.failExchange_sameAside (s : State) (t : Turn) : s.sameAside (s.failExchange t) := by
  rcases State.failExchange_cases s t with h | h | h | ⟨st, h⟩
  · rw [h]; exact ⟨rfl, rfl, rfl, rfl, rfl, rfl, rfl, rfl, rfl⟩
  · rw [h]; exact ⟨rfl, rfl, rfl, rfl, rfl, rfl, rfl, rfl, rfl⟩
  · rw [h]; exact ⟨rfl, rfl, rfl, rfl, rfl, rfl, rfl, rfl, rfl⟩
  · rw [h]
    rcases State.failedTurn_cases (s.modifyStation t.station _) t.station st with ⟨-, k⟩ | ⟨-, k⟩ <;>
      rw [k] <;> exact ⟨rfl, rfl, rfl, rfl, rfl, rfl, rfl, rfl, rfl⟩

/-- R152, R156: a discarded frame fails the outstanding exchange, or does nothing but end the
reception. -/
theorem State.discardFrame_cases (s : State) :
    (s.link.outstanding? = none ∧ s.discardFrame = s.endReception) ∨
    ∃ t, s.link.outstanding? = some t ∧ s.discardFrame = s.endReception.failExchange t := by
  unfold State.discardFrame
  cases h : s.link.outstanding? with
  | none => exact .inl ⟨rfl, rfl⟩
  | some t => exact .inr ⟨t, rfl, rfl⟩

theorem State.discardFrame_sameAside (s : State) : s.sameAside s.discardFrame := by
  rcases State.discardFrame_cases s with ⟨-, h⟩ | ⟨t, -, h⟩
  · rw [h]; exact State.sameAside_with _ _ _
  · rw [h]; exact (State.sameAside_with _ _ _).trans (State.failExchange_sameAside _ _)

theorem State.checkSequence_sameAside (s : State) (d : StationIx) (role : Role) (q : Byte)
    (f : SequenceFinding) : s.sameAside (s.checkSequence d role q f) := by
  cases f
  · exact State.sameAside_with _ _ _
  · exact State.sameAside.refl s
  · exact State.sameAside_with _ _ _

theorem State.protocolError_sameAside (s : State) (d : StationIx) :
    s.sameAside (s.protocolError d) := State.sameAside_with _ _ _

theorem State.answer_sameAside (s : State) (d : StationIx) (a : Answer) :
    s.sameAside (s.answer d a) := State.sameAside_with _ _ _

theorem State.passFrame_sameAside (s : State) (d : StationIx) (role : Role) (c : Content) :
    s.sameAside (s.passFrame d role c) := by
  unfold State.passFrame
  split
  · exact State.sameAside.refl s
  · exact State.answer_sameAside _ _ _
  · exact State.sameAside_with _ _ _
  · exact State.sameAside_with _ _ _
  · dsimp only
    split
    · exact (State.sameAside_with _ _ _).trans (State.protocolError_sameAside _ _)
    · exact State.sameAside_with _ _ _
  · exact State.answer_sameAside _ _ _
  · exact State.answer_sameAside _ _ _
  · exact (State.sameAside_with _ _ _).trans (State.answer_sameAside _ _ _)
  · exact (State.sameAside_with _ _ _).trans (State.answer_sameAside _ _ _)
  · exact State.sameAside.refl s

/-- R160: a frame is discarded with a protocol error, refused for its role, or passed on. -/
theorem State.takeContent_cases (s : State) (d : StationIx) (role : Role) (kind : Byte)
    (payload : List Byte) :
    (contentOf kind payload = none ∧ s.takeContent d role kind payload = s.protocolError d) ∨
    ∃ c, contentOf kind payload = some c ∧
      ((c.allowed role = true ∧ s.takeContent d role kind payload = s.passFrame d role c) ∨
       (c.allowed role = false ∧ s.takeContent d role kind payload =
          (s.protocolError d).answer d (.refuse .wrongRole))) := by
  unfold State.takeContent
  cases h : contentOf kind payload with
  | none => exact .inl ⟨rfl, rfl⟩
  | some c =>
    refine .inr ⟨c, rfl, ?_⟩
    cases ha : c.allowed role
    · exact .inr ⟨rfl, by simp [ha]⟩
    · exact .inl ⟨rfl, by simp [ha]⟩

theorem State.takeContent_sameAside (s : State) (d : StationIx) (role : Role) (kind : Byte)
    (payload : List Byte) : s.sameAside (s.takeContent d role kind payload) := by
  rcases State.takeContent_cases s d role kind payload with ⟨-, h⟩ | ⟨c, -, ⟨-, h⟩ | ⟨-, h⟩⟩
  · rw [h]; exact State.protocolError_sameAside _ _
  · rw [h]; exact State.passFrame_sameAside _ _ _ _
  · rw [h]; exact (State.protocolError_sameAside _ _).trans (State.answer_sameAside _ _ _)

/-- R157: after a taken frame the turn makes an extra exchange or ends. -/
theorem State.afterFrame_sameAside (s : State) (t : Turn) (more : Bool) :
    s.sameAside (s.afterFrame t more) := by
  unfold State.afterFrame
  split
  · exact State.sameAside_with _ _ _
  · exact State.sameAside_with _ _ _

theorem State.exchangeSucceeds_sameAside (s : State) (d : StationIx) (st : Station) :
    s.sameAside (s.exchangeSucceeds d st) := by
  simp only [State.exchangeSucceeds]
  split <;> exact State.sameAside_with _ _ _

theorem State.takeReply_sameAside (s : State) (t : Turn) (st : Station) (kind q : Byte)
    (payload : List Byte) : s.sameAside (s.takeReply t st kind q payload) := by
  have h1 := State.exchangeSucceeds_sameAside s t.station st
  have h2 := h1.trans (State.checkSequence_sameAside _ t.station st.role q
    (st.heard.sequenceFinding q))
  simp only [State.takeReply]
  split
  · exact (h2.trans (State.takeContent_sameAside _ _ _ _ _)).trans
      (State.afterFrame_sameAside _ _ _)
  · exact h2.trans (State.afterFrame_sameAside _ _ _)

/-- R152, R156, R157: all that an intact frame can do. -/
theorem State.takeFrame_cases (s : State) (kind a q : Byte) (payload : List Byte) :
    (s.link.outstanding? = none ∧ s.takeFrame kind a q payload = s.endReception) ∨
    (s.takeFrame kind a q payload = s.discardFrame) ∨
    ∃ t st, s.link.outstanding? = some t ∧ s.link.stations[t.station] = some st ∧
      a.toNat = t.station.val + 1 ∧ payload.length ≤ Config.payloadLimit ∧
      s.takeFrame kind a q payload = s.endReception.takeReply t st kind q payload := by
  unfold State.takeFrame
  cases h : s.link.outstanding? with
  | none => exact .inl ⟨rfl, rfl⟩
  | some t =>
    dsimp only
    split
    · next ha =>
      cases hs : s.link.stations[t.station] with
      | none => exact .inr (.inl rfl)
      | some st => exact .inr (.inr ⟨t, st, rfl, hs, ha.1, ha.2, rfl⟩)
    · exact .inr (.inl rfl)

theorem State.takeFrame_sameAside (s : State) (kind a q : Byte) (payload : List Byte) :
    s.sameAside (s.takeFrame kind a q payload) := by
  rcases State.takeFrame_cases s kind a q payload with ⟨-, h⟩ | h | ⟨t, st, -, -, -, -, h⟩
  · rw [h]; exact State.sameAside_with _ _ _
  · rw [h]; exact State.discardFrame_sameAside s
  · rw [h]; exact (State.sameAside_with _ _ _).trans (State.takeReply_sameAside _ _ _ _ _ _)

/-- R154, R155: sending the next poll moves the link alone. -/
theorem State.nextPoll_cases (s : State) :
    s.nextPoll = s ∨ ∃ k t, s.nextPoll = { s with link := k }.sendPoll t := by
  unfold State.nextPoll
  split
  · next t _ =>
    split
    · exact .inr ⟨s.link, t, rfl⟩
    · exact .inl rfl
  · split
    · exact .inl rfl
    · exact .inr ⟨_, _, rfl⟩

/-- R151: while LKDE is high the part is in READY and a poll is being sent. -/
theorem State.lkde_cases (s : State) (h : s.lkde = true) :
    s.partState = .ready ∧ ∃ t, s.link.turn = some t ∧ t.phase = .sending := by
  simpa [State.lkde, Option.any_eq_true] using h

/-- R158: all that a STATION_PROBE does to the link: nothing to an ACTIVE station, and else probe
due, the station kept back from the round in progress where it waits for the next one. -/
theorem Link.probe_cases (k : Link) (d : StationIx) (st : Station) :
    (st.isolated = false ∧ k.probe d st = k) ∨
    ∃ k', (k' = k ∨ (st.level = .one ∧ st.probeDue = false ∧ k' = k.keepBack d)) ∧
      k.probe d st = k'.modifyStation d fun st => { st with probeDue := true } := by
  unfold Link.probe Station.probeWaits
  cases st.isolated
  · exact .inl ⟨rfl, rfl⟩
  · refine .inr ⟨_, ?_, rfl⟩
    split
    · next h => exact .inr (by simpa [and_comm] using h)
    · exact .inl rfl


end Sys2Proof.Machine
end

