-- ==== Sys2Proof/Laws/Memory.lean ====
section
/-! SUPPORT. The EEPROM: a write is read back, leaves every other byte, and keeps the canonical
form; what the store operations do to it. -/

namespace Sys2Proof.Machine

theorem Memory.read_nil (a : Nat) : Memory.read [] a = Config.eepromBlank := rfl

/-- A byte below every listed address reads blank. -/
theorem Memory.read_below (m : List Host.Cell) (a : Nat) (h : ∀ d ∈ m, a < d.1) :
    Memory.read m a = Config.eepromBlank := by
  induction m with
  | nil => rfl
  | cons c m ih =>
    have hc : c.1 ≠ a := by have := h c (by simp); omega
    simp only [Memory.read, if_neg hc]
    exact ih fun d hd => h d (by simp [hd])

theorem Memory.wf_cons (c : Host.Cell) (m : List Host.Cell) :
    Memory.wf (c :: m) = true ↔
      c.2 ≠ Config.eepromBlank ∧ (∀ d ∈ m, c.1 < d.1) ∧ Memory.wf m = true := by
  simp [Memory.wf, and_assoc]

/-- A written byte reads back. -/
theorem Memory.read_write_same (m : List Host.Cell) (a : Nat) (b : Byte)
    (h : Memory.wf m = true) : Memory.read (Memory.write m a b) a = b := by
  induction m with
  | nil =>
    simp only [Memory.write]
    split
    · next hb => rw [Memory.read_nil, hb]
    · simp [Memory.read]
  | cons c m ih =>
    obtain ⟨-, hm, hw⟩ := (Memory.wf_cons c m).1 h
    simp only [Memory.write]
    split
    · next hac =>
      split
      · next hb =>
        rw [hb]
        exact Memory.read_below _ _ fun d hd => by
          rcases List.mem_cons.1 hd with rfl | hd
          · exact hac
          · have := hm d hd; omega
      · simp [Memory.read]
    · split
      · next hac =>
        split
        · next hb => rw [hb]; exact Memory.read_below _ _ fun d hd => by rw [hac]; exact hm d hd
        · simp [Memory.read]
      · next hlt hne =>
        have hca : c.1 ≠ a := fun e => hne e.symm
        simp only [Memory.read, if_neg hca]
        exact ih hw

/-- A write leaves every other byte. -/
theorem Memory.read_write_other (m : List Host.Cell) (a x : Nat) (b : Byte) (hx : x ≠ a) :
    Memory.read (Memory.write m a b) x = Memory.read m x := by
  have hax : ¬ a = x := fun e => hx e.symm
  induction m with
  | nil =>
    simp only [Memory.write]
    split
    · rfl
    · simp [Memory.read, hax]
  | cons c m ih =>
    simp only [Memory.write]
    split
    · split
      · rfl
      · simp [Memory.read, hax]
    · split
      · next hac =>
        have hcx : ¬ c.1 = x := by rw [← hac]; exact hax
        split <;> simp [Memory.read, hax, hcx]
      · simp only [Memory.read]
        split
        · rfl
        · exact ih

/-- The cells of a written list are old cells or the written one. -/
theorem Memory.mem_write (m : List Host.Cell) (a : Nat) (b : Byte) (d : Host.Cell)
    (h : d ∈ Memory.write m a b) : d ∈ m ∨ d = (a, b) := by
  induction m with
  | nil =>
    simp only [Memory.write] at h
    split at h
    · simp at h
    · exact .inr (by simpa using h)
  | cons c m ih =>
    simp only [Memory.write] at h
    split at h
    · split at h
      · exact .inl h
      · rcases List.mem_cons.1 h with rfl | h
        · exact .inr rfl
        · exact .inl h
    · split at h
      · split at h
        · exact .inl (by simp [h])
        · rcases List.mem_cons.1 h with rfl | h
          · exact .inr rfl
          · exact .inl (by simp [h])
      · rcases List.mem_cons.1 h with rfl | h
        · exact .inl (by simp)
        · rcases ih h with h | h
          · exact .inl (by simp [h])
          · exact .inr h

/-- A write keeps the canonical form. -/
theorem Memory.write_wf (m : List Host.Cell) (a : Nat) (b : Byte) (h : Memory.wf m = true) :
    Memory.wf (Memory.write m a b) = true := by
  induction m with
  | nil =>
    simp only [Memory.write]
    split
    · rfl
    · next hb => exact (Memory.wf_cons _ _).2 ⟨hb, by simp, rfl⟩
  | cons c m ih =>
    obtain ⟨hc, hm, hw⟩ := (Memory.wf_cons c m).1 h
    simp only [Memory.write]
    split
    · next hac =>
      split
      · exact h
      · next hb =>
        refine (Memory.wf_cons _ _).2 ⟨hb, fun d hd => ?_, h⟩
        rcases List.mem_cons.1 hd with rfl | hd
        · exact hac
        · have := hm d hd; show a < d.1; omega
    · split
      · next hac =>
        split
        · exact hw
        · next hb =>
          refine (Memory.wf_cons _ _).2 ⟨hb, fun d hd => ?_, hw⟩
          show a < d.1
          rw [hac]; exact hm d hd
      · next hlt hne =>
        refine (Memory.wf_cons _ _).2 ⟨hc, fun d hd => ?_, ih hw⟩
        rcases Memory.mem_write m a b d hd with hd | rfl
        · exact hm d hd
        · show c.1 < a; omega

/-- What the EEPROM holds after a transfer that has ended. -/
theorem State.storeWritten_cases (s : State) (r : StoreRequest) (acknowledged : Bool) :
    s.storeWritten r acknowledged = s.eeprom ∨
    ∃ b, r.data = some b ∧ acknowledged = true ∧
      s.storeWritten r acknowledged = Memory.write s.eeprom r.address b := by
  unfold State.storeWritten
  cases hd : r.data with
  | none => exact .inl rfl
  | some b =>
    cases acknowledged
    · exact .inl rfl
    · exact .inr ⟨b, rfl, rfl, rfl⟩

/-- What an aborted store request leaves in the EEPROM: all of it, or the byte of a write in
flight written. -/
theorem State.abortStore_eeprom_cases (s : State) :
    s.abortStore.eeprom = s.eeprom ∨
    ∃ r b, s.port.store = some r ∧ r.data = some b ∧
      s.abortStore.eeprom = Memory.write s.eeprom r.address b := by
  unfold State.abortStore
  cases hs : s.port.store with
  | none => exact .inl rfl
  | some r =>
    cases hd : r.data with
    | none => simp [hd]
    | some b =>
      simp only [hd]
      split
      · exact .inr ⟨r, b, rfl, hd, rfl⟩
      · exact .inl rfl

end Sys2Proof.Machine
end

