-- ==== Sys2Proof/Laws/PerInstr.lean ====
section
/-! SUPPORT. The statements made of each row of the table. -/

namespace Sys2Proof.Laws

/-- Table 9.1 and R163: a row that HOLD refuses is a host command, and no host command is a row of
the link. -/
def RowKinds.Statement (i : Instr) : Prop :=
  (i.changesRecords = true → i.transaction?.isSome = true) ∧
  (i.onLink = true → i.transaction? = none)

theorem RowKinds.lotOpen (args : List Byte) :
    RowKinds.Statement (.lotOpen args) :=
  ⟨(fun _ => rfl), fun h => nomatch h⟩

theorem RowKinds.lotAmend (args : List Byte) :
    RowKinds.Statement (.lotAmend args) :=
  ⟨(fun _ => rfl), fun h => nomatch h⟩

theorem RowKinds.lotClose (args : List Byte) :
    RowKinds.Statement (.lotClose args) :=
  ⟨(fun _ => rfl), fun h => nomatch h⟩

theorem RowKinds.lotRetire (args : List Byte) :
    RowKinds.Statement (.lotRetire args) :=
  ⟨(fun _ => rfl), fun h => nomatch h⟩

theorem RowKinds.lineAssign (args : List Byte) :
    RowKinds.Statement (.lineAssign args) :=
  ⟨(fun _ => rfl), fun h => nomatch h⟩

theorem RowKinds.lineRelease (args : List Byte) :
    RowKinds.Statement (.lineRelease args) :=
  ⟨(fun _ => rfl), fun h => nomatch h⟩

theorem RowKinds.lineWheels (args : List Byte) :
    RowKinds.Statement (.lineWheels args) :=
  ⟨(fun _ => rfl), fun h => nomatch h⟩

theorem RowKinds.laneSet (args : List Byte) :
    RowKinds.Statement (.laneSet args) :=
  ⟨(fun _ => rfl), fun h => nomatch h⟩

theorem RowKinds.coilMark (args : List Byte) :
    RowKinds.Statement (.coilMark args) :=
  ⟨(fun _ => rfl), fun h => nomatch h⟩

theorem RowKinds.coilSeal (args : List Byte) :
    RowKinds.Statement (.coilSeal args) :=
  ⟨(fun _ => rfl), fun h => nomatch h⟩

theorem RowKinds.coilRetire (args : List Byte) :
    RowKinds.Statement (.coilRetire args) :=
  ⟨(fun _ => rfl), fun h => nomatch h⟩

theorem RowKinds.readRecord (args : List Byte) :
    RowKinds.Statement (.readRecord args) :=
  ⟨(fun h => nomatch h), fun h => nomatch h⟩

theorem RowKinds.listKeys (args : List Byte) :
    RowKinds.Statement (.listKeys args) :=
  ⟨(fun h => nomatch h), fun h => nomatch h⟩

theorem RowKinds.noticeRead (args : List Byte) :
    RowKinds.Statement (.noticeRead args) :=
  ⟨(fun h => nomatch h), fun h => nomatch h⟩

theorem RowKinds.noticeClear (args : List Byte) :
    RowKinds.Statement (.noticeClear args) :=
  ⟨(fun h => nomatch h), fun h => nomatch h⟩

theorem RowKinds.storeRead (args : List Byte) :
    RowKinds.Statement (.storeRead args) :=
  ⟨(fun h => nomatch h), fun h => nomatch h⟩

theorem RowKinds.storeWrite (args : List Byte) :
    RowKinds.Statement (.storeWrite args) :=
  ⟨(fun h => nomatch h), fun h => nomatch h⟩

theorem RowKinds.stationProbe (args : List Byte) :
    RowKinds.Statement (.stationProbe args) :=
  ⟨(fun h => nomatch h), fun h => nomatch h⟩

theorem RowKinds.restartWarm (args : List Byte) :
    RowKinds.Statement (.restartWarm args) :=
  ⟨(fun h => nomatch h), fun h => nomatch h⟩

theorem RowKinds.restartCold (args : List Byte) :
    RowKinds.Statement (.restartCold args) :=
  ⟨(fun h => nomatch h), fun h => nomatch h⟩

theorem RowKinds.result (args : List Byte) :
    RowKinds.Statement (.result args) :=
  ⟨(fun h => nomatch h), fun h => nomatch h⟩

theorem RowKinds.unknownCommandCode (code : Byte) (args : List Byte) :
    RowKinds.Statement (.unknownCommandCode code args) :=
  ⟨(fun h => nomatch h), fun h => nomatch h⟩

theorem RowKinds.transactionStart :
    RowKinds.Statement (.transactionStart) :=
  ⟨(fun h => nomatch h), fun h => nomatch h⟩

theorem RowKinds.storeTransferDone (acknowledged : Bool) :
    RowKinds.Statement (.storeTransferDone acknowledged) :=
  ⟨(fun h => nomatch h), fun h => nomatch h⟩

theorem RowKinds.powerOn :
    RowKinds.Statement (.powerOn) :=
  ⟨(fun h => nomatch h), fun h => nomatch h⟩

theorem RowKinds.resetnAssert :
    RowKinds.Statement (.resetnAssert) :=
  ⟨(fun h => nomatch h), fun h => nomatch h⟩

theorem RowKinds.loadComplete (acknowledged : Bool) :
    RowKinds.Statement (.loadComplete acknowledged) :=
  ⟨(fun h => nomatch h), fun h => nomatch h⟩

theorem RowKinds.supplyOkFall :
    RowKinds.Statement (.supplyOkFall) :=
  ⟨(fun h => nomatch h), fun h => nomatch h⟩

theorem RowKinds.supplyOkRise :
    RowKinds.Statement (.supplyOkRise) :=
  ⟨(fun h => nomatch h), fun h => nomatch h⟩

theorem RowKinds.resumeTimerExpiry :
    RowKinds.Statement (.resumeTimerExpiry) :=
  ⟨(fun h => nomatch h), fun h => nomatch h⟩

theorem RowKinds.roundStart :
    RowKinds.Statement (.roundStart) :=
  ⟨(fun h => nomatch h), fun _ => rfl⟩

theorem RowKinds.pollSend :
    RowKinds.Statement (.pollSend) :=
  ⟨(fun h => nomatch h), fun _ => rfl⟩

theorem RowKinds.pollTransmitDone :
    RowKinds.Statement (.pollTransmitDone) :=
  ⟨(fun h => nomatch h), fun _ => rfl⟩

theorem RowKinds.replyTimeout :
    RowKinds.Statement (.replyTimeout) :=
  ⟨(fun h => nomatch h), fun _ => rfl⟩

theorem RowKinds.characterTimeout :
    RowKinds.Statement (.characterTimeout) :=
  ⟨(fun h => nomatch h), fun _ => rfl⟩

theorem RowKinds.frameNotIntact (cause : NotIntact) :
    RowKinds.Statement (.frameNotIntact cause) :=
  ⟨(fun h => nomatch h), fun _ => rfl⟩

theorem RowKinds.frameWrongAddress :
    RowKinds.Statement (.frameWrongAddress) :=
  ⟨(fun h => nomatch h), fun _ => rfl⟩

theorem RowKinds.idle (address sequence : Byte) (payload : List Byte) :
    RowKinds.Statement (.idle address sequence payload) :=
  ⟨(fun h => nomatch h), fun _ => rfl⟩

theorem RowKinds.tally (address sequence : Byte) (payload : List Byte) :
    RowKinds.Statement (.tally address sequence payload) :=
  ⟨(fun h => nomatch h), fun _ => rfl⟩

theorem RowKinds.mark (address sequence : Byte) (payload : List Byte) :
    RowKinds.Statement (.mark address sequence payload) :=
  ⟨(fun h => nomatch h), fun _ => rfl⟩

theorem RowKinds.cutDone (address sequence : Byte) (payload : List Byte) :
    RowKinds.Statement (.cutDone address sequence payload) :=
  ⟨(fun h => nomatch h), fun _ => rfl⟩

theorem RowKinds.askSpec (address sequence : Byte) (payload : List Byte) :
    RowKinds.Statement (.askSpec address sequence payload) :=
  ⟨(fun h => nomatch h), fun _ => rfl⟩

theorem RowKinds.askNext (address sequence : Byte) (payload : List Byte) :
    RowKinds.Statement (.askNext address sequence payload) :=
  ⟨(fun h => nomatch h), fun _ => rfl⟩

theorem RowKinds.askCoil (address sequence : Byte) (payload : List Byte) :
    RowKinds.Statement (.askCoil address sequence payload) :=
  ⟨(fun h => nomatch h), fun _ => rfl⟩

theorem RowKinds.taken (address sequence : Byte) (payload : List Byte) :
    RowKinds.Statement (.taken address sequence payload) :=
  ⟨(fun h => nomatch h), fun _ => rfl⟩

theorem RowKinds.sealed (address sequence : Byte) (payload : List Byte) :
    RowKinds.Statement (.sealed address sequence payload) :=
  ⟨(fun h => nomatch h), fun _ => rfl⟩

theorem RowKinds.invalidFrameKind (kind address sequence : Byte) (payload : List Byte) :
    RowKinds.Statement (.invalidFrameKind kind address sequence payload) :=
  ⟨(fun h => nomatch h), fun _ => rfl⟩

theorem RowKinds.characterReceived (character : Byte) :
    RowKinds.Statement (.characterReceived character) :=
  ⟨(fun h => nomatch h), fun _ => rfl⟩

end Sys2Proof.Laws
end

