-- ==== Sys2Proof/Laws/Port.lean ====
section
/-! SUPPORT. What the shared operations of the Host Port can do. -/

namespace Sys2Proof.Machine

/-- R162, R163: all that a transaction of a command of the table can do: nothing but its release, a
refusal by a common check, or the command's own part. -/
theorem State.hostCommand_cases (s : State) (code : Byte) (count : Nat) (rec : Bool)
    (args : List Byte) (act : State → State) :
    ((s.transactionDiscarded = true ∨ s.partState = .loading) ∧
      s.hostCommand code count rec args act = s.release code args) ∨
    (s.takesCommands ∧ args.length ≠ count ∧
      s.hostCommand code count rec args act = s.answered code args (.plain .malformed)) ∨
    (s.takesCommands ∧ args.length = count ∧ rec = true ∧ s.partState = .hold ∧
      s.hostCommand code count rec args act = s.answered code args (.plain .held)) ∨
    (s.takesCommands ∧ args.length = count ∧ (rec = true → s.partState = .ready) ∧
      s.hostCommand code count rec args act = act (s.release code args)) := by
  unfold State.hostCommand State.transact State.commonChecks
  by_cases hd : s.transactionDiscarded = true ∨ (s.release code args).partState = .loading
  · exact .inl ⟨hd, by simp only [if_pos hd]⟩
  · have ht : s.takesCommands := by
      refine ⟨fun e => hd (.inr e), ?_⟩
      cases h : s.transactionDiscarded
      · rfl
      · exact absurd (.inl h) hd
    simp only [if_neg hd]
    by_cases hl : args.length = count
    · by_cases hh : rec = true ∧ (s.release code args).partState = .hold
      · refine .inr (.inr (.inl ⟨ht, hl, hh.1, hh.2, ?_⟩))
        rw [if_neg (by simpa using hl), if_pos hh]
        rfl
      · refine .inr (.inr (.inr ⟨ht, hl, fun hr => ?_, ?_⟩))
        · have h1 := ht.1
          have h2 : ¬ s.partState = .hold := fun e => hh ⟨hr, e⟩
          cases hp : s.partState <;> simp_all
        · rw [if_neg (by simpa using hl), if_neg hh]
    · refine .inr (.inl ⟨ht, hl, ?_⟩)
      rw [if_pos (by simpa using hl)]
      rfl

/-- R162, R163: a command that is taken and passes the common checks does its own part. -/
theorem State.hostCommand_act (s : State) (code : Byte) (count : Nat) (rec : Bool)
    (args : List Byte) (act : State → State) (ht : s.takesCommands) (hl : args.length = count)
    (hr : rec = true → s.partState = .ready) :
    s.hostCommand code count rec args act = act (s.release code args) := by
  rcases State.hostCommand_cases s code count rec args act with h | h | h | h
  · rcases h.1 with h1 | h1
    · rw [ht.2] at h1; cases h1
    · exact absurd h1 ht.1
  · exact absurd hl h.2.1
  · have := hr h.2.2.1
    rw [h.2.2.2.1] at this
    cases this
  · exact h.2.2.2

/-- R167: all that a store request can do at its start. -/
theorem State.startTransfer_cases (s : State) (r : StoreRequest) :
    (∃ q, s.port.store = some q ∧ s.startTransfer r = s.respond .busy) ∨
    (s.port.store = none ∧ s.startTransfer r =
      { s with
        port := { s.port with
          result := .plain .busy, store := some r, storeOutcomeWanted := true } }) := by
  unfold State.startTransfer
  cases h : s.port.store with
  | none => exact .inr ⟨rfl, by rfl⟩
  | some q => exact .inl ⟨q, rfl, by rfl⟩

/-- R167: an aborted store request leaves the state IDLE and everything but the port, the EEPROM
and the model's free value counter. -/
theorem State.abortStore_frame (s : State) :
    s.abortStore.port.store = none ∧ s.abortStore.port.result = s.port.result ∧
    s.abortStore.works = s.works ∧ s.abortStore.link = s.link ∧
    s.abortStore.settings = s.settings ∧ s.abortStore.partState = s.partState ∧
    s.abortStore.pending = s.pending ∧ s.abortStore.timeBase = s.timeBase ∧
    s.abortStore.resumeTimer = s.resumeTimer ∧ s.abortStore.supplyOk = s.supplyOk := by
  unfold State.abortStore
  cases h : s.port.store with
  | none => simp [h]
  | some r => cases hd : r.data <;> simp [hd]

/-- R162: a release ends the transaction, so HSO is high impedance after it. -/
@[simp] theorem State.release_hsoByte? (s : State) (code c : Byte) (args : List Byte) (n : Nat) :
    (s.release code args).hsoByte? c n = none := rfl

/-- R162: the first byte of every transaction is the latched status. -/
theorem State.hsoByte?_zero (s : State) (t : Transaction) (code : Byte)
    (h : s.port.transaction = some t) : s.hsoByte? code 0 = some (t.latched.readByte 0) := by
  simp [State.hsoByte?, h]


end Sys2Proof.Machine
end

