-- ==== Sys2Proof/Laws/Tables.lean ====
section
/-! SUPPORT. The tables: what a mapped table and a changed record hold, and which entry is the
lowest free one. -/

namespace Sys2Proof.Machine

theorem mapTable_get {α β : Type} {n : Nat} (f : α → β) (v : Vector α n) (i : Nat) (h : i < n) :
    (mapTable f v)[i] = f v[i] := by
  simp [mapTable]

theorem tableOf_get {α : Type} {n : Nat} (f : Fin n → α) (i : Fin n) : (tableOf f)[i] = f i := by
  simp [tableOf]

theorem mem_inUse {α : Type} {n : Nat} (v : Vector (Option α) n) (x : α) :
    x ∈ inUse v ↔ ∃ i : Fin n, v[i] = some x := by
  simp only [inUse, List.mem_filterMap, id]
  constructor
  · rintro ⟨a, ha, rfl⟩
    obtain ⟨i, hi, e⟩ := List.getElem_of_mem ha
    refine ⟨⟨i, by simpa using hi⟩, ?_⟩
    simpa using e
  · rintro ⟨i, e⟩
    exact ⟨some x, by rw [← e]; simp, rfl⟩

/-- R1: the lowest free entry is free, and every lower entry is in use. -/
theorem lowestFree_spec {α : Type} {n : Nat} (v : Vector (Option α) n) (e : Fin n)
    (h : lowestFree v = some e) : v[e] = none ∧ ∀ j < e, v[j].isSome = true := by
  unfold lowestFree at h
  rw [List.find?_eq_some_iff_append] at h
  obtain ⟨he, as, bs, hab, has⟩ := h
  refine ⟨by simpa using he, fun j hj => ?_⟩
  have hmem : j ∈ as := by
    have hsorted := List.pairwise_lt_finRange n
    rw [hab] at hsorted
    have hj' : j ∈ as ++ e :: bs := by rw [← hab]; exact List.mem_finRange j
    rcases List.mem_append.1 hj' with h1 | h1
    · exact h1
    · rcases List.mem_cons.1 h1 with rfl | h2
      · exact absurd hj (lt_irrefl _)
      · have := (List.pairwise_cons.1 (List.pairwise_append.1 hsorted).2.1).1 j h2
        exact absurd (lt_trans hj this) (lt_irrefl _)
  have := has j hmem
  cases hv : v[j] with
  | none => simp [hv] at this
  | some x => rfl

/-- R20: no free entry means that every entry is in use. -/
theorem lowestFree_none {α : Type} {n : Nat} (v : Vector (Option α) n)
    (h : lowestFree v = none) (j : Fin n) : v[j].isSome = true := by
  unfold lowestFree at h
  have := List.find?_eq_none.1 h j (List.mem_finRange j)
  cases hv : v[j] with
  | none => simp [hv] at this
  | some x => rfl

/-! ## Line records -/

@[simp] theorem Works.line_modifyLine_self (w : Works) (i : LineIx) (f : Line → Line) :
    (w.modifyLine i f).line i = f (w.line i) := by
  simp [Works.line, Works.modifyLine]

theorem Works.line_modifyLine_other (w : Works) (i j : LineIx) (f : Line → Line) (h : j ≠ i) :
    (w.modifyLine i f).line j = w.line j := by
  have : i.val ≠ j.val := fun e => h (Fin.ext e.symm)
  simp [Works.line, Works.modifyLine, this]

/-- A changed line record, read at any index. -/
theorem Works.line_modifyLine (w : Works) (i j : LineIx) (f : Line → Line) :
    (w.modifyLine i f).line j = if j = i then f (w.line i) else w.line j := by
  by_cases h : j = i
  · subst h; simp
  · rw [if_neg h, Works.line_modifyLine_other w i j f h]

/-! ## Lot and coil records -/

theorem mem_lots_modifyLot (w : Works) (n : Nat) (f : Lot → Lot) (l : Lot) :
    l ∈ inUse (w.modifyLot n f).lots ↔
      ∃ m ∈ inUse w.lots, l = if m.number = n then f m else m := by
  simp only [mem_inUse, Works.modifyLot]
  constructor
  · rintro ⟨i, h⟩
    rw [Fin.getElem_fin, mapTable_get] at h
    cases hv : w.lots[i.val] with
    | none => simp [hv] at h
    | some m => exact ⟨m, ⟨i, hv⟩, by simpa [hv] using h.symm⟩
  · rintro ⟨m, ⟨i, hi⟩, rfl⟩
    refine ⟨i, ?_⟩
    rw [Fin.getElem_fin] at hi ⊢
    rw [mapTable_get, hi]
    rfl

theorem mem_coils_modifyCoil (w : Works) (k : CoilKey) (f : Coil → Coil) (c : Coil) :
    c ∈ inUse (w.modifyCoil k f).coils ↔
      ∃ b ∈ inUse w.coils, c = if b.key = k then f b else b := by
  simp only [mem_inUse, Works.modifyCoil]
  constructor
  · rintro ⟨i, h⟩
    rw [Fin.getElem_fin, mapTable_get] at h
    cases hv : w.coils[i.val] with
    | none => simp [hv] at h
    | some m => exact ⟨m, ⟨i, hv⟩, by simpa [hv] using h.symm⟩
  · rintro ⟨m, ⟨i, hi⟩, rfl⟩
    refine ⟨i, ?_⟩
    rw [Fin.getElem_fin] at hi ⊢
    rw [mapTable_get, hi]
    rfl

/-- The record of a key is in use and carries the key. -/
theorem Works.coil?_some (w : Works) (k : CoilKey) (c : Coil) (h : w.coil? k = some c) :
    c ∈ inUse w.coils ∧ c.key = k := by
  refine ⟨List.mem_of_find?_eq_some h, ?_⟩
  simpa using List.find?_some h

theorem Works.lot?_some (w : Works) (n : Nat) (l : Lot) (h : w.lot? n = some l) :
    l ∈ inUse w.lots ∧ l.number = n := by
  refine ⟨List.mem_of_find?_eq_some h, ?_⟩
  simpa using List.find?_some h

end Sys2Proof.Machine
end

