-- ==== Sys2Proof/Laws/Records.lean ====
section
/-! SUPPORT. What the shared operations of the Record Store, the Cut Controller and the Packer Queue
Controller can do. -/

namespace Sys2Proof.Machine

/-! ## Opening a coil (R20) -/

/-- R20: a coil that opens takes the lowest free entry and the lot's next sequence. -/
theorem Works.openCoil_ok (w w' : Works) (i : LineIx) (pos : Nat) (h : w.openCoil i pos = .ok w') :
    ∃ lot e, (w.line i).lot.bind w.lot? = some lot ∧ lot.nextSequence < Config.sequenceExhausted ∧
      lowestFree w.coils = some e ∧
      w' = (({ w with
          coils := w.coils.set e
            (some (Coil.opening ⟨lot.number, lot.nextSequence⟩ i (w.line i) pos)) }).modifyLot
          lot.number fun t => { t with nextSequence := t.nextSequence + 1 }).modifyLine i
        fun l => { l with coil := some ⟨lot.number, lot.nextSequence⟩ } := by
  unfold Works.openCoil at h
  split at h
  · cases h
  · next lot hl =>
    split at h
    · cases h
    · next hs =>
      split at h
      · cases h
      · next e he =>
        injection h with h
        exact ⟨lot, e, hl, by omega, he, h.symm⟩

/-- R20: a request is answered NO_ENTRY only when every entry is in use. -/
theorem Works.openCoil_noEntry (w : Works) (i : LineIx) (pos : Nat)
    (h : w.openCoil i pos = .error .noEntry) : lowestFree w.coils = none := by
  unfold Works.openCoil at h
  split at h
  · cases h
  · split at h
    · cases h
    · split at h
      · next he => exact he
      · cases h

/-- R20: what an opened coil leaves. -/
theorem Works.openCoil_frame (w w' : Works) (i : LineIx) (pos : Nat)
    (h : w.openCoil i pos = .ok w') :
    w'.waitList = w.waitList ∧ w'.lanes = w.lanes ∧ w'.queues = w.queues ∧ w'.held = w.held ∧
    w'.notices = w.notices ∧ (∀ j, j ≠ i → w'.line j = w.line j) ∧
    ∃ k, w'.line i = { w.line i with coil := some k } := by
  obtain ⟨lot, e, -, -, -, rfl⟩ := Works.openCoil_ok w w' i pos h
  refine ⟨rfl, rfl, rfl, rfl, rfl, fun j hj => ?_, ⟨⟨lot.number, lot.nextSequence⟩, ?_⟩⟩
  · rw [Works.line_modifyLine_other _ _ _ _ hj]; rfl
  · rw [Works.line_modifyLine_self]; rfl

/-! ## The planned cut (R118 to R121) -/

/-- R121: the overlength test sets the halt and OVERLENGTH, or does nothing. -/
theorem Works.overlengthTest_cases (w : Works) (i : LineIx) :
    w.overlengthTest i = w ∨
    ∃ c, w.currentCoil? i = some c ∧ (w.line i).cut = .held ∧
      w.overlengthTest i =
        (w.modifyLine i fun l => { l with halted := true }).gainReason c.key .overlength := by
  unfold Works.overlengthTest
  dsimp only
  split
  · exact .inl rfl
  · next c hc =>
    split
    · next h => exact .inr ⟨c, hc, h.1, rfl⟩
    · exact .inl rfl

/-- R119: a request orders the cut, without a place or with a free one, or is HELD. -/
theorem Works.requestCut_cases (w : Works) (i : LineIx) (start : Nat) :
    (w.lanes[i] = none ∧ w.requestCut i start = w.orderCut i none start) ∨
    ∃ p, w.lanes[i] = some p ∧
      ((w.placeFree p = true ∧ w.requestCut i start = w.orderCut i (some p) start) ∨
       (w.placeFree p = false ∧ w.requestCut i start = w.holdCut i p)) := by
  unfold Works.requestCut
  cases h : w.lanes[i] with
  | none => exact .inl ⟨rfl, rfl⟩
  | some p =>
    refine .inr ⟨p, rfl, ?_⟩
    cases hp : w.placeFree p
    · exact .inr ⟨rfl, by simp [hp]⟩
    · exact .inl ⟨rfl, by simp [hp]⟩

/-- R118: the planned-cut test tests a HELD cut, asks for a place, or does nothing. -/
theorem Works.plannedCutTest_cases (w : Works) (i : LineIx) :
    w.plannedCutTest i = w ∨
    (∃ c, w.currentCoil? i = some c ∧ (w.line i).state = .running ∧
      (((w.line i).cut = .held ∧ w.plannedCutTest i = w.overlengthTest i) ∨
       ((w.line i).cut = .noCut ∧ w.plannedCutTest i = w.requestCut i c.start))) := by
  unfold Works.plannedCutTest
  dsimp only
  split
  · next c hs hc =>
    split
    · exact .inl rfl
    · next hcut => exact .inr ⟨c, hc, hs, .inl ⟨hcut, rfl⟩⟩
    · next hcut =>
      split
      · exact .inr ⟨c, hc, hs, .inr ⟨hcut, rfl⟩⟩
      · exact .inl rfl
  · exact .inl rfl

/-- What the planned-cut test leaves. -/
theorem Works.plannedCutTest_frame (w : Works) (i : LineIx) :
    (w.plannedCutTest i).lots = w.lots ∧ (w.plannedCutTest i).waitList = w.waitList ∧
    (w.plannedCutTest i).lanes = w.lanes ∧ (w.plannedCutTest i).queues = w.queues ∧
    (w.plannedCutTest i).notices = w.notices := by
  have hover : ∀ v : Works, (v.overlengthTest i).lots = v.lots ∧
      (v.overlengthTest i).waitList = v.waitList ∧ (v.overlengthTest i).lanes = v.lanes ∧
      (v.overlengthTest i).queues = v.queues ∧ (v.overlengthTest i).notices = v.notices := by
    intro v
    rcases Works.overlengthTest_cases v i with h | ⟨c, -, -, h⟩ <;> rw [h] <;>
      exact ⟨rfl, rfl, rfl, rfl, rfl⟩
  rcases Works.plannedCutTest_cases w i with h | ⟨c, -, -, ⟨-, h⟩ | ⟨-, h⟩⟩
  · rw [h]; exact ⟨rfl, rfl, rfl, rfl, rfl⟩
  · rw [h]; exact hover w
  · rw [h]
    rcases Works.requestCut_cases w i c.start with ⟨-, k⟩ | ⟨p, -, ⟨-, k⟩ | ⟨-, k⟩⟩
    · rw [k]; exact ⟨rfl, rfl, rfl, rfl, rfl⟩
    · rw [k]; exact ⟨rfl, rfl, rfl, rfl, rfl⟩
    · rw [k]; exact hover _

/-! ## Places (R125, R141) -/

/-- R141: a freed place is granted to the head of the held list, or stays free. -/
theorem Works.placeFreed_cases (w : Works) (p : PackerIx) :
    (w.held[p] = [] ∧ w.placeFreed p = w) ∨
    ∃ i rest, w.held[p] = i :: rest ∧
      w.placeFreed p = { w with held := w.held.set p rest }.grant i p := by
  unfold Works.placeFreed
  cases h : w.held[p] with
  | nil => exact .inl ⟨rfl, rfl⟩
  | cons i rest => exact .inr ⟨i, rest, rfl, rfl⟩

/-- R125: an ended coil takes its reservation or a free place at its line's lane, or is sealed
loose. -/
theorem Works.placeCoil_cases (w : Works) (i : LineIx) (k : CoilKey)
    (reservation : Option PackerIx) :
    let clear := fun l : Line => { l with reserved := none }
    (∃ p, reservation = some p ∧
      w.placeCoil i k reservation = (w.queueCoil k p).modifyLine i clear) ∨
    (∃ p, reservation = none ∧ w.lanes[i] = some p ∧ w.placeFree p = true ∧
      w.placeCoil i k reservation = (w.queueCoil k p).modifyLine i clear) ∨
    (reservation = none ∧ (∀ p, w.lanes[i] = some p → w.placeFree p = false) ∧
      w.placeCoil i k reservation = (w.sealLoose k).modifyLine i clear) := by
  unfold Works.placeCoil
  cases reservation with
  | some p => exact .inl ⟨p, rfl, rfl⟩
  | none =>
    cases hl : w.lanes[i] with
    | none => exact .inr (.inr ⟨rfl, by simp, rfl⟩)
    | some p =>
      cases hp : w.placeFree p
      · exact .inr (.inr ⟨rfl, by simp_all, by simp [hp]⟩)
      · exact .inr (.inl ⟨p, rfl, rfl, hp, by simp [hp]⟩)

/-! ## The coil wait list (R26) -/

/-- R26: a property that a served coil, and a line passed over for an exhausted lot, keep holds
after a hand-out. -/
theorem Works.serve_preserves (P : Works → Prop)
    (passed : ∀ (w : Works) i rest, P w → w.waitList = i :: rest →
      P ({ w with waitList := rest }.modifyLine i fun l => { l with starve := some .seqExhausted }))
    (served : ∀ (w w' : Works) i rest, P w → w.waitList = i :: rest →
      w.openCoil i (w.line i).position = .ok w' →
      P ({ w' with waitList := rest }.resumeServed i))
    (w : Works) (h : P w) : P w.handOut := by
  have go : ∀ (l : List LineIx) (w : Works), w.waitList = l → P w → P (Works.serve l w) := by
    intro l
    induction l with
    | nil => intro w _ h; exact h
    | cons i rest ih =>
      intro w hw h
      unfold Works.serve
      split
      · next w' ho => exact served w w' i rest h hw ho
      · exact h
      · exact ih _ rfl (passed w i rest h hw)
  exact go w.waitList w rfl h

/-! ## Packing steps (R143, R144) -/

/-- R143: a TAKEN is refused and leaves the coils, or its FULL head becomes TAKEN. -/
theorem Works.take_cases (w : Works) (p : PackerIx) (k : CoilKey) :
    (∃ r, w.packingRefusal p k .full = some r ∧
      w.take p k = (w.raisePacker p Bit.refusedTake, .refuse r)) ∨
    (w.packingRefusal p k .full = none ∧
      (w.take p k).1 = w.modifyCoil k fun c => { c with state := .taken }) := by
  unfold Works.take
  cases h : w.packingRefusal p k .full with
  | none => exact .inr ⟨rfl, rfl⟩
  | some r => exact .inl ⟨r, rfl, rfl⟩

/-- R144: a SEALED is refused and leaves the coils, or seals its TAKEN head. -/
theorem Works.sealByPacker_cases (w : Works) (p : PackerIx) (k : CoilKey) (weight : Nat) :
    (∃ r, w.packingRefusal p k .taken = some r ∧
      w.sealByPacker p k weight = (w.raisePacker p Bit.refusedTake, .refuse r)) ∨
    (w.packingRefusal p k .taken = none ∧
      (w.sealByPacker p k weight).1 = w.sealAt p k weight) := by
  unfold Works.sealByPacker
  cases h : w.packingRefusal p k .taken with
  | none => exact .inr ⟨rfl, rfl⟩
  | some r => exact .inl ⟨r, rfl, rfl⟩

/-- R143, R144: a packing step is accepted only for the head of its queue, in the state it needs. -/
theorem Works.packingRefusal_none (w : Works) (p : PackerIx) (k : CoilKey) (need : CoilState)
    (h : w.packingRefusal p k need = none) :
    ∃ c, w.coil? k = some c ∧ w.queues[p].head? = some k ∧ c.state = need ∧
      (c.state = .full ∨ c.state = .taken) := by
  unfold Works.packingRefusal at h
  split at h
  · cases h
  · next c hc =>
    split at h
    · next hh =>
      split at h
      · next hn => exact ⟨c, hc, hh.1, hn, hh.2⟩
      · cases h
    · split at h <;> cases h

/-! ## Length (R38 to R40) -/

/-- R38: the credit and the new remainder are the measured length and the old remainder. -/
theorem Line.credit_remainder (l : Line) (counts : Counts) :
    l.credit counts * 1000 + (l.credited counts).remainder =
      l.measureLength (counts.minus l.baselines) + l.remainder := by
  simp only [Line.credit, Line.credited]
  omega

/-- R39: a credit gives the run position all its millimetres, up to the 48-bit limit. -/
theorem Line.credited_position (l : Line) (counts : Counts) :
    (l.credited counts).position = min Config.positionLimit (l.position + l.credit counts) := rfl

end Sys2Proof.Machine
end

