-- ==== Sys2Proof/Tests/Slice0.lean ====
section
/-! SUPPORT. Tests: ill-formed commands refused by `Instr.wf`, single steps with results worked out
from the spec, and for each obligation with hypotheses a state that meets them. -/

namespace Sys2Proof.Tests

set_option Elab.async false

open Sys2Proof.Machine

/-! ## A small part -/

def laid : Spec :=
  { Spec.zero with
    kind := .laid, nominalTwist := 3200, twistTolerance := 50, twistSpan := 4, persistence := 1000,
    target := 200000, cutLead := 3000, allowance := 8000, minSound := 20000, maxJoints := 3,
    jointMargin := 1500, rejectShare := 150, densityNominal := 640000, densityTolerance := 15 }

def net : Spec :=
  { laid with
    kind := .net, knotsPerRow := 400, rowPitch := 125, faultRowsToOpen := 3, soundRowsToClose := 5 }

def lotOf (n : Nat) (sp : Spec) (st : LotState) (next : Nat) : Lot :=
  { Lot.opening n sp with state := st, revision := 3, nextSequence := next }

/-- A line of lot 5 in a run state, at a position, with a current coil. -/
def lineOf5 (st : RunState) (pos : Nat) (k : Option CoilKey) : Line :=
  { Line.reset with
    kind := .twist, wheelA := 1000, wheelB := 1000, state := st, lot := some 5, spec := laid,
    revision := 3, coil := k, position := pos, baselinesValid := true }

def coilOf (q : Nat) (i : LineIx) (st : CoilState) (p : Option PackerIx) (start : Nat)
    (stop : Option Nat) : Coil :=
  { Coil.opening ⟨5, q⟩ i (lineOf5 .running 0 none) start with
    state := st, packer := p, stop := stop }

/-- Lot 5 runs on lines 0, 1 and 3; line 2 is an idle TWIST line and line 4 an idle KNOT line; coil
5/2 is FULL at packer 3 and 5/3 TAKEN at packer 4; line 3 waits for a coil entry. -/
def baseWorks : Works :=
  { Works.reset with
    lots := ((Works.reset.lots.set 0 (some (lotOf 5 laid .opened 6))).set 1
      (some (lotOf 6 net .closed 3))).set 2 (some (lotOf 7 net .opened 1)),
    lines := tableOf fun i =>
      match i with
      | 0 => lineOf5 .running 250000 (some ⟨5, 4⟩)
      | 1 => lineOf5 .primed 0 (some ⟨5, 5⟩)
      | 2 => { Line.reset with kind := .twist }
      | 3 => lineOf5 .starved 90000 none
      | 4 => { Line.reset with kind := .knot }
      | _ => .reset,
    coils := ((((Works.reset.coils.set 0
        (some { coilOf 1 0 .sealed (some 3) 0 (some 100000) with final := true })).set 1
        (some (coilOf 2 0 .full (some 3) 100000 (some 200000)))).set 2
        (some (coilOf 3 3 .taken (some 4) 0 (some 90000)))).set 3
        (some { coilOf 4 0 .opened none 200000 none with
          zones := [⟨.twist, 10000, none, -200⟩], reasons := [.zones], grade := .reject })).set 4
        (some (coilOf 5 1 .opened none 0 none)),
    waitList := [3],
    queues := (Works.reset.queues.set 3 [⟨5, 2⟩]).set 4 [⟨5, 3⟩] }

/-- The part in READY: lines 0 to 4 on addresses 1 to 5, packers 3 and 4 on 17 and 18, and line 9 on
the isolated address 10. -/
def base : State :=
  { State.reset with
    partState := .ready,
    settings := { Settings.reset with
      retryLimit := 2, isolationThreshold := 8, slipPermille := 50, tableLow := 8,
      enables := 0xFFFFFFFF },
    works := baseWorks,
    link := { Link.reset with
      stations := tableOf fun d =>
        match d with
        | 0 => some (.start (.line 0) .one)
        | 1 => some (.start (.line 1) .one)
        | 2 => some (.start (.line 2) .one)
        | 3 => some (.start (.line 3) .one)
        | 4 => some (.start (.line 4) .one)
        | 9 => some { Station.start (.line 9) .one with isolated := true }
        | 16 => some (.start (.packer 3) .two)
        | 17 => some (.start (.packer 4) .two)
        | _ => none } }

/-- `base` with the reply of a station awaited. -/
def polled (d : StationIx) : State :=
  { base with
    link := { base.link with
      turn := some { station := d, probe := false, tries := 1, extras := 0, phase := .waiting } } }

/-- `base` with one line changed. -/
def withLine (i : LineIx) (f : Line → Line) (s : State) : State :=
  { s with works := s.works.modifyLine i f }

/-- The state a command leaves. -/
def after (c : Instr) (s : State) : State :=
  match exec c s with
  | .next t => t
  | .fault _ => s
  | .refused _ => s

/-! ## Ill-formed commands -/

theorem test_wf_refuses_lotOpen : (Instr.lotOpen []).wf = false := by decide
theorem test_wf_refuses_lotAmend : (Instr.lotAmend [0, 5]).wf = false := by decide
theorem test_wf_refuses_lotClose : (Instr.lotClose [0]).wf = false := by decide
theorem test_wf_refuses_lotRetire : (Instr.lotRetire [0, 5, 0]).wf = false := by decide
theorem test_wf_refuses_lineAssign : (Instr.lineAssign [0, 0]).wf = false := by decide
theorem test_wf_refuses_lineRelease : (Instr.lineRelease []).wf = false := by decide
theorem test_wf_refuses_lineWheels : (Instr.lineWheels [0, 1]).wf = false := by decide
theorem test_wf_refuses_laneSet : (Instr.laneSet [0]).wf = false := by decide
theorem test_wf_refuses_coilMark : (Instr.coilMark [0, 5, 0, 1]).wf = false := by decide
theorem test_wf_refuses_coilSeal : (Instr.coilSeal [0, 5, 0, 1]).wf = false := by decide
theorem test_wf_refuses_coilRetire : (Instr.coilRetire [0, 5, 0]).wf = false := by decide
theorem test_wf_refuses_readRecord : (Instr.readRecord [1, 0, 0, 0, 5]).wf = false := by decide
theorem test_wf_refuses_listKeys : (Instr.listKeys [1]).wf = false := by decide
theorem test_wf_refuses_noticeRead : (Instr.noticeRead [0]).wf = false := by decide
theorem test_wf_refuses_noticeClear : (Instr.noticeClear [0, 0, 0]).wf = false := by decide
theorem test_wf_refuses_storeRead : (Instr.storeRead [0]).wf = false := by decide
theorem test_wf_refuses_storeWrite : (Instr.storeWrite [0, 0]).wf = false := by decide
theorem test_wf_refuses_stationProbe : (Instr.stationProbe []).wf = false := by decide
theorem test_wf_refuses_restartWarm : (Instr.restartWarm [0]).wf = false := by decide
theorem test_wf_refuses_restartCold : (Instr.restartCold [0]).wf = false := by decide
theorem test_wf_refuses_unknownCommandCode : (Instr.unknownCommandCode 0x40 []).wf = false := by
  decide
theorem test_wf_refuses_idle : (Instr.idle 31 0 [0]).wf = false := by decide
theorem test_wf_refuses_tally : (Instr.tally 1 0 (List.replicate 10 0)).wf = false := by decide
theorem test_wf_refuses_mark : (Instr.mark 1 0 (0 :: 4 :: List.replicate 8 0)).wf = false := by
  decide
theorem test_wf_refuses_cutDone : (Instr.cutDone 0 0 (List.replicate 9 0)).wf = false := by decide
theorem test_wf_refuses_askSpec : (Instr.askSpec 1 0 [0, 2]).wf = false := by decide
theorem test_wf_refuses_askNext : (Instr.askNext 1 0 [0, 1]).wf = false := by decide
theorem test_wf_refuses_askCoil : (Instr.askCoil 1 0 [0, 3, 0, 5]).wf = false := by decide
theorem test_wf_refuses_taken : (Instr.taken 1 0 [0, 0, 5, 0]).wf = false := by decide
theorem test_wf_refuses_sealed : (Instr.sealed 1 0 [0, 0, 5, 0, 1]).wf = false := by decide
theorem test_wf_refuses_invalidFrameKind : (Instr.invalidFrameKind 0x10 1 0 []).wf = false := by
  decide

/-! ## The CRC and the frames (8.1) -/

/-- Table 8.1: "Over the nine bytes 31h to 39h it gives 29B1h". -/
theorem test_crc : crc16 [0x31, 0x32, 0x33, 0x34, 0x35, 0x36, 0x37, 0x38, 0x39] = 0x29B1 := by
  decide +kernel

/-! ## Host commands (Chapters 1, 5, 6, 7, 9) -/

/-- R3: the lot takes entry 3 with revision 0 and next sequence 1. -/
theorem test_lotOpen_takes_the_lowest_entry :
    ((after (.lotOpen ([0, 9] ++ net.bytes)) base).works.lots[3]).map
      (fun l => (l.number, l.state, l.revision, l.nextSequence)) = some (9, .opened, 0, 1) := by
  decide +kernel

theorem test_lotOpen_known_number :
    (after (.lotOpen ([0, 6] ++ net.bytes)) base).port.result.status = .lotExists := by
  decide +kernel

/-- R5: the PRIMED line 1 takes the amendment, the RUNNING line 0 only its flag. -/
theorem test_lotAmend_reaches_lines :
    let w := (after (.lotAmend ([0, 5] ++ { laid with maxJoints := 7 }.bytes)) base).works
    ((w.line 0).revision, (w.line 0).amendPending, (w.line 1).revision,
      (w.coil? ⟨5, 5⟩).map fun c => c.limits.maxJoints) = (3, true, 4, some 7) := by
  decide +kernel

theorem test_lotAmend_other_kind :
    (after (.lotAmend ([0, 5] ++ net.bytes)) base).port.result.status = .wrongKind := by
  decide +kernel

/-- R6: lot 5 has running lines; lot 7 has none. -/
theorem test_lotClose :
    (((after (.lotClose [0, 5]) base).works.lot? 5).map fun l => l.state,
      ((after (.lotClose [0, 7]) base).works.lot? 7).map fun l => l.state) =
      (some .closing, some .closed) := by
  decide +kernel

/-- R8: lot 6 is CLOSED and holds no coil. -/
theorem test_lotRetire :
    (after (.lotRetire [0, 6]) base).works.lots[1] = none ∧
    (after (.lotRetire [0, 5]) base).port.result.status = .wrongState := by
  decide +kernel

/-- R15, R20: the coil takes sequence 6 and the lowest free entry, 5. -/
theorem test_lineAssign_opens_a_coil :
    let w := (after (.lineAssign [2, 0, 5]) base).works
    ((w.line 2).state, (w.line 2).coil, w.coils[5].map fun c => (c.key, c.start)) =
      (.primed, some ⟨5, 6⟩, some (⟨5, 6⟩, 0)) := by
  decide +kernel

/-- R14: a KNOT line takes no LAID lot. -/
theorem test_lineAssign_wrong_kind :
    (after (.lineAssign [4, 0, 5]) base).port.result.status = .wrongKind := by
  decide +kernel

/-- R130: the release cut is ordered at the run position. -/
theorem test_lineRelease_running :
    let l := (after (.lineRelease [0]) base).works.line 0
    (l.state, l.cut, l.cutPoint, l.order) = (.releasing, .ordered, 250000, .cut) := by
  decide +kernel

/-- R131, R26: the coil of the PRIMED line 1 is removed, and its entry serves line 3. -/
theorem test_lineRelease_primed_serves_the_wait_list :
    let w := (after (.lineRelease [1]) base).works
    ((w.line 1).state, (w.coil? ⟨5, 5⟩).isSome, (w.line 3).state,
      w.coils[4].map fun c => (c.key, c.start)) =
      (.idle, false, .running, some (⟨5, 6⟩, 90000)) := by
  decide +kernel

/-- R32: on a KNOT line only ROWS measures; the defaults are ROWS and NONE. -/
theorem test_lineWheels_conflict :
    let s := after (.lineWheels [4, 1, 2]) base
    ((s.works.line 4).measure, (s.works.line 4).check, s.works.notices.line[4],
      s.port.result.status) = (.rows, .off, 0x200, .ok) := by
  decide +kernel

theorem test_laneSet :
    (after (.laneSet [2, 7]) base).works.lanes[2] = some 7 ∧
    (after (.laneSet [2, 8]) base).port.result.status = .outOfRange := by
  decide +kernel

/-- R107: the stretch is clamped to the coil's length of 100,000 mm. -/
theorem test_coilMark_clamps :
    ((after (.coilMark [0, 5, 0, 2, 0, 0, 0, 10, 255, 255, 255, 255]) base).works.coil? ⟨5, 2⟩).map
      (fun c => c.zones) = some [⟨.operator, 10, some 100000, 0⟩] := by
  decide +kernel

/-- R145, R146: 64,000 g on 100 m are 640,000 g/km. -/
theorem test_coilSeal_density :
    let s := after (.coilSeal [0, 5, 0, 2, 0, 0, 250, 0]) base
    ((s.works.coil? ⟨5, 2⟩).map fun c => (c.state, c.density, c.reasons), s.works.queues[3]) =
      (some (.sealed, some 640000, []), []) := by
  decide +kernel

/-- R24, R26: the length is retired, and the waiting line 3 takes the freed entry. -/
theorem test_coilRetire :
    let w := (after (.coilRetire [0, 5, 0, 1]) base).works
    ((w.lot? 5).map fun l => (l.retired, l.coilsRetired), w.coils[0].map fun c => c.key,
      (w.line 3).state) = (some (100000, 1), some ⟨5, 6⟩, .running) := by
  decide +kernel

/-- R27: lot view field 0 is number, state, revision; coil view field 4 is the length. -/
theorem test_readRecord :
    ((after (.readRecord [1, 0, 0, 0, 5, 0]) base).port.result.fields.getD 0 0,
      (after (.readRecord [3, 0, 5, 0, 4, 0]) base).port.result.fields.getD 4 0) =
      (0x00050103, 50000) := by
  decide +kernel

theorem test_listKeys :
    let r := (after (.listKeys [2, 1]) base).port.result
    (r.fields, r.aux) = ([0x00050002, 0x00050003, 0x00050004, 0x00050005], 255) := by
  decide +kernel

/-- R170: STARVED of line 3 stands in bits 15-0 of field 2, ISOLATED of address 10 in field 11. -/
theorem test_noticeRead :
    let r := (after (.noticeRead []) base).port.result
    (r.aux, r.fields.getD 2 0, r.fields.getD 11 0) = (1, 0x00000002, 0x00000010) := by
  decide +kernel

theorem test_noticeClear :
    let s := { base with works := base.works.raiseLine 0 0x30 }
    (after (.noticeClear [1, 0, 0, 0x10]) s).works.notices.line[0] = 0x20 ∧
    (after (.noticeClear [3, 9, 0, 1]) s).port.result.status = .outOfRange := by
  decide +kernel

theorem test_storeRead_busy :
    let s := after (.storeRead [0, 3]) base
    (s.port.result.status, (after (.storeWrite [0, 4, 9]) s).port.store) =
      (.busy, some ⟨3, none⟩) := by
  decide +kernel

theorem test_storeWrite_done :
    let s := after (.storeTransferDone true) (after (.storeWrite [0, 4, 9]) base)
    (s.eeprom, s.port.result.fields, s.port.store) = ([(4, 9)], [0], none) := by
  decide +kernel

theorem test_stationProbe :
    ((after (.stationProbe [10]) base).link.stations[9].map fun st => st.probeDue,
      (after (.stationProbe [11]) base).port.result.status) = (some true, .outOfRange) := by
  decide +kernel

theorem test_restartWarm :
    let s := after (.restartWarm []) (withLine 0 (fun l => { l with suspended := true }) base)
    (s.partState, (s.works.line 0).suspended, s.link.stations[9].map fun st => st.isolated) =
      (.ready, false, some false) := by
  decide +kernel

theorem test_restartCold :
    let s := after (.restartCold []) base
    (s.partState, inUse s.works.lots, (s.works.line 0).state, s.port.result.status) =
      (.loading, [], .idle, .busy) := by
  decide +kernel

/-- R164: status OK, no fields, auxiliary byte, and then field bytes of 0. -/
theorem test_result :
    let s := after (.transactionStart) (after (.laneSet [2, 8]) base)
    (after (.result [0, 0, 0]) s).port.hso = [2, 0, 0, 0] := by
  decide +kernel

theorem test_unknownCommandCode :
    (after (.unknownCommandCode 0x05 []) base).port.result.status = .malformed := by
  decide +kernel

/-! ## Part states and the store (Chapters 9, 10) -/

theorem test_powerOn :
    let s := after .powerOn { base with timeBase := 77 }
    (s.partState, s.timeBase, s.works.freeCoils) = (.loading, 0, 96) := by
  decide +kernel

theorem test_resetnAssert :
    let s := after .resetnAssert base
    (s.partState, s.works.waitList, s.works.queues[3]) = (.loading, [], []) := by
  decide +kernel

/-- R172: a blank EEPROM is rejected, and the defaults image comes up. -/
theorem test_loadComplete_blank :
    let s := after (.loadComplete true) State.reset
    (s.partState, s.works.notices.global, (s.works.line 15).address,
      s.link.stations[16].map fun st => st.role) = (.ready, 1, 16, some (.packer 0)) := by
  decide +kernel

theorem test_supply :
    let s := after .supplyOkFall base
    let u := after .supplyOkRise s
    (s.partState, u.resumeTimer, (after .resumeTimerExpiry u).partState) =
      (.hold, some 0, .ready) := by
  decide +kernel

/-! ## The link (Chapter 8) -/

theorem test_roundStart :
    let k := (after .roundStart base).link
    (k.roundCount, k.round, k.stations[9].map fun st => st.roundsSinceProbe) =
      (1, some { levelOneAfter := 0, levelTwoDone := false }, some 1) := by
  decide +kernel

/-- R155: ORDER alone, RUN with remaining 0, and the CRC over the nine bytes. -/
theorem test_pollSend :
    let s := after .pollSend (after .roundStart base)
    (s.link.lastPoll, s.lkde) =
      ([0xA5, 0x01, 0x01, 0x02, 0x05, 0, 0, 0, 0, 0, 0x97, 0x60], true) := by
  decide +kernel

theorem test_pollTransmitDone :
    (after .pollTransmitDone (after .pollSend (after .roundStart base))).lkde = false := by
  decide +kernel

/-- R156: repeat and a retry are owed. -/
theorem test_replyTimeout :
    let k := (after .replyTimeout (polled 0)).link
    (k.turn.map fun t => t.phase, k.stations[0].map fun st => st.repeatOwed) =
      (some .due, some true) := by
  decide +kernel

theorem test_characterTimeout :
    (after .characterTimeout
      { polled 0 with link := { (polled 0).link with reception := some [1] } }).link.reception = none := by
  decide +kernel

theorem test_frameNotIntact :
    (after (.frameNotIntact .crc) (polled 0)).link.stations[0].map (fun st => st.repeatOwed) =
      some true := by
  decide +kernel

/-- R152: no poll is outstanding, so nothing fails. -/
theorem test_frameWrongAddress_without_a_poll :
    (after .frameWrongAddress base).link.stations[0].map (fun st => st.repeatOwed) =
      some false := by
  decide +kernel

theorem test_characterReceived :
    (after (.characterReceived 0xA5) (polled 0)).link.reception = some [] := by
  decide +kernel

theorem test_idle :
    let k := (after (.idle 1 9 [0]) (polled 0)).link
    (k.turn, k.stations[0].map fun st => (st.last, st.expected)) =
      (none, some (some 9, some 10)) := by
  decide +kernel

/-- R38, R39: 250 counts of 1,000 µm are 250 mm. -/
theorem test_tally_credits :
    let w := (after (.tally 1 0 (tallyPayload 0 ⟨80, 250, 0, 0⟩ [])) (polled 0)).works
    ((w.line 0).position, (w.lot? 5).map fun l => l.produced) = (250250, some 250) := by
  decide +kernel

/-- R37, R50: a difference of 32,768 is implausible. -/
theorem test_tally_resyncs :
    let w := (after (.tally 1 0 (tallyPayload 0 ⟨0, 0, 32768, 0⟩ [])) (polled 0)).works
    ((w.line 0).position, (w.line 0).resyncs,
      (w.coil? ⟨5, 4⟩).map fun c => (c.zones, c.reasons)) =
      (250000, 1, some ([⟨.twist, 10000, some 50000, -200⟩], [.zones, .lengthUncertain])) := by
  decide +kernel

/-- R47, R104: 100 counts back is 249,900 mm; the zone starts 1,500 mm before it. -/
theorem test_mark_joint :
    let w := (after (.mark 1 0 (markPayload 0 .joint ⟨0, 65436, 0, 0⟩)) (polled 0)).works
    ((w.line 0).jointClose, (w.coil? ⟨5, 4⟩).map fun c => (c.joints, c.zones.getLast?)) =
      (some 251400, some (1, some ⟨.joint, 48400, none, 1⟩)) := by
  decide +kernel

/-- R122 to R127: an unplanned cut 10 m back; the line's lane is NONE, so the coil is sealed loose.
-/
theorem test_cutDone_unplanned :
    let w := (after (.cutDone 1 0 (cutDonePayload 0 ⟨0, 55536, 0, 0⟩)) (polled 0)).works
    ((w.coil? ⟨5, 4⟩).map fun c => (c.stop, c.state, c.reasons),
      (w.coil? ⟨5, 6⟩).map fun c => (c.start, c.line), (w.line 0).coil) =
      (some (some 240000, .sealed, [.zones, .unplannedCut, .loose, .unweighed]),
        some (240000, 0), some ⟨5, 6⟩) := by
  decide +kernel

theorem test_askSpec :
    (after (.askSpec 1 0 [0, 1]) (polled 0)).link.stations[0].map (fun st => st.pending) =
      some (some (.spec 3 laid)) := by
  decide +kernel

theorem test_askNext :
    (after (.askNext 17 0 [0, 2]) (polled 16)).link.stations[16].map (fun st => st.pending) =
      some (some (.coil
        { key := ⟨5, 2⟩, state := .full, line := 0, length := 100000, grade := .first,
          final := false, loose := false, packer := some 3 })) := by
  decide +kernel

theorem test_askCoil_unknown :
    (after (.askCoil 17 0 [0, 3, 0, 5, 0, 9]) (polled 16)).link.stations[16].map
      (fun st => st.pending) = some (some (.refuse .notFound)) := by
  decide +kernel

theorem test_taken :
    ((after (.taken 17 0 [0, 0, 5, 0, 2]) (polled 16)).works.coil? ⟨5, 2⟩).map
      (fun c => c.state) = some .taken := by
  decide +kernel

theorem test_taken_not_head :
    let s := after (.taken 17 0 [0, 0, 5, 0, 3]) (polled 16)
    (s.works.notices.packer[3], s.link.stations[16].map fun st => st.pending) =
      (0x4, some (some (.refuse .notHead))) := by
  decide +kernel

/-- R144, R145: weight 0 leaves the coil UNWEIGHED. -/
theorem test_sealed_unweighed :
    let w := (after (.sealed 18 0 [0, 0, 5, 0, 3, 0, 0, 0, 0]) (polled 17)).works
    ((w.coil? ⟨5, 3⟩).map fun c => (c.state, c.weight, c.reasons, c.final), w.queues[4]) =
      (some (.sealed, none, [.unweighed], true), []) := by
  decide +kernel

theorem test_invalidFrameKind :
    (after (.invalidFrameKind 0x17 1 0 [0]) (polled 0)).link.stations[0].map
      (fun st => st.protocolErrors) = some 1 := by
  decide +kernel

/-! ## States that meet the hypotheses of the obligations -/

theorem base_takesCommands : base.takesCommands :=
  And.intro (by decide +kernel) (by decide +kernel)

/-- A table whose entries in use carry different keys. -/
theorem unique_of_keys {α κ : Type} [DecidableEq κ] {n : Nat} (v : Vector (Option α) n)
    (key : α → κ)
    (h : ∀ a ∈ (List.finRange n).filterMap (fun i => v[i].map fun x => (i, key x)),
      ∀ b ∈ (List.finRange n).filterMap (fun i => v[i].map fun x => (i, key x)),
        a.2 = b.2 → a.1 = b.1)
    (i j : Fin n) (x y : α) (hi : v[i] = some x) (hj : v[j] = some y) (e : key x = key y) :
    i = j :=
  h (i, key x) (List.mem_filterMap.2 ⟨i, List.mem_finRange i, by rw [hi]; rfl⟩)
    (j, key y) (List.mem_filterMap.2 ⟨j, List.mem_finRange j, by rw [hj]; rfl⟩) e

theorem base_keysLawful : base.keysLawful where
  oneLot := unique_of_keys base.works.lots (fun l => l.number) (by decide +kernel)
  oneCoil := unique_of_keys base.works.coils (fun c => c.key) (by decide +kernel)
  issued := by decide +kernel

theorem base_takesRecordCommands : base.takesRecordCommands :=
  And.intro (by decide +kernel) (by decide +kernel)

/-- `base` with an empty wait list. -/
def unwaited : State := { base with works := { base.works with waitList := [] } }

theorem unwaited_takesRecordCommands : unwaited.takesRecordCommands :=
  And.intro (by decide +kernel) (by decide +kernel)

/-- `base` in HOLD. -/
def onHold : State := { base with partState := .hold }

/-- Line 0 with its cut in a state. -/
def cutting (cut : CutState) (p : Option PackerIx) (s : State) : State :=
  withLine 0 (fun l => { l with cut := cut, reserved := p, cutPoint := 400000 }) s

theorem polled_expects (d : StationIx) (role : Role) (address sequence : Byte)
    (payload : List Byte)
    (h : decide (address.toNat = d.val + 1 ∧ payload.length ≤ 48) &&
      (base.link.stations[d].any fun st =>
        decide (st.role = role) && !st.isolated &&
        decide (st.expected = none ∨ st.expected = some sequence)) && !moreOf payload = true) :
    (polled d).expects d role address sequence payload := by
  simp only [Bool.and_eq_true, Bool.not_eq_true', decide_eq_true_eq] at h
  exact ⟨rfl, h.1.1.1, h.1.2, h.1.1.2, by simpa using h.2⟩

theorem witness_StepRunsFrontCommand : base.pending = [] := rfl

/-- A transaction in progress, and none. -/
theorem witness_ResultReadsTheLatchedBuffer :
    (after .transactionStart base).port.transaction =
      some { latched := base.port.result, discarded := false } ∧
    base.port.transaction = none ∧ (Instr.result [0]).transaction? = some (0x40, [0]) ∧
    exec (.result [0]) base = .next (after (.result [0]) base) :=
  ⟨rfl, rfl, rfl, rfl⟩

/-- A field number at each end of each group of 16. -/
theorem witness_ReadoutSendsHeaderThenFields :
    let r := { ResultBuffer.plain .ok with fields := [1, 2], firstField := 15, mode := .wrap16 }
    r.firstField ≤ 31 ∧ r.fieldNumber 0 = 15 ∧ { r with firstField := 31 }.fieldNumber 0 = 31 ∧
    { r with firstField := 31, mode := .run32 }.fieldNumber 0 = 31 := by
  decide +kernel

theorem witness_LoadingDiscardsCommands :
    (Instr.laneSet [2, 7]).transaction? = some (0x0B, [2, 7]) ∧
    State.reset.partState = .loading ∧
    (after .resetnAssert (after .transactionStart base)).transactionDiscarded = true := by
  decide +kernel

theorem witness_MalformedTransactionsAreRefused :
    hostCodes.contains 0x05 = false ∧ (Instr.lotOpen []).transaction? = some (0x01, []) ∧
    (∀ x a, Instr.lotOpen [] ≠ .unknownCommandCode x a) ∧ (Instr.lotOpen []).wf = false :=
  ⟨by decide, rfl, (fun _ _ h => nomatch h), by decide⟩

theorem witness_HoldRefusesRecordCommands :
    let c := Instr.laneSet [2, 7]
    c.changesRecords = true ∧ c.wf = true ∧ c.transaction? = some (0x0B, [2, 7]) ∧
    onHold.partState = .hold ∧ onHold.transactionDiscarded = false := by
  decide +kernel

/-- Both outcomes: accepted, and refused with a status that is not OK. -/
theorem witness_RecordCommandsChangeOnlyRecords :
    (Instr.laneSet [2, 7]).changesRecords = true ∧
    (Instr.laneSet [2, 7]).transaction? = some (0x0B, [2, 7]) ∧
    (after (.laneSet [2, 7]) base).port.result.status = .ok ∧
    (after (.laneSet [2, 8]) base).port.result.status = .outOfRange := by
  decide +kernel

theorem witness_LotOpenCreatesTheRecord :
    ([0, 9] ++ net.bytes).length = 41 ∧ base.takesRecordCommands :=
  ⟨by decide +kernel, base_takesRecordCommands⟩

/-- An amendment of lot 5; and for each refusal a lot and a specification that meet it: no lot 9,
the CLOSED lot 6, another kind, a minimum sound length above the target, and revisions 254 and 255.
-/
theorem witness_LotAmendReachesTheLines :
    let args := [0, 5] ++ { laid with maxJoints := 7 }.bytes
    let lot := lotOf 5 laid .opened 6
    let given := fun sp : Spec => specOf (([0, 5] ++ sp.bytes).drop 2)
    args.length = 41 ∧ base.works.lot? (bytesAt args 0 2) = some lot ∧ lot.state ≠ .closed ∧
    (specOf (args.drop 2)).kind = lot.spec.kind ∧ (specOf (args.drop 2)).inRange = true ∧
    lot.revision < 255 ∧ base.works.lot? 9 = none ∧
    ((base.works.lot? 6).map fun l => l.state) = some .closed ∧
    (given net).kind = .net ∧ (given net).kind ≠ lot.spec.kind ∧
    (given { laid with minSound := 200000 }).inRange = true ∧
    (given { laid with minSound := 200001 }).inRange = false ∧ 254 < 255 ∧
    (((base.works.modifyLot 5 fun l => { l with revision := 255 }).lot? 5).map fun l =>
      l.revision) = some 255 := by
  decide +kernel

theorem witness_LotCloseAndRetireFollowTheState :
    ([0, 5] : List Byte).length = 2 ∧ base.takesRecordCommands :=
  ⟨rfl, base_takesRecordCommands⟩

/-- A LAID lot on a TWIST line, and a NET lot on a KNOT line; and for each refusal of R14 a line and
a lot that meet it: lines 15 and 16, the UNUSED line 5, no lot 9, the RUNNING line 0, the CLOSED lot
6, a LAID lot for a KNOT line, next sequences 9,999 and 10,000, and a full coil table. -/
theorem witness_LineAssignOpensTheFirstCoil :
    let full : Vector (Option Coil) 96 := tableOf fun e =>
      some (coilOf (e.val + 1) 0 .opened none 0 none)
    bytesAt [2, 0, 5] 0 1 = 2 ∧ base.works.lot? 5 = some (lotOf 5 laid .opened 6) ∧
    (base.works.line 2).state = .idle ∧ (base.works.line 2).kind = .twist ∧
    base.works.lot? 7 = some (lotOf 7 net .opened 1) ∧ (base.works.line 4).state = .idle ∧
    (base.works.line 4).kind = .knot ∧ lowestFree base.works.coils = some 5 ∧
    bytesAt [16, 0, 5] 0 1 = 16 ∧ 15 < 16 ∧ ¬ 15 < 15 ∧ (base.works.line 5).kind = .unused ∧
    base.works.lot? 9 = none ∧ (base.works.line 0).state = .running ∧
    ((base.works.lot? 6).map fun l => l.state) = some .closed ∧
    (lotOf 5 laid .opened 6).spec.kind = .laid ∧ ¬ 10000 ≤ 9999 ∧ lowestFree full = none := by
  decide +kernel

/-- Lines 15 and 16; line 0 with each cut state, SUSPENDED with and without length in its coil, with
a place reserved and line 1 held for it; the IDLE line 2, the STARVED line 3, and the PRIMED line 1
with line 3 waiting for its entry; and lot 5 CLOSING with no other line than line 3. -/
theorem witness_LineReleaseOrdersTheCutOrFrees :
    let suspended := withLine 0 (fun l => { l with suspended := true }) base
    let emptied := withLine 0 (fun l => { l with suspended := true, position := 200000 })
      (cutting .ordered (some 3) base)
    let heldWorks := emptied.works.joinHeld 3 1
    let last := ((base.works.modifyLot 5 fun l => { l with state := .closing }).modifyLine 0
      Line.toIdle).modifyLine 1 Line.toIdle
    base.keysLawful ∧ base.takesRecordCommands ∧ 15 < bytesAt [16] 0 1 ∧
    ¬ 15 < bytesAt [15] 0 1 ∧ (base.works.line 2).state = .idle ∧
    (base.works.line 3).state = .starved ∧ (suspended.works.line 0).suspended = true ∧
    ((suspended.works.currentCoil? 0).map fun c => suspended.works.coilLength c) = some 50000 ∧
    ((emptied.works.currentCoil? 0).map fun c => emptied.works.coilLength c) = some 0 ∧
    (emptied.works.line 0).cut = .ordered ∧ (emptied.works.line 0).reserved = some 3 ∧
    emptied.works.held[3] = [] ∧ heldWorks.held[3] = [1] ∧
    ((heldWorks.currentCoil? 1).map fun b => b.key) = some ⟨5, 5⟩ ∧
    ((heldWorks.currentCoil? 0).map fun b => b.key) = some ⟨5, 4⟩ ∧
    bytesAt [0] 0 1 = 0 ∧ (base.works.line 0).state = .running ∧
    (base.works.line 0).suspended = false ∧ (base.works.line 0).cut = .noCut ∧
    ((cutting .ordered none base).works.line 0).cut = .ordered ∧
    ((cutting .held (some 3) base).works.line 0).cut = .held ∧
    ((cutting .held (some 3) base).works.line 0).reserved = some 3 ∧
    (base.works.line 1).state = .primed ∧ (base.works.line 1).cut = .noCut ∧
    (base.works.currentCoil? 1).isSome = true ∧ base.works.waitList = [3] ∧
    (last.line 3).lot = some 5 ∧ ((last.lot? 5).map fun l => l.state) = some .closing ∧
    last.runningSet 5 = [3] :=
  ⟨base_keysLawful, base_takesRecordCommands, by decide +kernel⟩

/-- Line 4 with codes in range; line 16, the UNUSED line 5, and the measure codes 0, 3 and 4 and the
check codes 2 and 3 at the ends of their ranges; and line 0 slipping with its check source at B,
which [0, 1, 0] changes, with an open SLIP zone and without one. -/
theorem witness_LineWheelsSetsTheSources :
    let slipping := withLine 0 (fun l => { l with
      check := .wheelB, slip := { l.slip with slipping := true } }) base
    let zoned := slipping.works.modifyCoil ⟨5, 4⟩ fun c => { c with
      zones := [⟨.slip, 10000, none, 90⟩] }
    let closed := fun w : Works => (w.currentCoil? 0).map fun c =>
      decide ((c.asked (.closeAt .slip 250000)).1.zones = c.zones)
    bytesAt [4, 1, 2] 0 1 = 4 ∧ bytesAt [4, 1, 2] 1 1 = MeasureSource.wheelA.code ∧
    bytesAt [4, 1, 2] 2 1 = CheckSource.wheelB.code ∧ (base.works.line 4).kind ≠ .unused ∧
    15 < bytesAt [16, 1, 0] 0 1 ∧ (base.works.line 5).kind = .unused ∧
    bytesAt [4, 0, 3] 1 1 = 0 ∧ 2 < bytesAt [4, 0, 3] 2 1 ∧ ¬ 3 < bytesAt [4, 3, 2] 1 1 ∧
    ¬ 2 < bytesAt [4, 3, 2] 2 1 ∧ 3 < bytesAt [4, 4, 2] 1 1 ∧
    bytesAt [0, 1, 0] 2 1 = CheckSource.off.code ∧ (slipping.works.line 0).check ≠ .off ∧
    (slipping.works.line 0).slip.slipping = true ∧ closed slipping.works = some true ∧
    closed zoned = some false := by
  decide +kernel

theorem witness_LaneSetReplacesTheLane :
    ([15, 255] : List Byte).length = 2 ∧ base.takesCommands :=
  ⟨rfl, base_takesCommands⟩

/-- Coil 5/2 with an OPERATOR zone that the mark touches and does not overlap, that it overlaps by a
millimetre, and with a full list; and the other refusals: no coil 5/9, the SEALED coil 5/1, and a
start one beyond the end. -/
theorem witness_CoilMarkPlacesAnOperatorZone :
    let args : List Byte := [0, 5, 0, 2, 0, 0, 0, 10, 0, 0, 0, 20]
    let marked := fun zs => base.works.modifyCoil ⟨5, 2⟩ fun c => { c with zones := zs }
    let c := coilOf 2 0 .full (some 3) 100000 (some 200000)
    let one := fun e => [Zone.mk .operator 0 (some e) 0]
    let eight := List.replicate 8 (Zone.mk .joint 30 (some 40) 1)
    let overlaps := fun zs : List Zone => ∃ z ∈ zs, z.cause = .operator ∧
      min 10 ((marked zs).coilLength c) < z.stop.getD ((marked zs).coilLength c) ∧
        z.start < min 20 ((marked zs).coilLength c)
    args.length = 12 ∧ keyAt args 0 = ⟨5, 2⟩ ∧ bytesAt args 4 4 = 10 ∧ bytesAt args 8 4 = 20 ∧
    (marked (one 10)).coil? ⟨5, 2⟩ = some { c with zones := one 10 } ∧
    (marked eight).coil? ⟨5, 2⟩ = some { c with zones := eight } ∧ ¬ overlaps (one 10) ∧
    overlaps (one 11) ∧ ¬ overlaps eight ∧ base.works.coil? ⟨5, 9⟩ = none ∧
    ((base.works.coil? ⟨5, 1⟩).map fun c => c.state) = some .sealed ∧ ¬ 20 < 20 ∧ 20 < 21 := by
  decide +kernel

/-- A FULL coil without and with a line held for its packer; no coil 5/9, the OPEN coil 5/4 and the
SEALED coil 5/1. -/
theorem witness_CoilSealSealsAndFreesAPlace :
    let args : List Byte := [0, 5, 0, 2, 0, 0, 0, 1]
    let c := coilOf 2 0 .full (some 3) 100000 (some 200000)
    let heldWorks := (cutting .held (some 3) base).works.joinHeld 3 0
    args.length = 8 ∧ base.works.coil? (keyAt args 0) = some c ∧ c.state = .full ∧
    c.packer = some 3 ∧ base.works.held[3] = [] ∧ heldWorks.held[3] = [0] ∧
    heldWorks.currentCoil? 0 = base.works.coil? ⟨5, 4⟩ ∧
    (heldWorks.currentCoil? 0).isSome = true ∧ base.works.coil? ⟨5, 9⟩ = none ∧
    ((base.works.coil? ⟨5, 4⟩).map fun c => c.state) = some .opened ∧
    ((base.works.coil? ⟨5, 1⟩).map fun c => c.state) = some .sealed := by
  decide +kernel

/-- The SEALED coil 5/1 with no line waiting; no coil 5/9, and coils OPEN, FULL and TAKEN. -/
theorem witness_CoilRetireMovesTheLength :
    let c := { coilOf 1 0 .sealed (some 3) 0 (some 100000) with final := true }
    let state := fun q => (base.works.coil? ⟨5, q⟩).map fun c => c.state
    unwaited.works.coil? (keyAt [0, 5, 0, 1] 0) = some c ∧ c.state = .sealed ∧
    unwaited.works.waitList = [] ∧ base.works.coil? ⟨5, 9⟩ = none ∧ state 4 = some .opened ∧
    state 2 = some .full ∧ state 3 = some .taken := by
  decide +kernel

/-- The SEALED coil 5/1 while line 3 waits, its lot with a sequence left and without; its sources in
each state that reopens a zone; and a lead that orders the cut at once or not. -/
theorem witness_FreedEntryServesTheWaitList :
    let c := { coilOf 1 0 .sealed (some 3) 0 (some 100000) with final := true }
    let next := fun q => base.works.modifyLot 5 fun t => { t with nextSequence := q }
    let l := base.works.line 3
    let faulty := { l with
      twist := { l.twist with band := .out, extreme := -300 },
      knot := { l.knot with faulted := true, extreme := 7 },
      slip := { l.slip with slipping := true } }
    base.keysLawful ∧ base.takesRecordCommands ∧
    base.works.coil? (keyAt [0, 5, 0, 1] 0) = some c ∧ c.state = .sealed ∧
    base.works.waitList = [3] ∧ l.lot = some 5 ∧
    base.works.lot? 5 = some (lotOf 5 laid .opened 6) ∧ (next 9999).exhausted 3 = false ∧
    (next 10000).exhausted 3 = true ∧ l.reopened = [] ∧
    faulty.reopened =
      [⟨.twist, 0, none, -300⟩, ⟨.knot, 0, none, 7⟩, ⟨.slip, 0, none, 0⟩] ∧
    l.cut = .noCut ∧ l.spec.cutLead < l.spec.target ∧
    l.spec.target ≤ { l.spec with cutLead := 200000 }.cutLead :=
  ⟨base_keysLawful, base_takesRecordCommands, by decide +kernel⟩

/-- Each clause at the ends of its range: kinds 0, 1, 4 and 5, first fields 31 and 32, line keys 15
and 16, station keys 0, 1, 30 and 31, and lots and coils that are and are not in the tables. -/
theorem witness_ReadRecordCopiesTheView :
    bytesAt [0, 0, 0, 0, 5, 31] 0 1 = 0 ∧ bytesAt [5, 0, 0, 0, 5, 31] 0 1 = 5 ∧
    bytesAt [1, 0, 0, 0, 5, 31] 5 1 = 31 ∧ bytesAt [1, 0, 0, 0, 5, 32] 5 1 = 32 ∧
    (base.works.lot? 5).isSome = true ∧
    base.works.lot? 8 = none ∧ bytesAt [2, 0, 0, 0, 15, 0] 1 4 = (15 : LineIx).val ∧
    bytesAt [2, 0, 0, 0, 16, 0] 1 4 = 16 ∧
    bytesAt [3, 0, 5, 0, 2, 0] 1 4 = 5 * 65536 + 2 ∧ (base.works.coil? ⟨5, 2⟩).isSome = true ∧
    base.works.coil? ⟨5, 9⟩ = none ∧ bytesAt [4, 0, 0, 0, 0, 0] 1 4 = 0 ∧
    bytesAt [4, 0, 0, 0, 1, 0] 1 4 = (0 : StationIx).val + 1 ∧
    base.link.stations[(0 : StationIx)].isSome = true ∧
    bytesAt [4, 0, 0, 0, 30, 0] 1 4 = (29 : StationIx).val + 1 ∧
    base.link.stations[(29 : StationIx)] = none ∧ bytesAt [4, 0, 0, 0, 31, 0] 1 4 = 31 := by
  decide +kernel

/-- Tables 0 to 3, starts at the end of each table, and a table with exactly 32 keys to list. -/
theorem witness_ListKeysWalksTheTables :
    let full : Vector (Option Coil) 96 := tableOf fun e =>
      if 64 ≤ e.val then some (coilOf (e.val + 1) 0 .opened none 0 none) else none
    bytesAt [0, 0] 0 1 = 0 ∧ bytesAt [3, 0] 0 1 = 3 ∧ bytesAt [1, 31] 1 1 = 31 ∧
    bytesAt [1, 32] 1 1 = 32 ∧ bytesAt [2, 95] 1 1 = 95 ∧ bytesAt [2, 96] 1 1 = 96 ∧
    ((List.finRange 96).filterMap fun e => full[e].map fun c => (e.val, c.key.sequence))[31]? =
      some (95, 96) := by
  decide +kernel

theorem witness_NoticeReadShowsTheSets : base.takesCommands := base_takesCommands

/-- Each kind, with its index at both ends of its range and beyond. -/
theorem witness_NoticeClearClearsNamedEvents :
    bytesAt [0, 0, 0, 1] 1 1 = 0 ∧ bytesAt [0, 1, 0, 1] 1 1 = 1 ∧
    bytesAt [1, 15, 0, 1] 1 1 = (15 : LineIx).val ∧ bytesAt [1, 16, 0, 1] 1 1 = 16 ∧
    bytesAt [2, 7, 0, 1] 1 1 = (7 : PackerIx).val ∧ bytesAt [2, 8, 0, 1] 1 1 = 8 ∧
    bytesAt [3, 0, 0, 1] 1 1 = 0 ∧ bytesAt [3, 1, 0, 1] 1 1 = (0 : StationIx).val + 1 ∧
    base.link.stations[(0 : StationIx)].isSome = true ∧
    bytesAt [3, 30, 0, 1] 1 1 = (29 : StationIx).val + 1 ∧
    base.link.stations[(29 : StationIx)] = none ∧ bytesAt [3, 31, 0, 1] 1 1 = 31 ∧
    bytesAt [4, 0, 0, 1] 0 1 = 4 := by
  decide +kernel

/-- Addresses 0, 1, 10, 30 and 31; the station at 10 is ISOLATED, on level one, its probe not due.
-/
theorem witness_StationProbeSetsProbeDue :
    bytesAt [0] 0 1 = 0 ∧ bytesAt [31] 0 1 = 31 ∧ bytesAt [1] 0 1 = (0 : StationIx).val + 1 ∧
    base.link.stations[(0 : StationIx)].isSome = true ∧
    bytesAt [10] 0 1 = (9 : StationIx).val + 1 ∧
    base.link.stations[(9 : StationIx)] =
      some { Station.start (.line 9) .one with isolated := true } ∧
    bytesAt [30] 0 1 = (29 : StationIx).val + 1 ∧ base.link.stations[(29 : StationIx)] = none := by
  decide +kernel

/-- A read and a write in flight, and neither. -/
theorem witness_StoreRequestsBeginAndEnd :
    base.port.store = none ∧ (after (.storeRead [0, 3]) base).port.store = some ⟨3, none⟩ ∧
    (after (.storeWrite [0, 3, 9]) base).port.store = some ⟨3, some 9⟩ ∧
    Memory.wf base.eeprom = true := by
  decide +kernel

theorem witness_RestartWarmKeepsTheRecords : base.takesCommands := base_takesCommands

theorem witness_EnteringLoadingClearsTheTables :
    Instr.restartCold [] = .restartCold [] ∧ base.takesCommands :=
  ⟨rfl, base_takesCommands⟩

/-- A settings image with a right signature, size and check sum. Line 0 is a KNOT line (kind 3) at
address 1 on level one whose pair, ROWS and NONE, fits; line 1 is a TWIST line at address 31,
brought to 30, whose pair, A and A, conflicts; line 2 names address 1 again. Packer 0 is at 5 and
packer 1 at 30 again. Lane 0 is 255 and lane 1 is 254. -/
def goodEeprom : List Host.Cell :=
  [(0, 0x5A), (1, 0x62), (2, 195), (3, 3), (4, 1), (5, 0), (6, 0), (7, 99), (8, 3), (9, 232),
    (10, 9), (11, 0), (12, 1), (13, 31), (14, 2), (15, 0), (16, 100), (17, 0), (18, 101), (19, 0),
    (20, 1), (21, 1), (22, 1)] ++ ((List.range 124).map fun n => (n + 23, (0 : Byte))) ++
  [(147, 5), (148, 2), (149, 30), (150, 1)] ++
    ((List.range 12).map fun n => (n + 151, (0 : Byte))) ++ [(163, 255), (164, 254)] ++
    ((List.range 29).map fun n => (n + 165, (0 : Byte))) ++ [(194, 0x15)]

/-- The values worked out from R32, R33 and R173. -/
theorem test_loadComplete_image :
    let s := after (.loadComplete true) { State.reset with eeprom := goodEeprom }
    s.partState = .ready ∧ s.works.notices.global = 0 ∧
    ([0, 1, 2].map fun i => (s.works.line i).kind) = [.knot, .twist, .unused] ∧
    ([0, 1].map fun i => (s.works.line i).address) = [1, 30] ∧
    ([0, 1].map fun i => ((s.works.line i).wheelA, (s.works.line i).wheelB)) =
      [(100, 1000), (100, 101)] ∧
    ([0, 1].map fun i => (s.works.line i).measure) = [.rows, .wheelA] ∧
    ([0, 1].map fun i => (s.works.line i).check) = [.off, .wheelB] ∧
    (s.works.notices.line.toList.take 3) = [0, 0x200, 0] ∧
    (s.works.lanes.toList.take 3) = [none, some 7, some 0] ∧
    s.link.stations[(0 : StationIx)] = some (.start (.line 0) .one) ∧
    s.link.stations[(4 : StationIx)] = some (.start (.packer 0) .two) ∧
    s.link.stations[(29 : StationIx)] = some (.start (.line 1) .two) ∧
    (inUse s.link.stations).length = 3 := by
  decide +kernel

theorem witness_LoadTakesTheImageOrTheDefaults :
    let img := (List.range 195).map (Memory.read goodEeprom)
    State.reset.partState = .loading ∧ bytesAt img 0 2 = 0x5A62 ∧ bytesAt img 2 1 = 195 ∧
    (img.map BitVec.toNat).sum % 256 = 0 ∧
    ¬ bytesAt ((List.range 195).map (Memory.read State.reset.eeprom)) 0 2 = 0x5A62 := by
  decide +kernel

theorem witness_SupplyMovesThePartState :
    base.partState = .ready ∧ onHold.partState = .hold ∧ State.reset.partState = .loading ∧
    { onHold with resumeTimer := some 49 }.resumeTimer = some 49 ∧ onHold.supplyOk = true := by
  decide +kernel

theorem witness_RoundStartCountsTheRound :
    base.partState = .ready ∧ base.link.turn = none ∧ base.link.round = none ∧
    base.link.stations[(0 : StationIx)] = some (.start (.line 0) .one) := by
  decide +kernel

/-- A retry owed; the first turn of a round; the ISOLATED station at 10 with its probe due, and due
and late; the level-two slot from after a rotation point; a round with nothing left; and a poll that
is being sent, in READY and in HOLD. -/
theorem witness_PollSendSendsTheNextPoll :
    let due := { Station.start (.line 9) .one with isolated := true, probeDue := true }
    let passed : RoundPosition := { levelOneAfter := 9, levelTwoDone := false, late := [9] }
    let sending := after .pollSend (after .roundStart base)
    ((after .replyTimeout (polled 0)).link.turn.map fun t => t.phase) = some .due ∧
    (after .roundStart base).link.round = some { levelOneAfter := 0, levelTwoDone := false } ∧
    (after .roundStart base).link.turn = none ∧
    (after .roundStart base).link.stations[(0 : StationIx)] = some (.start (.line 0) .one) ∧
    due.level = .one ∧ due.probeDue = true ∧ (9 : StationIx) ∉ ([] : List StationIx) ∧
    passed.levelOneAfter ≤ (9 : StationIx).val ∧ (9 : StationIx) ∈ passed.late ∧
    (∀ e : StationIx, passed.levelOneAfter ≤ e.val →
      (base.link.stations[e].all fun u => decide (u.level = .two ∨ e ∈ passed.late))) ∧
    base.link.stations[(17 : StationIx)] = some (.start (.packer 4) .two) ∧
    ((17 : StationIx).val + 29 - (16 : StationIx).val) % 30 = 0 ∧
    (sending.link.turn.map fun t => t.phase) = some .sending ∧ sending.partState = .ready ∧
    (after .supplyOkFall sending).partState = .hold ∧
    ((after .supplyOkFall sending).link.turn.map fun t => t.phase) = some .sending := by
  decide +kernel

/-- The rows of R117's table, and a packer's station. -/
theorem witness_PollCarriesOrderAndAnswer :
    base.link.stations[(0 : StationIx)] = some (.start (.line 0) .one) ∧
    base.link.stations[(16 : StationIx)] = some (.start (.packer 3) .two) ∧
    ((withLine 0 (fun l => { l with suspended := true }) base).works.line 0).suspended = true ∧
    (base.works.line 0).suspended = false ∧ (base.works.line 0).state = .running ∧
    (base.works.line 0).cut = .noCut ∧
    ((cutting .ordered none base).works.line 0).cut = .ordered ∧
    ((cutting .held (some 3) base).works.line 0).cut = .held ∧
    { (base.works.line 0) with halted := true }.halted = true ∧
    (base.works.line 1).state = .primed ∧ (base.works.line 2).state = .idle ∧
    (base.works.line 3).state = .starved ∧
    { (base.works.line 0) with state := .releasing, cut := .ordered }.state = .releasing := by
  decide +kernel

/-- A try with another to come; the last try of a station below the threshold, one failure below it
and with isolation disabled; a probe; HOLD; and no exchange. -/
theorem witness_FailedExchangeRetriesOrIsolates :
    (polled 0).partState = .ready ∧ (polled 0).link.reception = none ∧
    (polled 0).link.turn =
      some { station := 0, probe := false, tries := 1, extras := 0, phase := .waiting } ∧
    (polled 0).link.stations[(0 : StationIx)] = some (.start (.line 0) .one) ∧
    1 ≤ (polled 0).settings.retryLimit ∧ (polled 0).settings.retryLimit < 3 ∧
    0 < (polled 0).settings.isolationThreshold ∧
    min 255 (6 + 1) < (polled 0).settings.isolationThreshold ∧
    (polled 0).settings.isolationThreshold ≤ min 255 (7 + 1) ∧
    (polled 9).link.stations[(9 : StationIx)] =
      some { Station.start (.line 9) .one with isolated := true } ∧
    { polled 0 with partState := .hold }.partState = .hold ∧ base.link.turn = none := by
  decide +kernel

/-- No frame in reception, one of two characters, and one whose length byte comes next. -/
theorem witness_CharacterReceivedCollectsAFrame :
    (polled 0).link.reception = none ∧ (0xA4 : Byte) ≠ 0xA5 ∧ ([1, 0x10] : List Byte).length < 3 ∧
    ([1, 0x10, 0] : List Byte).length = 3 ∧ 48 < (49 : Byte).toNat ∧
    (polled 0).link.turn =
      some { station := 0, probe := false, tries := 1, extras := 0, phase := .waiting } ∧
    1 ≤ (polled 0).settings.retryLimit := by
  decide +kernel

theorem witness_CharactersDeliverTheirFrame :
    (polled 0).link.reception = none ∧ (List.replicate 48 (0 : Byte)).length ≤ 48 := by
  decide +kernel

/-- Each lookup; and a frame of an ISOLATED station, a duplicate, a gap, and MORE with an extra
exchange left and with none. -/
theorem witness_IdleAndLookupsAreAnswered :
    ((polled 0).expects 0 (.line 0) 1 9 [0] ∧ (polled 0).expects 0 (.line 0) 1 9 [0, 1] ∧
      (polled 16).expects 16 (.packer 3) 17 9 [0, 2] ∧
      (polled 16).expects 16 (.packer 3) 17 9 [0, 3, 0, 5, 0, 2] ∧
      (polled 16).works.queues[3] = [⟨5, 2⟩] ∧
      (polled 16).works.coil? ⟨5, 2⟩ = some (coilOf 2 0 .full (some 3) 100000 (some 200000))) ∧
    let dup := { Station.start (.line 0) .one with expected := some 10, last := some 9 }
    let gap := { Station.start (.line 0) .one with expected := some 8, last := some 7 }
    (Instr.idle 10 9 [1]).frame? = some (0x10, 10, 9, [1]) ∧
    (polled 9).link.turn =
      some { station := 9, probe := false, tries := 1, extras := 0, phase := .waiting } ∧
    (10 : Byte).toNat = (9 : StationIx).val + 1 ∧
    ((polled 9).link.stations[(9 : StationIx)].map fun st => st.isolated) = some true ∧
    dup.isolated = false ∧ (10 : Byte) ≠ 9 ∧ dup.last = some 9 ∧ (10 : Byte) = 9 + 1 ∧
    gap.expected = some 8 ∧ (8 : Byte) ≠ 9 ∧ gap.last ≠ some 9 ∧
    moreOf [1] = true ∧ 2 < 3 ∧ ¬ 3 < 3 ∧ (polled 9).partState = .ready :=
  ⟨⟨polled_expects _ _ _ _ _ (by decide +kernel), polled_expects _ _ _ _ _ (by decide +kernel),
      polled_expects _ _ _ _ _ (by decide +kernel), polled_expects _ _ _ _ _ (by decide +kernel),
      by decide +kernel, by decide +kernel⟩,
    by decide +kernel⟩

/-- An IDLE line; a PRIMED one one millimetre before its order point, and, with the lead clamped to
the target, at it, with no lane, with a place at packer 3 and with none at packer 4. -/
theorem witness_TallyTakesTheBaselines :
    let payload := tallyPayload 0 ⟨80, 250, 0, 0⟩ []
    let ahead := ((polled 1).works.line 1).spec
    let clamped := { ahead with cutLead := ahead.target }
    ((polled 2).expects 2 (.line 2) 3 9 payload ∧ (polled 1).expects 1 (.line 1) 2 9 payload) ∧
    tallyLengthOk payload.length = true ∧ ((polled 2).works.line 2).state = .idle ∧
    ((polled 1).works.line 1).state = .primed ∧
    (polled 1).works.currentCoil? 1 = some (coilOf 5 1 .opened none 0 none) ∧
    ((polled 1).works.line 1).cut = .noCut ∧ ((polled 1).works.line 1).halted = false ∧
    0 < 0 + (ahead.target - min ahead.cutLead ahead.target) ∧
    0 + (clamped.target - min clamped.cutLead clamped.target) ≤ 0 ∧
    (polled 1).works.lanes[1] = none ∧ (polled 1).works.placesInUse 3 < 6 ∧
    6 ≤ Works.placesInUse { base.works with
      queues := base.works.queues.set 4 (List.replicate 6 ⟨5, 2⟩) } 4 :=
  ⟨⟨polled_expects _ _ _ _ _ (by decide +kernel), polled_expects _ _ _ _ _ (by decide +kernel)⟩,
    by decide +kernel⟩

/-- The largest plausible difference; a check length that is below the floor, that agrees to the
permille, and that does not; a coil whose order point is passed and one whose is not; a HELD line;
a pending joint close at the run position and one beyond it; and a slip run that opens a zone. -/
theorem witness_TallyCreditsTheLength :
    let payload := tallyPayload 0 ⟨80, 32767, 0, 0⟩ []
    let counts := countsAt payload 1
    let l := (polled 0).works.line 0
    (polled 0).expects 0 (.line 0) 1 9 payload ∧ tallyLengthOk payload.length = true ∧
    l.state = .running ∧ l.lot = some 5 ∧ (payload.getD 0 0).getLsbD 1 = false ∧
    (counts.spindle - l.baselines.spindle).toNat < 32768 ∧
    (counts.wheelA - l.baselines.wheelA).toNat < 32768 ∧
    (counts.wheelB - l.baselines.wheelB).toNat < 32768 ∧
    (counts.rows - l.baselines.rows).toNat < 32768 ∧
    (MeasureSource.wheelA = l.measure ∧ CheckSource.off = l.check) ∧
    99 * l.wheelB < 100000 ∧ 100000 ≤ 100 * l.wheelB ∧
    (polled 0).settings.slipPermille = 50 ∧ (100000 - 95000) * 1000 ≤ 50 * 100000 ∧
    50 * 100000 < (100000 - 94000) * 1000 ∧
    ((polled 0).works.currentCoil? 0).isSome = true ∧
    200000 + (laid.target - min laid.cutLead laid.target) = 397000 ∧
    250000 + 32767 < 397000 ∧ ((cutting .held (some 3) (polled 0)).works.line 0).halted = false ∧
    { l with jointClose := some 282767 }.tallyAsks 50 counts [] false 282767 =
      [.openAt .twist 250000 (-3139), .closeAt .joint 282767] ∧
    { l with jointClose := some 282768 }.tallyAsks 50 counts [] false 282767 =
      [.openAt .twist 250000 (-3139)] ∧
    { SlipDetector.reset with slipRun := 2, slipStart := 249000, slipPeak := 55 }.asks 50 100000
      94000 = [.openAt .slip 249000 60] :=
  ⟨polled_expects _ _ _ _ _ (by decide +kernel), by decide +kernel⟩

/-- The smallest implausible difference; a line with a coil, whose grade is not final, and the
STARVED line 3 without one. -/
theorem witness_ImplausibleTallyResyncs :
    let payload := tallyPayload 0 ⟨80, 32768, 0, 0⟩ []
    let l := (polled 0).works.line 0
    (polled 0).expects 0 (.line 0) 1 9 payload ∧ tallyLengthOk payload.length = true ∧
    l.state = .running ∧ 32768 ≤ ((countsAt payload 1).wheelA - l.baselines.wheelA).toNat ∧
    (∃ c, (polled 0).works.currentCoil? 0 = some c ∧ c.final = false ∧
      Reason.lengthUncertain ∉ c.reasons ∧ c.grade = c.gradeAt ((polled 0).works.coilLength c)) ∧
    (base.works.line 3).state = .starved ∧ base.works.currentCoil? 3 = none :=
  ⟨polled_expects _ _ _ _ _ (by decide +kernel), by decide +kernel, by decide +kernel,
    by decide +kernel, ⟨_, rfl, by decide +kernel⟩, by decide +kernel⟩

/-- The records that a TALLY with a frame's counts leaves, by evaluation. -/
theorem countsTo_after (s : State) (d : StationIx) (a q : Byte) (restarted : Bool)
    (counts : Counts) (w : Works)
    (h : s.takeFrame 0x11 a q (tallyPayload (if restarted then 2 else 0) counts []) =
      s.afterReply d q none w) : s.countsTo d a q restarted counts w :=
  congrArg Host.Outcome.next h

/-- Marks of line 0 100 counts back, 10 counts ahead and by resync, of the PRIMED line 1, of the
STARVED line 3 and of the IDLE line 2; coils with an open OPERATOR and an open JOINT zone, and with
8 zones; the pending joint close behind, and at, the run position. -/
theorem witness_BackdatedMarkReachesItsCoil :
    let payload := markPayload 0 .joint ⟨0, 65436, 0, 0⟩
    let l := (polled 0).works.line 0
    let zoned := fun zs : List Zone => { coilOf 4 0 .opened none 200000 none with zones := zs }
    ((polled 0).expects 0 (.line 0) 1 9 payload ∧ (polled 2).expects 2 (.line 2) 3 9 payload) ∧
    (polled 0).handsOn 0 0 1 9 false ⟨0, 65436, 0, 0⟩ (polled 0).works 249900 ∧
    (∃ u pos, (polled 0).handsOn 0 0 1 9 false ⟨0, 10, 0, 0⟩ u pos ∧
      (u.line 0).position = 250010 ∧ (u.currentCoil? 0).isSome = true) ∧
    (∃ u pos, (polled 0).handsOn 0 0 1 9 true ⟨0, 65436, 0, 0⟩ u pos ∧
      (u.line 0).resyncs = 1) ∧
    (∃ u, (polled 1).handsOn 1 1 2 9 false ⟨0, 10, 0, 0⟩ u 0 ∧
      (u.line 1).state = .running ∧ (u.currentCoil? 1).isSome = true) ∧
    (polled 3).handsOn 3 3 4 9 false ⟨0, 65436, 0, 0⟩ (polled 3).works 89900 ∧
    (polled 3).works.currentCoil? 3 = none ∧ ((polled 2).works.line 2).state = .idle ∧
    payload.length = 10 ∧ payload.getD 1 0 = 1 ∧
    (((polled 0).works.currentCoil? 0).all fun c =>
      !c.hasOpen .joint && !c.hasOpen .operator && decide (c.zones.length < 8) &&
      decide (c.start = 200000)) = true ∧
    ((polled 0).works.currentCoil? 0).isSome = true ∧
    l.position < 249900 + l.spec.jointMargin ∧ 248500 + l.spec.jointMargin ≤ l.position ∧
    (markPayload 0 .flawStart ⟨0, 65436, 0, 0⟩).getD 1 0 = 2 ∧
    (markPayload 0 .flawEnd ⟨0, 65436, 0, 0⟩).getD 1 0 = 3 ∧
    ((zoned [⟨.operator, 5, none, 0⟩]).openZone? .operator).isSome = true ∧
    (zoned [⟨.joint, 5, none, 1⟩]).hasOpen .joint = true ∧
    { zoned [] with unlistedOpen := [.joint] }.hasOpen .joint = true ∧
    (zoned (List.replicate 7 ⟨.twist, 5, some 6, 1⟩)).zones.length < 8 ∧
    8 ≤ (zoned (List.replicate 8 ⟨.twist, 5, some 6, 1⟩)).zones.length ∧
    max (({ l with jointClose := some 250000 }.jointClose).getD 0)
      (248500 + l.spec.jointMargin) ≤ l.position ∧
    l.position < max (({ l with jointClose := some 250001 }.jointClose).getD 0)
      (248500 + l.spec.jointMargin) :=
  ⟨⟨polled_expects _ _ _ _ _ (by decide +kernel), polled_expects _ _ _ _ _ (by decide +kernel)⟩,
    .behind _ (by decide +kernel) (by decide +kernel) rfl (by decide +kernel) (by decide +kernel)
      (by decide +kernel),
    ⟨(after (.tally 1 9 (tallyPayload 0 ⟨0, 10, 0, 0⟩ [])) (polled 0)).works, _,
      .counted _ (by decide +kernel) (by decide +kernel) (by decide +kernel)
        (countsTo_after _ _ _ _ _ _ _ (by decide +kernel)), by decide +kernel⟩,
    ⟨(after (.tally 1 9 (tallyPayload 2 ⟨0, 65436, 0, 0⟩ [])) (polled 0)).works, _,
      .counted _ (by decide +kernel) (by decide +kernel) (by decide +kernel)
        (countsTo_after _ _ _ _ _ _ _ (by decide +kernel)), by decide +kernel⟩,
    ⟨(after (.tally 2 9 (tallyPayload 0 ⟨0, 10, 0, 0⟩ [])) (polled 1)).works,
      .primed _ (by decide +kernel) (countsTo_after _ _ _ _ _ _ _ (by decide +kernel)),
      by decide +kernel⟩,
    .behind _ (by decide +kernel) (by decide +kernel) rfl (by decide +kernel) (by decide +kernel)
      (by decide +kernel), by decide +kernel⟩

/-- Line 0 with its cut ordered and a place at packer 3, with no cut ordered and no lane, and with
an amendment pending; a cut 10 m back; a coil with an open TWIST zone; and a free entry with
sequences left, no sequence left, and no entry. -/
theorem witness_CutMakesABoundary :
    let s := cutting .ordered (some 3) (polled 0)
    let payload := cutDonePayload 0 ⟨0, 55536, 0, 0⟩
    let l := s.works.line 0
    let c := { coilOf 4 0 .opened none 200000 none with
      zones := [⟨.twist, 10000, none, -200⟩], reasons := [.zones], grade := .reject }
    let full : Vector (Option Coil) 96 := tableOf fun e =>
      some (coilOf (e.val + 1) 0 .opened none 0 none)
    State.keysLawful { s with works := s.works } ∧ s.expects 0 (.line 0) 1 9 payload ∧
    s.handsOn 0 0 1 9 false (countsAt payload 1) s.works 240000 ∧
    c.zonesLawful ∧ payload.length = 9 ∧
    l.state = .running ∧ l.cut = .ordered ∧ l.reserved = some 3 ∧ l.amendPending = false ∧
    { l with amendPending := true }.amendPending = true ∧
    l.lot = some 5 ∧ s.works.lot? 5 = some (lotOf 5 laid .opened 6) ∧
    lowestFree s.works.coils = some 5 ∧ lowestFree full = none ∧ 9999 < 10000 ∧
    s.works.currentCoil? 0 = some c ∧
    (l.measure.of ((countsAt payload 1).minus l.baselines)).toInt = -10000 ∧
    s.works.clampPosition 0 (l.backdated (-10000)) = 240000 ∧
    ((polled 0).works.line 0).cut = .noCut ∧ (polled 0).works.lanes[0] = none ∧
    (polled 0).works.placesInUse 3 < 6 ∧ s.works.packerFor 0 = some 3 ∧
    (polled 0).works.packerFor 0 = none ∧ 219999 - c.start < c.limits.minSound ∧
    ¬ 220000 - c.start < c.limits.minSound :=
  ⟨⟨base_keysLawful.oneLot, base_keysLawful.oneCoil, base_keysLawful.issued⟩,
    ⟨rfl, by decide +kernel, by decide +kernel, by decide +kernel, by decide +kernel⟩,
    .behind _ (by decide +kernel) (by decide +kernel) rfl (by decide +kernel) (by decide +kernel)
      (by decide +kernel),
    ⟨by decide +kernel, by simp [zonesOrdered], by decide +kernel,
      fun _ => List.length_filter_le _ _⟩,
    by decide +kernel⟩

/-- Line 0 RELEASING and a cut 10 m back, alone in a CLOSING lot or not; the IDLE line 2; the PRIMED
line 1, whose cut lies at its coil's start; and the STARVED line 3. -/
theorem witness_ReleaseCutFreesTheLine :
    let s := withLine 0 (fun l => { l with state := .releasing, cut := .ordered }) (polled 0)
    let payload := cutDonePayload 0 ⟨0, 55536, 0, 0⟩
    let l := s.works.line 0
    let last := (s.works.modifyLine 1 Line.toIdle).modifyLine 3 Line.toIdle
    s.expects 0 (.line 0) 1 9 payload ∧ (polled 2).expects 2 (.line 2) 3 9 payload ∧
    s.handsOn 0 0 1 9 false (countsAt payload 1) s.works 240000 ∧
    (∃ u, (polled 1).handsOn 1 1 2 9 false ⟨0, 10, 0, 0⟩ u 0 ∧ (u.line 1).state = .running ∧
      ((u.currentCoil? 1).map fun c => c.start) = some 0) ∧
    (polled 3).handsOn 3 3 4 9 false ⟨0, 65436, 0, 0⟩ (polled 3).works 89900 ∧
    ((polled 3).works.line 3).state = .starved ∧
    payload.length = 9 ∧ l.state = .releasing ∧ l.lot = some 5 ∧
    s.works.lot? 5 = some (lotOf 5 laid .opened 6) ∧
    ((s.works.currentCoil? 0).map fun c => (c.key, c.start)) = some (⟨5, 4⟩, 200000) ∧
    (l.measure.of ((countsAt payload 1).minus l.baselines)).toInt = -10000 ∧
    s.works.clampPosition 0 (l.backdated (-10000)) = 240000 ∧
    s.works.runningSet 5 = [0, 1, 3] ∧ last.runningSet 5 = [0] ∧ s.works.packerFor 0 = none ∧
    219999 - 200000 < laid.minSound ∧ ¬ 220000 - 200000 < laid.minSound ∧
    ((polled 2).works.line 2).state = .idle :=
  ⟨⟨rfl, by decide +kernel, by decide +kernel, by decide +kernel, by decide +kernel⟩,
    polled_expects _ _ _ _ _ (by decide +kernel),
    .behind _ (by decide +kernel) (by decide +kernel) rfl (by decide +kernel) (by decide +kernel)
      (by decide +kernel),
    ⟨(after (.tally 2 9 (tallyPayload 0 ⟨0, 10, 0, 0⟩ [])) (polled 1)).works,
      .primed _ (by decide +kernel) (countsTo_after _ _ _ _ _ _ _ (by decide +kernel)),
      by decide +kernel⟩,
    .behind _ (by decide +kernel) (by decide +kernel) rfl (by decide +kernel) (by decide +kernel)
      (by decide +kernel), by decide +kernel⟩

/-- A FULL head, a TAKEN head, a SEALED coil, no coil, and a coil that is not the head. -/
theorem witness_TakenTakesTheHead :
    (polled 16).expects 16 (.packer 3) 17 9 [0, 0, 5, 0, 2] ∧
    (polled 17).expects 17 (.packer 4) 18 9 [0, 0, 5, 0, 3] ∧
    base.works.coil? ⟨5, 2⟩ = some (coilOf 2 0 .full (some 3) 100000 (some 200000)) ∧
    base.works.queues[3].head? = some ⟨5, 2⟩ ∧
    base.works.coil? ⟨5, 3⟩ = some (coilOf 3 3 .taken (some 4) 0 (some 90000)) ∧
    base.works.queues[4].head? = some ⟨5, 3⟩ ∧
    ((base.works.coil? ⟨5, 1⟩).map fun c => c.state) = some .sealed ∧
    base.works.coil? ⟨5, 9⟩ = none ∧ base.takesRecordCommands ∧
    ((base.works.coil? ⟨5, 3⟩).all fun c => c.zones.isEmpty) = true ∧
    keyAt (CoilKey.bytes ⟨5, 3⟩ ++ toBytes 4 10 ++ toBytes 4 20) 0 = ⟨5, 3⟩ ∧
    base.works.queues[3].head? ≠ some ⟨5, 3⟩ :=
  ⟨polled_expects _ _ _ _ _ (by decide +kernel), polled_expects _ _ _ _ _ (by decide +kernel),
    by decide +kernel, by decide +kernel, by decide +kernel, by decide +kernel, by decide +kernel,
    by decide +kernel, base_takesRecordCommands, by decide +kernel⟩

/-- The TAKEN head of packer 4 with and without a line held, a FULL head, a SEALED coil, no coil,
and an OPEN coil. -/
theorem witness_SealedSealsTheHead :
    let payload : List Byte := [0, 0, 5, 0, 3, 0, 0, 0, 1]
    let c := coilOf 3 3 .taken (some 4) 0 (some 90000)
    let heldWorks := (cutting .held (some 4) (polled 17)).works.joinHeld 4 0
    ((polled 17).expects 17 (.packer 4) 18 9 payload ∧
      (polled 16).expects 16 (.packer 3) 17 9 payload) ∧ payload.length = 9 ∧
    (polled 17).works.coil? (keyAt payload 1) = some c ∧ c.state = .taken ∧ c.final = false ∧
    (polled 17).works.queues[4].head? = some (keyAt payload 1) ∧ bytesAt payload 5 4 = 1 ∧
    (polled 17).works.held[4] = [] ∧ heldWorks.held[4] = [0] ∧
    heldWorks.queues[4].head? = some (keyAt payload 1) ∧
    (heldWorks.currentCoil? 0).isSome = true ∧ base.works.queues[3].head? = some ⟨5, 2⟩ ∧
    ((base.works.coil? ⟨5, 2⟩).map fun c => c.state) = some .full ∧
    ((base.works.coil? ⟨5, 1⟩).map fun c => c.state) = some .sealed ∧
    ((base.works.coil? ⟨5, 4⟩).map fun c => c.state) = some .opened ∧
    base.works.coil? ⟨5, 9⟩ = none :=
  ⟨⟨polled_expects _ _ _ _ _ (by decide +kernel), polled_expects _ _ _ _ _ (by decide +kernel)⟩,
    by decide +kernel⟩

/-- Kinds just below and just above those that a station may send; a TALLY of 8 bytes; a CUT_DONE of
a packer's station and a TAKEN of a line's. -/
theorem witness_InvalidKindIsAProtocolError :
    let short := List.replicate 8 (0 : Byte)
    (polled 0).expects 0 (.line 0) 1 9 [0] ∧ (polled 0).expects 0 (.line 0) 1 9 short ∧
    (polled 16).expects 16 (.packer 3) 17 9 (List.replicate 9 0) ∧
    (polled 0).expects 0 (.line 0) 1 9 (List.replicate 5 0) ∧
    (∀ c' : Instr, c'.frame? = some (0x11, 1, 9, short) → c'.wf = false) ∧
    stationKinds.contains 0x11 = true ∧ stationKinds.contains 0x0F = false ∧
    stationKinds.contains 0x17 = false :=
  ⟨polled_expects _ _ _ _ _ (by decide +kernel), polled_expects _ _ _ _ _ (by decide +kernel),
    polled_expects _ _ _ _ _ (by decide +kernel), polled_expects _ _ _ _ _ (by decide +kernel),
    fun c' h => by
      cases c' <;> simp only [Instr.frame?, reduceCtorEq, Option.some.injEq, Prod.mk.injEq] at h <;>
        obtain ⟨h1, h2, h3, h4⟩ := h <;> subst_vars <;> first | contradiction | decide,
    by decide, by decide, by decide⟩

theorem witness_EepromChangesOnlyUnderAWrite :
    let s := after (.storeWrite [0, 3, 9]) { base with eeprom := [(3, 1), (4, 2)] }
    Memory.wf s.eeprom = true ∧ s.port.store = some ⟨3, some 9⟩ ∧ 4 ≠ 3 := by
  decide +kernel

theorem witness_LinkRowsLeaveTheRestOfThePart :
    Instr.onLink .roundStart = true ∧ Instr.onLink (.tally 1 0 []) = true := by
  decide

/-- A KNOT line whose TALLY brings 3 rows. -/
theorem witness_FaultEntryMapsToTheNewestRow :
    let l := { lineOf5 .running 250000 none with kind := .knot, measure := .rows, spec := net }
    let payload := tallyPayload 4 ⟨80, 250, 0, 3⟩ [⟨2, 390⟩]
    (withLine 0 (fun _ => l) (polled 0)).creditable 0 0 1 9 payload ∧
    256 ≤ 32767 ∧ mapEntry 5 0 5 = none ∧
    (withLine 0 (fun _ => l) (polled 0)).works.line 0 = l ∧ l.kind = .knot ∧
    (withLine 0 (fun _ => l) (polled 0)).works.currentCoil? 0 = none ∧ l.unrecorded ≤ 65535 :=
  ⟨⟨⟨rfl, by decide +kernel, by decide +kernel, by decide +kernel, by decide +kernel⟩,
      by decide +kernel, by decide +kernel, by decide +kernel, by decide +kernel,
      by decide +kernel, by decide +kernel, by decide +kernel⟩,
    by decide +kernel⟩

/-- A tolerance band past 65,535; a TALLY of the TWIST line 0; and windows of 15 and 16 segments. -/
theorem witness_TwistVerdictFollowsTheBand :
    let sp := { laid with nominalTwist := 60000, twistTolerance := 100 }
    (polled 0).creditable 0 0 1 9 (tallyPayload 0 ⟨80, 250, 0, 0⟩ []) ∧
    100 ≤ laid.nominalTwist ∧ laid.twistTolerance ≤ 300 ∧ sp.nominalTwist ≤ 65000 ∧
    65535 < sp.nominalTwist + sp.nominalTwist * sp.twistTolerance / 1000 ∧
    ((polled 0).works.line 0).kind = .twist ∧ (polled 0).works.currentCoil? 0 ≠ none ∧
    (polled 3).works.currentCoil? 3 = none ∧ ((polled 3).works.line 3).unrecorded ≤ 65535 ∧
    ¬ 16 ≤ 15 ∧ 16 ≤ 16 :=
  ⟨⟨polled_expects _ _ _ _ _ (by decide +kernel), by decide +kernel, by decide +kernel,
      by decide +kernel, by decide +kernel, by decide +kernel, by decide +kernel,
      by decide +kernel⟩,
    by decide +kernel⟩

/-- Every field at the largest value its bytes hold. -/
theorem witness_SpecificationBlockRoundTrips :
    let sp : Spec :=
      { kind := .net, layDirection := 255, nominalTwist := 65535, twistTolerance := 65535,
        twistSpan := 255, persistence := 65535, knotsPerRow := 65535, rowPitch := 65535,
        faultRowsToOpen := 255, soundRowsToClose := 255, target := 4294967295, cutLead := 65535,
        allowance := 4294967295, minSound := 4294967295, maxJoints := 255, jointMargin := 65535,
        rejectShare := 65535, densityNominal := 4294967295, densityTolerance := 255 }
    sp.kind = .net ∧ sp.layDirection < 256 ∧ sp.nominalTwist < 65536 ∧
    sp.twistTolerance < 65536 ∧ sp.twistSpan < 256 ∧ sp.persistence < 65536 ∧
    sp.knotsPerRow < 65536 ∧ sp.rowPitch < 65536 ∧ sp.faultRowsToOpen < 256 ∧
    sp.soundRowsToClose < 256 ∧ sp.target < 4294967296 ∧ sp.cutLead < 65536 ∧
    sp.allowance < 4294967296 ∧ sp.minSound < 4294967296 ∧ sp.maxJoints < 256 ∧
    sp.jointMargin < 65536 ∧ sp.rejectShare < 65536 ∧ sp.densityNominal < 4294967296 ∧
    sp.densityTolerance < 256 := by
  decide

theorem witness_StationPayloadsRoundTrip :
    (List.replicate 8 (FaultEntry.mk 255 65535)).length ≤ 8 ∧
    (∀ e ∈ List.replicate 8 (FaultEntry.mk 255 65535), e.tied < 65536) := by
  decide

/-! ### The invariants -/

theorem base_zonesLawful : base.zonesLawful := fun c h => by
  have hc : c.zones = [] ∨ c.zones = [⟨.twist, 10000, none, -200⟩] :=
    (show ∀ c ∈ inUse base.works.coils,
      c.zones = [] ∨ c.zones = [⟨.twist, 10000, none, -200⟩] by decide +kernel) c h
  obtain e | e := hc
  · exact ⟨by simp [e], by simp [e, zonesOrdered], by simp [e], by simp [e]⟩
  · refine ⟨by simp [e, Config.zoneLimit], by simp [e, zonesOrdered], by simp [e], fun q => ?_⟩
    rw [e]
    exact (List.length_filter_le _ _)

theorem base_placesLawful : base.placesLawful where
  limit := by decide +kernel
  queued := by decide +kernel

theorem base_closedLotsIdle : base.closedLotsIdle :=
  show ∀ l ∈ inUse base.works.lots, l.state = .closed → base.works.runningSet l.number = [] by
    decide +kernel

/-- `base` with records in their ranges is in its ranges. -/
theorem ranged_of_works (w : Works)
    (lots : ∀ l ∈ inUse w.lots, (1 ≤ l.number ∧ l.number ≤ 65535) ∧ l.revision ≤ 255 ∧
      l.produced ≤ Config.positionLimit ∧ l.unassigned ≤ Config.positionLimit ∧
      l.retired ≤ Config.positionLimit ∧
      (1 ≤ l.nextSequence ∧ l.nextSequence ≤ Config.sequenceExhausted))
    (positions : ∀ i, (w.line i).position ≤ Config.positionLimit ∧
      (w.line i).remainder < 1000 ∧ (w.line i).revision ≤ 255 ∧
      (w.line i).slip.slipRun ≤ 2 ∧ (w.line i).slip.cleanRun ≤ 2 ∧
      (w.line i).twist.window.length ≤ Config.windowLimit ∧
      (w.line i).twist.lastValue ≤ 65535)
    (counters : ∀ i, (w.line i).slipTallies ≤ Config.counterLimit ∧
      (w.line i).resyncs ≤ Config.counterLimit ∧
      (w.line i).sequenceGaps ≤ Config.counterLimit ∧
      (w.line i).staleEntries ≤ Config.counterLimit ∧
      (w.line i).unrecorded ≤ Config.counterLimit ∧
      (w.line i).knot.faultRun ≤ Config.counterLimit ∧
      (w.line i).knot.soundRun ≤ Config.counterLimit)
    (coils : ∀ c ∈ inUse w.coils,
      (1 ≤ c.key.sequence ∧ c.key.sequence < Config.sequenceExhausted) ∧ c.revision ≤ 255 ∧
      c.joints ≤ Config.byteLimit ∧ c.unlisted ≤ Config.byteLimit ∧
      c.faultRows ≤ Config.counterLimit ∧ c.missedKnots ≤ Config.counterLimit ∧
      c.excessKnots ≤ Config.counterLimit ∧ c.slipTallies ≤ Config.counterLimit ∧
      c.weight = none ∧ c.density = none) :
    State.ranged { base with works := w } where
  lots l h := by
    obtain ⟨h1, h2, h3, h4, h5, h6⟩ := lots l h
    exact ⟨h1, h2, h3, h4, h5, h6⟩
  lines i := by
    obtain ⟨a1, a2, a3, a4, a5, a6, a7⟩ := positions i
    obtain ⟨b1, b2, b3, b4, b5, b6, b7⟩ := counters i
    exact ⟨a1, a2, a3, b1, b2, b3, b4, b5, a4, a5, a6, a7, b6, b7⟩
  coils c h := by
    obtain ⟨h1, h2, h3, h4, h5, h6, h7, h8, h9, h10⟩ := coils c h
    exact ⟨h1, h2, h3, h4, h5, h6, h7, h8, by simp [h9], by simp [h10]⟩
  stations st h := by
    have a := (show ∀ st ∈ inUse base.link.stations, st.failures ≤ Config.byteLimit ∧
      st.roundsSinceProbe ≤ Config.probeRounds ∧ st.sequenceGaps ≤ Config.counterLimit ∧
      st.protocolErrors ≤ Config.counterLimit by decide +kernel) st h
    exact ⟨a.1, a.2.1, a.2.2.1, a.2.2.2⟩
  settings := (⟨by decide, by decide, by decide, by decide, by decide, by decide, by decide,
    by decide⟩ : base.settings.ranged)
  roundCount := (by decide +kernel : base.link.roundCount < 32)
  resumeTimer := by intro n h; exact nomatch h
  fields := (by decide +kernel :
    base.port.result.fields.length ≤ 32 ∧ base.port.result.firstField ≤ 31)

theorem base_ranged : base.ranged :=
  ranged_of_works base.works (by decide +kernel) (by decide +kernel) (by decide +kernel)
    (by decide +kernel)

theorem witness_KeysStayLawful : base.keysLawful := base_keysLawful

theorem witness_RegistersStayInRange : base.keysLawful ∧ base.ranged :=
  ⟨base_keysLawful, base_ranged⟩

theorem witness_ZoneListsStayLawful : base.keysLawful ∧ base.zonesLawful :=
  ⟨base_keysLawful, base_zonesLawful⟩

theorem witness_PackerPlacesStayWithinSix : base.keysLawful ∧ base.placesLawful :=
  ⟨base_keysLawful, base_placesLawful⟩

theorem witness_ClosedLotsStayIdle : base.keysLawful ∧ base.closedLotsIdle :=
  ⟨base_keysLawful, base_closedLotsIdle⟩

/-- `base` with line 3 IDLE, line 4 measured by ROWS and the totals of lot 5 that its coils give:
100 m, 100 m, 90 m, 50 m and nothing. -/
def linked : State :=
  { base with works :=
    { ((base.works.modifyLine 3 fun _ => { Line.reset with kind := .twist }).modifyLine 4 fun _ =>
        { Line.reset with kind := .knot, measure := .rows }).modifyLot 5 (fun l =>
        { l with produced := 340000 }) with waitList := [] } }

theorem linked_keysLawful : linked.keysLawful where
  oneLot := unique_of_keys linked.works.lots (fun l => l.number) (by decide +kernel)
  oneCoil := unique_of_keys linked.works.coils (fun c => c.key) (by decide +kernel)
  issued := by decide +kernel

theorem linked_line (i : LineIx) : linked.lineLinked i where
  lot := by revert i; decide +kernel
  coil := by revert i; decide +kernel
  starve := by revert i; decide +kernel
  unused := by revert i; decide +kernel
  suspended := by revert i; decide +kernel
  amendment := by revert i; decide +kernel
  runs n h := by
    have a : ∀ i : LineIx, (linked.works.line i).lot = none ∨
        ((linked.works.line i).lot = some 5 ∧ (linked.works.line i).revision = 3) := by
      decide +kernel
    obtain e | ⟨e, r⟩ := a i
    · rw [e] at h; exact nomatch h
    · rw [e] at h; cases h
      exact ⟨{ lotOf 5 laid .opened 6 with produced := 340000 }, by decide +kernel,
        by decide +kernel, by rw [r]; decide, fun _ => r⟩
  current k h := by
    have a : ∀ i : LineIx, ((linked.works.line i).coil.all fun k =>
        decide ((linked.works.line i).lot = some k.lot) && (linked.works.coil? k).any fun c =>
          decide (c.state = .opened) && decide (c.line = i) &&
          decide (c.start ≤ (linked.works.line i).position) &&
          decide (c.revision = (linked.works.line i).revision)) = true := by
      decide +kernel
    have b := a i
    rw [h] at b
    simp only [Option.all_some, Bool.and_eq_true, decide_eq_true_eq, Option.any_eq_true] at b
    obtain ⟨b1, c, hc, ⟨⟨b2, b3⟩, b4⟩, b5⟩ := b
    exact ⟨b1, c, hc, b2, b3, b4, b5⟩
  primed := by revert i; decide +kernel

theorem linked_coil (c : Coil) (h : c ∈ inUse linked.works.coils) : linked.coilLinked c where
  opened := by revert c; decide +kernel
  ended := by
    have a : ∀ c ∈ inUse linked.works.coils, c.state ≠ .opened →
        (c.start ≤ c.stop.getD 0 ∧ c.stop.isSome = true) ∧
        (∀ z ∈ c.zones, z.stop ≠ none) ∧ c.unlistedOpen = [] := by
      decide +kernel
    intro hs
    obtain ⟨⟨a1, a2⟩, a3⟩ := a c h hs
    obtain ⟨e, he⟩ := Option.isSome_iff_exists.1 a2
    exact ⟨⟨e, he, by simpa [he] using a1⟩, a3⟩
  final := by revert c; decide +kernel
  revision t ht := by
    have a : ∀ c ∈ inUse linked.works.coils,
        c.revision ≤ ((linked.works.lot? c.key.lot).map fun t => t.revision).getD 0 := by
      decide +kernel
    simpa [ht] using a c h

theorem linked_recordsLinked : linked.recordsLinked where
  lines := linked_line
  coils := linked_coil
  roles := unique_of_keys linked.link.stations (fun st => st.role) (by decide +kernel) |> fun h =>
    fun d e st su hd he hr => h d e st su hd he hr
  waiting := by decide +kernel
  full h := absurd rfl h
  queues p := by
    have a : ∀ p : PackerIx, linked.works.queues[p].Nodup ∧
        (linked.works.queues[p].all fun k => (linked.works.coil? k).any fun c =>
          decide (c.packer = some p) && decide (c.state = .full ∨
            (c.state = .taken ∧ linked.works.queues[p].head? = some k))) = true := by
      decide +kernel
    refine ⟨(a p).1, fun k hk => ?_⟩
    have b := List.all_eq_true.1 (a p).2 k hk
    simp only [Option.any_eq_true, Bool.and_eq_true, decide_eq_true_eq] at b
    obtain ⟨c, hc, h1, h2⟩ := b
    exact ⟨c, hc, h1, h2⟩
  loading h := nomatch h

theorem linked_ranged : linked.ranged :=
  ranged_of_works linked.works (by decide +kernel) (by decide +kernel) (by decide +kernel)
    (by decide +kernel)

theorem linked_lengthConserved : linked.lengthConserved where
  totals := by decide +kernel
  lines i t h := by
    have a : ∀ i : LineIx, (((linked.works.line i).lot.bind linked.works.lot?).all fun t =>
        decide ((linked.works.line i).position ≤ t.produced)) = true := by
      decide +kernel
    have b := a i
    rw [h] at b
    simpa using b

theorem linked_zonesWithin : linked.zonesWithin where
  rows := by decide +kernel
  twist := by decide +kernel
  knot := by decide +kernel
  slip := by decide +kernel
  zones i c h _ z hz := by
    have a : ∀ i : LineIx, ((linked.works.currentCoil? i).all fun c => c.zones.all fun z =>
        decide (z.start ≤ linked.works.coilLength c) && z.stop.isNone) = true := by
      decide +kernel
    have b := a i
    rw [h] at b
    have b' := (by simpa using b : ∀ z ∈ c.zones, _) z hz
    exact ⟨b'.1, fun e he => nomatch b'.2 ▸ he⟩

theorem witness_LawsOfTheRecordsStay :
    linked.keysLawful ∧ linked.ranged ∧ linked.recordsLinked ∧ linked.lengthConserved ∧
    linked.zonesWithin ∧ step linked = .next linked.tick :=
  ⟨linked_keysLawful, linked_ranged, linked_recordsLinked, linked_lengthConserved,
    linked_zonesWithin, rfl⟩

end Sys2Proof.Tests
end

namespace Sys2Proof.Machine

/-! # Packing lanes: a TAKEN and a SEALED of a packer (R143, R144)

A frame that is due reaches its owner and ends the turn; a seal is one change of the coil record,
the exit from the queue, and the grant of the place that frees. -/

/-! ## A frame that was due (R157 to R160) -/

/-- R157, R159: the state in which the frame of an ACTIVE station, received in sequence, goes on to
the content check. -/
def State.inSequence (s : State) (d : StationIx) (sequence : Byte) : State :=
  { s with
    link := { s.link with
      reception := none,
      stations := s.link.stations.set d
        (s.link.stations[d].map fun st => st.taken sequence) } }

/-- An ACTIVE station's context after its exchange and its sequence check. -/
theorem Station.heard_sequenced (st : Station) (q : Byte) (h : st.isolated = false) :
    st.heard.sequenced q = st.taken q := by
  simp [Station.heard, Station.sequenced, Station.taken, h]

theorem Station.heard_sequenceFinding (st : Station) (q : Byte) (h : st.isolated = false)
    (hq : st.expected = none ∨ st.expected = some q) :
    st.heard.sequenceFinding q = .accepted := by
  simp [Station.heard, Station.sequenceFinding, h, hq]

/-- R157: without MORE the turn ends. -/
theorem State.afterFrame_last (s : State) (t : Turn) : s.afterFrame t false = s.endTurn := by
  simp [State.afterFrame]

/-- R157 to R160: a frame that is due has its content checked in sequence, and ends the turn. -/
theorem State.expects.takeFrame_eq {s : State} {d : StationIx} {role : Role} {a q : Byte}
    {payload : List Byte} (h : s.expects d role a q payload) (kind : Byte) :
    s.takeFrame kind a q payload =
      ((s.inSequence d q).takeContent d role kind payload).endTurn := by
  obtain ⟨t, ht, rfl⟩ := Option.map_eq_some_iff.1 h.outstanding
  obtain ⟨st, hst, hact⟩ := (Option.any_eq_true _ _).1 h.active
  obtain ⟨⟨rfl, hiso⟩, hq⟩ : (st.role = role ∧ st.isolated = false) ∧
      (st.expected = none ∨ st.expected = some q) := by simpa using hact
  have hreply : s.takeFrame kind a q payload = s.endReception.takeReply t st kind q payload := by
    simp only [State.takeFrame, ht, h.own, h.fits, hst, true_and, if_true]
  have hseq : (s.endReception.exchangeSucceeds t.station st).checkSequence t.station st.role q
      .accepted = s.inSequence t.station q := by
    simp [State.exchangeSucceeds, hiso, State.checkSequence, State.modifyStation,
      Link.modifyStation, State.endReception, State.inSequence, hst,
      Station.heard_sequenced st q hiso]
  rw [hreply, State.takeReply, Station.heard_sequenceFinding st q hiso hq, hseq, h.last]
  exact State.afterFrame_last _ _

/-- R160: records changed and an answer left on the way of a frame that is due. -/
theorem State.inSequence_answer (s : State) (d : StationIx) (q : Byte) (w : Works) (x : Answer) :
    (State.answer { s.inSequence d q with works := w } d x).endTurn =
      s.afterReply d q (some x) w := by
  simp [State.answer, State.modifyStation, Link.modifyStation, State.inSequence, State.afterReply,
    Function.comp_def]

/-- R143, R160: a TAKEN that is due reaches the Packer Queue Controller, and is answered. -/
theorem exec_taken_of_expects {s : State} {d : StationIx} {p : PackerIx} {a q : Byte}
    {payload : List Byte} (h : s.expects d (.packer p) a q payload) (hl : payload.length = 5) :
    exec (.taken a q payload) s =
      .next (s.afterReply d q (some (s.works.take p (keyAt payload 1)).2)
        (s.works.take p (keyAt payload 1)).1) := by
  have hc : contentOf 0x15 payload = some (.taken (keyAt payload 1)) := by simp [contentOf, hl]
  have ht : exec (.taken a q payload) s = .next (s.takeFrame 0x15 a q payload) := rfl
  rw [ht, h.takeFrame_eq, ← State.inSequence_answer]
  simp only [State.takeContent, hc]
  rfl

/-- R144, R160: a SEALED that is due reaches the Packer Queue Controller, and is answered. -/
theorem exec_sealed_of_expects {s : State} {d : StationIx} {p : PackerIx} {a q : Byte}
    {payload : List Byte} (h : s.expects d (.packer p) a q payload) (hl : payload.length = 9) :
    exec (.sealed a q payload) s =
      .next (s.afterReply d q
        (some (s.works.sealByPacker p (keyAt payload 1) (bytesAt payload 5 4)).2)
        (s.works.sealByPacker p (keyAt payload 1) (bytesAt payload 5 4)).1) := by
  have hc : contentOf 0x16 payload = some (.sealed (keyAt payload 1) (bytesAt payload 5 4)) := by
    simp [contentOf, sealedOf, hl]
  have ht : exec (.sealed a q payload) s = .next (s.takeFrame 0x16 a q payload) := rfl
  rw [ht, h.takeFrame_eq, ← State.inSequence_answer]
  simp only [State.takeContent, hc]
  rfl

/-! ## Changed coil records -/

theorem inUse_mapTable {α β : Type} {n : Nat} (f : α → β) (v : Vector (Option α) n) :
    inUse (mapTable (Option.map f) v) = (inUse v).map f := by
  simp [inUse, mapTable, List.filterMap_map, List.map_filterMap]

/-- The record of a key, read after a change that keeps every key. -/
theorem Works.coil?_modifyCoil (w : Works) (k k' : CoilKey) (f : Coil → Coil)
    (hf : ∀ c, (f c).key = c.key) :
    (w.modifyCoil k f).coil? k' = (w.coil? k').map fun c => if c.key = k then f c else c := by
  have hkey : ∀ c : Coil, (if c.key = k then f c else c).key = c.key := by
    intro c; split
    · exact hf c
    · rfl
  simp only [Works.coil?, Works.modifyCoil, inUse_mapTable, List.find?_map, Function.comp_def, hkey]

theorem Works.coil?_modifyCoil_self (w : Works) (k : CoilKey) (f : Coil → Coil) (c : Coil)
    (hf : ∀ c, (f c).key = c.key) (h : w.coil? k = some c) :
    (w.modifyCoil k f).coil? k = some (f c) := by
  rw [Works.coil?_modifyCoil w k k f hf, h, Option.map_some, if_pos (Works.coil?_some w k c h).2]

theorem Works.coil?_modifyCoil_other (w : Works) (k k' : CoilKey) (f : Coil → Coil)
    (hf : ∀ c, (f c).key = c.key) (h : k' ≠ k) :
    (w.modifyCoil k f).coil? k' = w.coil? k' := by
  rw [Works.coil?_modifyCoil w k k' f hf]
  cases hc : w.coil? k' with
  | none => rfl
  | some c =>
    have hk : c.key = k' := (Works.coil?_some w k' c hc).2
    rw [Option.map_some, if_neg (by rw [hk]; exact h)]

/-- Two changes of one record are one. -/
theorem Works.modifyCoil_modifyCoil (w : Works) (k : CoilKey) (f g : Coil → Coil)
    (hf : ∀ c, (f c).key = c.key) :
    (w.modifyCoil k f).modifyCoil k g = w.modifyCoil k fun c => g (f c) := by
  have hcomp : ∀ e : Option Coil,
      (e.map fun c => if c.key = k then f c else c).map (fun c => if c.key = k then g c else c) =
        e.map fun c => if c.key = k then g (f c) else c := by
    intro e
    cases e with
    | none => rfl
    | some c => by_cases hk : c.key = k <;> simp [hk, hf]
  simp [Works.modifyCoil, mapTable, Function.comp_def, hcomp]

/-- R21: a length is not read from the coil table or the queues. -/
@[simp] theorem Works.coilLength_modifyCoil (w : Works) (k : CoilKey) (f : Coil → Coil) (c : Coil) :
    (w.modifyCoil k f).coilLength c = w.coilLength c := rfl

@[simp] theorem Works.coilLength_leaveQueue (w : Works) (p : PackerIx) (k : CoilKey) (c : Coil) :
    (w.leaveQueue p k).coilLength c = w.coilLength c := rfl

/-! ## The seal of one coil (R110, R114, R145) -/

/-- R110: a reason that joins changes the reasons alone. -/
@[simp] theorem Coil.withReason_frame (c : Coil) (r : Reason) :
    (c.withReason r).key = c.key ∧ (c.withReason r).state = c.state ∧
    (c.withReason r).line = c.line ∧ (c.withReason r).packer = c.packer ∧
    (c.withReason r).start = c.start ∧ (c.withReason r).stop = c.stop ∧
    (c.withReason r).zones = c.zones ∧ (c.withReason r).weight = c.weight ∧
    (c.withReason r).density = c.density ∧ (c.withReason r).final = c.final ∧
    (c.withReason r).limits = c.limits := by
  unfold Coil.withReason
  split <;> exact ⟨rfl, rfl, rfl, rfl, rfl, rfl, rfl, rfl, rfl, rfl, rfl⟩

@[simp] theorem Coil.mem_withReason (c : Coil) (r r' : Reason) :
    r' ∈ (c.withReason r).reasons ↔ r' ∈ c.reasons ∨ r' = r := by
  unfold Coil.withReason
  split
  · next h =>
    have hr : r ∈ c.reasons := by simpa using h
    exact ⟨.inl, fun h => h.elim id fun e => e ▸ hr⟩
  · simp

/-- R112: a recomputed grade changes the grade alone. -/
@[simp] theorem Coil.regraded_frame (c : Coil) (len : Nat) :
    (c.regraded len).key = c.key ∧ (c.regraded len).state = c.state ∧
    (c.regraded len).line = c.line ∧ (c.regraded len).packer = c.packer ∧
    (c.regraded len).start = c.start ∧ (c.regraded len).stop = c.stop ∧
    (c.regraded len).zones = c.zones ∧ (c.regraded len).weight = c.weight ∧
    (c.regraded len).density = c.density ∧ (c.regraded len).reasons = c.reasons ∧
    (c.regraded len).limits = c.limits := by
  unfold Coil.regraded
  split <;> exact ⟨rfl, rfl, rfl, rfl, rfl, rfl, rfl, rfl, rfl, rfl, rfl⟩

/-- R145: a weight changes the weight, the density and the reasons alone. -/
@[simp] theorem Coil.weighed_frame (c : Coil) (weight len : Nat) :
    (c.weighed weight len).key = c.key ∧ (c.weighed weight len).state = c.state ∧
    (c.weighed weight len).line = c.line ∧ (c.weighed weight len).packer = c.packer ∧
    (c.weighed weight len).start = c.start ∧ (c.weighed weight len).stop = c.stop ∧
    (c.weighed weight len).zones = c.zones ∧ (c.weighed weight len).final = c.final ∧
    (c.weighed weight len).limits = c.limits := by
  unfold Coil.weighed
  dsimp only
  split
  · simp
  · split <;> simp

/-- R21, R145: the seal does not move a coil's length. -/
theorem Works.coilLength_weighed (w : Works) (c : Coil) (weight len : Nat) :
    w.coilLength ({ c with state := .sealed }.weighed weight len) = w.coilLength c := by
  simp [Works.coilLength, Works.coilEnd]

/-- R145: weight 0 leaves the coil unweighed. -/
theorem Coil.weighed_zero (c : Coil) (len : Nat) : c.weighed 0 len = c.withReason .unweighed := rfl

/-- R145: a weight above 0 is stored with its density. -/
theorem Coil.weighed_pos (c : Coil) (weight len : Nat) (h : 0 < weight) :
    (c.weighed weight len).weight = some weight ∧
    (c.weighed weight len).density = some (densityOf weight len) := by
  simp only [Coil.weighed, if_neg h.ne']
  split <;> simp

/-- R145: the density check of a weight above 0. -/
theorem Coil.density_mem_weighed (c : Coil) (weight len : Nat) (h : 0 < weight) :
    Reason.density ∈ (c.weighed weight len).reasons ↔
      Reason.density ∈ c.reasons ∨ c.limits.densityOff (densityOf weight len) = true := by
  simp only [Coil.weighed, if_neg h.ne']
  split
  · next ho => simp [ho]
  · next ho => simp [ho]

/-- R145: the deviation written as a distance. -/
theorem GradeLimits.densityOff_iff (g : GradeLimits) (d : Nat) :
    g.densityOff d = true ↔ 0 < g.densityNominal ∧
      g.densityTolerance * g.densityNominal <
        (max d g.densityNominal - min d g.densityNominal) * 1000 := by
  have hdist : d - g.densityNominal + (g.densityNominal - d) =
      max d g.densityNominal - min d g.densityNominal := by omega
  simp [GradeLimits.densityOff, hdist]

/-- R114, R144, R145: a coil of the given length as its seal leaves it. -/
def Coil.sealedWith (c : Coil) (weight len : Nat) : Coil :=
  { ({ c with state := .sealed }.weighed weight len).regraded len with final := true }

@[simp] theorem Coil.sealedWith_frame (c : Coil) (weight len : Nat) :
    (c.sealedWith weight len).key = c.key ∧ (c.sealedWith weight len).state = .sealed ∧
    (c.sealedWith weight len).final = true ∧ (c.sealedWith weight len).packer = c.packer ∧
    (c.sealedWith weight len).start = c.start ∧ (c.sealedWith weight len).zones = c.zones := by
  simp [Coil.sealedWith]

/-- R112, R114: a grade that was not final is recomputed from the reasons that the seal leaves. -/
theorem Coil.sealedWith_grade (c : Coil) (weight len : Nat) (h : c.final = false) :
    (c.sealedWith weight len).grade = (c.sealedWith weight len).gradeAt len := by
  simp [Coil.sealedWith, Coil.regraded, h, Coil.gradeAt]

theorem Coil.sealedWith_zero (c : Coil) (len : Nat) :
    (c.sealedWith 0 len).weight = c.weight ∧ (c.sealedWith 0 len).density = c.density ∧
    Reason.unweighed ∈ (c.sealedWith 0 len).reasons ∧
    (Reason.density ∈ (c.sealedWith 0 len).reasons ↔ Reason.density ∈ c.reasons) := by
  simp [Coil.sealedWith, Coil.weighed_zero]

theorem Coil.sealedWith_pos (c : Coil) (weight len : Nat) (h : 0 < weight) :
    (c.sealedWith weight len).weight = some weight ∧
    (c.sealedWith weight len).density = some (densityOf weight len) ∧
    (Reason.density ∈ (c.sealedWith weight len).reasons ↔
      Reason.density ∈ c.reasons ∨ c.limits.densityOff (densityOf weight len) = true) := by
  simp [Coil.sealedWith, Coil.weighed_pos _ weight len h, Coil.density_mem_weighed _ weight len h]

/-! ## The seal at a packer (R141, R144, R146) -/

/-- R144: the records when a coil has been sealed and has left its queue, and the place that frees is
not yet granted. -/
def Works.sealedOut (w : Works) (p : PackerIx) (k : CoilKey) (weight : Nat) : Works :=
  ((w.leaveQueue p k).modifyCoil k fun c => c.sealedWith weight (w.coilLength c)).raisePacker p
    Bit.coilSealed

/-- R144, R146: a seal is the coil's own change, and then the grant of the freed place. -/
theorem Works.sealAt_eq (w : Works) (p : PackerIx) (k : CoilKey) (weight : Nat) :
    w.sealAt p k weight = (w.sealedOut p k weight).placeFreed p := by
  simp only [Works.sealAt, Works.makeFinal, Works.sealedOut]
  rw [Works.modifyCoil_modifyCoil]
  · refine congrArg (fun f => (((w.leaveQueue p k).modifyCoil k f).raisePacker p
      Bit.coilSealed).placeFreed p) (funext fun c => ?_)
    simp only [Works.coilLength_modifyCoil, Works.coilLength_leaveQueue,
      Works.coilLength_weighed, Coil.sealedWith]
  · simp

theorem Works.sealedOut_coil?_self (w : Works) (p : PackerIx) (k : CoilKey) (weight : Nat)
    (c : Coil) (h : w.coil? k = some c) :
    (w.sealedOut p k weight).coil? k = some (c.sealedWith weight (w.coilLength c)) :=
  Works.coil?_modifyCoil_self (w.leaveQueue p k) k _ c (by simp) h

theorem Works.sealedOut_coil?_other (w : Works) (p : PackerIx) (k k' : CoilKey) (weight : Nat)
    (h : k' ≠ k) : (w.sealedOut p k weight).coil? k' = w.coil? k' :=
  Works.coil?_modifyCoil_other (w.leaveQueue p k) k k' _ (by simp) h

/-- R120, R144: a seal keeps where the current coil of a line starts. -/
theorem Works.sealedOut_currentCoil?_start (w : Works) (p : PackerIx) (k : CoilKey) (weight : Nat)
    (i : LineIx) (b : Coil) (h : w.currentCoil? i = some b) :
    ((w.sealedOut p k weight).currentCoil? i).map (fun c => c.start) = some b.start := by
  obtain ⟨k', hk', hb⟩ := Option.bind_eq_some_iff.1 h
  have hcur : (w.sealedOut p k weight).currentCoil? i = (w.sealedOut p k weight).coil? k' := by
    simp only [Works.currentCoil?]
    rw [show (w.sealedOut p k weight).line i = w.line i from rfl, hk', Option.bind_some]
  rw [hcur]
  by_cases hk : k' = k
  · subst hk; rw [Works.sealedOut_coil?_self w p k' weight b hb]; simp
  · rw [Works.sealedOut_coil?_other w p k k' weight hk, hb]; rfl

/-- R141: a grant of a freed place changes the lines and the held lists alone. -/
theorem Works.placeFreed_frame (w : Works) (p : PackerIx) :
    (w.placeFreed p).lots = w.lots ∧ (w.placeFreed p).coils = w.coils ∧
    (w.placeFreed p).waitList = w.waitList ∧ (w.placeFreed p).lanes = w.lanes ∧
    (w.placeFreed p).queues = w.queues ∧ (w.placeFreed p).notices = w.notices := by
  rcases Works.placeFreed_cases w p with ⟨-, h⟩ | ⟨i, rest, -, h⟩ <;> rw [h] <;>
    exact ⟨rfl, rfl, rfl, rfl, rfl, rfl⟩

theorem Works.placeFreed_coil? (w : Works) (p : PackerIx) (k : CoilKey) :
    (w.placeFreed p).coil? k = w.coil? k := by
  simp only [Works.coil?, (Works.placeFreed_frame w p).2.1]

/-- R141: with no line held the place stays free. -/
theorem Works.placeFreed_nil (w : Works) (p : PackerIx) (h : w.held[p] = []) :
    w.placeFreed p = w := by
  simp only [Works.placeFreed, h]

/-- R119, R120, R141: the head of the held list takes the freed place. -/
theorem Works.placeFreed_cons (w : Works) (p : PackerIx) (i : LineIx) (rest : List LineIx)
    (h : w.held[p] = i :: rest) :
    (w.placeFreed p).held = w.held.set p rest ∧
    (w.placeFreed p).line i = { w.line i with
      cut := .ordered, reserved := some p,
      cutPoint := ((w.currentCoil? i).map fun c => c.start).getD 0 + (w.line i).spec.target,
      halted := false } ∧
    ∀ j, j ≠ i → (w.placeFreed p).line j = w.line j := by
  have hgrant : w.placeFreed p = { w with held := w.held.set p rest }.grant i p := by
    simp only [Works.placeFreed, h]
  rw [hgrant]
  exact ⟨rfl, Works.line_modifyLine_self _ i _, fun j hj => Works.line_modifyLine_other _ i j _ hj⟩

/-! ## Packing steps (R143, R144) -/

theorem Works.packingRefusal_unknown (w : Works) (p : PackerIx) (k : CoilKey) (need : CoilState)
    (h : w.coil? k = none) : w.packingRefusal p k need = some .notHead := by
  simp only [Works.packingRefusal, h]

/-- R143, R144: a FULL or TAKEN head is accepted in the state that is needed. -/
theorem Works.packingRefusal_head (w : Works) (p : PackerIx) (k : CoilKey) (need : CoilState)
    (c : Coil) (h : w.coil? k = some c) (hd : w.queues[p].head? = some k)
    (hc : c.state = .full ∨ c.state = .taken) :
    w.packingRefusal p k need = if c.state = need then none else some .wrongState := by
  simp only [Works.packingRefusal, h]
  rw [if_pos ⟨hd, hc⟩]

theorem Works.packingRefusal_sealed (w : Works) (p : PackerIx) (k : CoilKey) (need : CoilState)
    (c : Coil) (h : w.coil? k = some c) (hc : c.state = .sealed) :
    w.packingRefusal p k need = some .wrongState := by
  simp [Works.packingRefusal, h, hc]

theorem Works.packingRefusal_notHead (w : Works) (p : PackerIx) (k : CoilKey) (need : CoilState)
    (c : Coil) (h : w.coil? k = some c) (hn : w.queues[p].head? ≠ some k ∨ c.state = .opened)
    (hc : c.state ≠ .sealed) : w.packingRefusal p k need = some .notHead := by
  have hhead : ¬ (w.queues[p].head? = some k ∧ (c.state = .full ∨ c.state = .taken)) := by
    rintro ⟨hd, hs⟩
    rcases hn with hn | ho
    · exact hn hd
    · simp [ho] at hs
  simp only [Works.packingRefusal, h]
  rw [if_neg hhead, if_neg hc]

theorem Works.take_refused (w : Works) (p : PackerIx) (k : CoilKey) (r : RefuseReason)
    (h : w.packingRefusal p k .full = some r) :
    w.take p k = (w.raisePacker p Bit.refusedTake, .refuse r) := by
  simp only [Works.take, h]

theorem Works.sealByPacker_refused (w : Works) (p : PackerIx) (k : CoilKey) (weight : Nat)
    (r : RefuseReason) (h : w.packingRefusal p k .taken = some r) :
    w.sealByPacker p k weight = (w.raisePacker p Bit.refusedTake, .refuse r) := by
  simp only [Works.sealByPacker, h]

/-- R142: the answer that describes a coil in the table. -/
theorem Works.answerFor_some (w : Works) (k : CoilKey) (c : Coil) (h : w.coil? k = some c) :
    w.answerFor k = .coil (w.coilAnswer c) := by
  simp only [Works.answerFor, h]

/-- R143: the FULL head becomes TAKEN, and the answer describes it so. -/
theorem Works.take_fullHead (w : Works) (p : PackerIx) (k : CoilKey) (c : Coil)
    (h : w.coil? k = some c) (hd : w.queues[p].head? = some k) (hc : c.state = .full) :
    w.take p k = (w.modifyCoil k fun c => { c with state := .taken },
      .coil { w.coilAnswer c with state := .taken }) := by
  have hacc : w.packingRefusal p k .full = none := by
    rw [Works.packingRefusal_head w p k .full c h hd (.inl hc), if_pos hc]
  have hcoil := Works.coil?_modifyCoil_self w k (fun c => { c with state := .taken }) c
    (fun _ => rfl) h
  simp only [Works.take, hacc, Works.answerFor_some _ k _ hcoil]
  rfl

/-- R144: the TAKEN head is sealed, and the answer describes it. -/
theorem Works.sealByPacker_takenHead (w : Works) (p : PackerIx) (k : CoilKey) (weight : Nat)
    (c : Coil) (h : w.coil? k = some c) (hd : w.queues[p].head? = some k) (hc : c.state = .taken) :
    w.sealByPacker p k weight = (w.sealAt p k weight, (w.sealAt p k weight).answerFor k) := by
  have hacc : w.packingRefusal p k .taken = none := by
    rw [Works.packingRefusal_head w p k .taken c h hd (.inr hc), if_pos hc]
  simp only [Works.sealByPacker, hacc]

theorem Works.sealAt_coil?_self (w : Works) (p : PackerIx) (k : CoilKey) (weight : Nat)
    (c : Coil) (h : w.coil? k = some c) :
    (w.sealAt p k weight).coil? k = some (c.sealedWith weight (w.coilLength c)) := by
  rw [Works.sealAt_eq, Works.placeFreed_coil?, Works.sealedOut_coil?_self w p k weight c h]

theorem Works.sealAt_coil?_other (w : Works) (p : PackerIx) (k k' : CoilKey) (weight : Nat)
    (h : k' ≠ k) : (w.sealAt p k weight).coil? k' = w.coil? k' := by
  rw [Works.sealAt_eq, Works.placeFreed_coil?, Works.sealedOut_coil?_other w p k k' weight h]

/-- R144: what a seal does to the packer's queue and its notices, and the records it leaves. -/
theorem Works.sealAt_frame (w : Works) (p : PackerIx) (k : CoilKey) (weight : Nat) :
    (w.sealAt p k weight).queues = (w.leaveQueue p k).queues ∧
    (w.sealAt p k weight).notices = (w.raisePacker p Bit.coilSealed).notices ∧
    (w.sealAt p k weight).lots = w.lots ∧ (w.sealAt p k weight).waitList = w.waitList ∧
    (w.sealAt p k weight).lanes = w.lanes := by
  obtain ⟨hlots, -, hwait, hlanes, hqueues, hnotices⟩ :=
    Works.placeFreed_frame (w.sealedOut p k weight) p
  rw [Works.sealAt_eq]
  exact ⟨hqueues, hnotices, hlots, hwait, hlanes⟩

/-- R141, R144: a seal with no line held for the packer leaves the lines. -/
theorem Works.sealAt_held_nil (w : Works) (p : PackerIx) (k : CoilKey) (weight : Nat)
    (h : w.held[p] = []) :
    (w.sealAt p k weight).lines = w.lines ∧ (w.sealAt p k weight).held = w.held := by
  rw [Works.sealAt_eq, Works.placeFreed_nil (w.sealedOut p k weight) p h]
  exact ⟨rfl, rfl⟩

/-- R120, R141, R144: a seal grants its place to the head of the held list. -/
theorem Works.sealAt_held_cons (w : Works) (p : PackerIx) (k : CoilKey) (weight : Nat)
    (i : LineIx) (rest : List LineIx) (h : w.held[p] = i :: rest) :
    (w.sealAt p k weight).held = w.held.set p rest ∧
    ((w.sealAt p k weight).line i).cut = .ordered ∧
    ((w.sealAt p k weight).line i).reserved = some p ∧
    ((w.sealAt p k weight).line i).halted = false ∧
    (∀ b, w.currentCoil? i = some b →
      ((w.sealAt p k weight).line i).cutPoint = b.start + (w.line i).spec.target) ∧
    (∀ j, j ≠ i → (w.sealAt p k weight).line j = w.line j) := by
  obtain ⟨hheld, hline, hothers⟩ := Works.placeFreed_cons (w.sealedOut p k weight) p i rest h
  rw [Works.sealAt_eq, hline]
  refine ⟨hheld, rfl, rfl, rfl, fun b hb => ?_, hothers⟩
  simp only [Works.sealedOut_currentCoil?_start w p k weight i b hb, Option.getD_some]
  rfl

/-! ## The host's coil commands (R24, R107, R146) -/

theorem State.takesRecordCommands.act {s : State} (h : s.takesRecordCommands) (code : Byte)
    (count : Nat) (args : List Byte) (act : State → State) (hl : args.length = count) :
    s.hostCommand code count true args act = act (s.release code args) :=
  State.hostCommand_act s code count true args act ⟨by rw [h.1]; decide, h.2⟩ hl fun _ => h.1

/-- R107: a stretch overlaps no zone of a coil without OPERATOR zones. -/
theorem Coil.overlapsOperator_none (c : Coil) (start stop len : Nat)
    (h : ∀ z ∈ c.zones, z.cause ≠ .operator) : c.overlapsOperator start stop len = false := by
  simp only [Coil.overlapsOperator, List.any_eq_false]
  intro z hz
  simp [h z hz]

/-- R107: a mark of a coil that is not SEALED and has no OPERATOR zone is accepted. -/
theorem State.coilMark_accept (s : State) (k : CoilKey) (start stop : Nat) (c : Coil)
    (h : s.works.coil? k = some c) (hc : c.state ≠ .sealed) (hle : start ≤ stop)
    (hz : ∀ z ∈ c.zones, z.cause ≠ .operator) :
    s.coilMark k start stop = s.accept (s.works.placeOperator k
      (min start (s.works.coilLength c)) (min stop (s.works.coilLength c))) := by
  simp [State.coilMark, h, hc, Nat.not_lt.2 hle, Coil.overlapsOperator_none c _ _ _ hz]

/-- R146: the host seals a TAKEN coil at its packer. -/
theorem State.coilSeal_taken (s : State) (k : CoilKey) (weight : Nat) (c : Coil) (p : PackerIx)
    (h : s.works.coil? k = some c) (hc : c.state = .taken) (hp : c.packer = some p) :
    s.coilSeal k weight = s.accept (s.works.sealAt p k weight) := by
  simp only [State.coilSeal, h, hc, hp]

/-- R24: a TAKEN coil is not retired. -/
theorem State.coilRetire_taken (s : State) (k : CoilKey) (c : Coil)
    (h : s.works.coil? k = some c) (hc : c.state = .taken) :
    s.coilRetire k = s.respond .wrongState := by
  simp only [State.coilRetire, h, hc]

/-- R107, R143: the host can mark a TAKEN coil. -/
theorem exec_coilMark_taken {s : State} (hs : s.takesRecordCommands) (c : Coil) (args : List Byte)
    (h : s.works.coil? (keyAt args 0) = some c) (hc : c.state = .taken) (hl : args.length = 12)
    (hle : bytesAt args 4 4 ≤ bytesAt args 8 4) (hz : ∀ z ∈ c.zones, z.cause ≠ .operator) :
    ∃ t, exec (.coilMark args) s = .next t ∧ t.port.result.status = .ok := by
  have hexec : exec (.coilMark args) s = .next (s.hostCommand 0x10 12 true args fun t =>
      t.coilMark (keyAt args 0) (bytesAt args 4 4) (bytesAt args 8 4)) := rfl
  rw [hexec, hs.act 0x10 12 args _ hl,
    State.coilMark_accept (s.release 0x10 args) _ _ _ c h (by simp [hc]) hle hz]
  exact ⟨_, rfl, rfl⟩

/-- R143, R146: the host can seal a TAKEN coil. -/
theorem exec_coilSeal_taken {s : State} (hs : s.takesRecordCommands) (c : Coil) (p : PackerIx)
    (args : List Byte) (h : s.works.coil? (keyAt args 0) = some c) (hc : c.state = .taken)
    (hp : c.packer = some p) (hl : args.length = 8) :
    ∃ t b, exec (.coilSeal args) s = .next t ∧ t.port.result.status = .ok ∧
      t.works.coil? (keyAt args 0) = some b ∧ b.state = .sealed := by
  have hexec : exec (.coilSeal args) s = .next (s.hostCommand 0x11 8 true args fun t =>
      t.coilSeal (keyAt args 0) (bytesAt args 4 4)) := rfl
  rw [hexec, hs.act 0x11 8 args _ hl,
    State.coilSeal_taken (s.release 0x11 args) _ _ c p h hc hp]
  exact ⟨_, _, rfl, rfl, Works.sealAt_coil?_self s.works p _ _ c h, by simp⟩

/-- R24, R143: the host cannot retire a TAKEN coil. -/
theorem exec_coilRetire_taken {s : State} (hs : s.takesRecordCommands) (c : Coil)
    (args : List Byte) (h : s.works.coil? (keyAt args 0) = some c) (hc : c.state = .taken)
    (hl : args.length = 4) :
    ∃ t, exec (.coilRetire args) s = .next t ∧ t.port.result.status = .wrongState ∧
      t.works = s.works := by
  have hexec : exec (.coilRetire args) s = .next (s.hostCommand 0x12 4 true args fun t =>
      t.coilRetire (keyAt args 0)) := rfl
  rw [hexec, hs.act 0x12 4 args _ hl, State.coilRetire_taken (s.release 0x12 args) _ c h hc]
  exact ⟨_, rfl, rfl, rfl⟩

/-! ## The statements on packing -/

/-- R143: a TAKEN that is refused raises REFUSED_TAKE and is answered with its reason. -/
theorem exec_taken_refused {s : State} {d : StationIx} {p : PackerIx} {a q : Byte}
    {payload : List Byte} (h : s.expects d (.packer p) a q payload) (hl : payload.length = 5)
    {r : RefuseReason} (hr : s.works.packingRefusal p (keyAt payload 1) .full = some r) :
    exec (.taken a q payload) s =
      .next (s.afterReply d q (some (.refuse r)) (s.works.raisePacker p 0x4)) := by
  rw [exec_taken_of_expects h hl, Works.take_refused _ p _ r hr]
  rfl

/-- R144: a SEALED that is refused raises REFUSED_TAKE and is answered with its reason. -/
theorem exec_sealed_refused {s : State} {d : StationIx} {p : PackerIx} {a q : Byte}
    {payload : List Byte} (h : s.expects d (.packer p) a q payload) (hl : payload.length = 9)
    {r : RefuseReason} (hr : s.works.packingRefusal p (keyAt payload 1) .taken = some r) :
    exec (.sealed a q payload) s =
      .next (s.afterReply d q (some (.refuse r)) (s.works.raisePacker p 0x4)) := by
  rw [exec_sealed_of_expects h hl, Works.sealByPacker_refused _ p _ _ r hr]
  rfl

/-- Settles O45: the frame that is due reaches `Works.take`, whose refusals are those of
`Works.packingRefusal`; the host's three commands on a TAKEN coil follow from their own rules. -/
theorem takenTakesTheHead : Obligations.TakenTakesTheHead := by
  unfold Obligations.TakenTakesTheHead
  refine ⟨fun s d p a q payload hs hl => ?_, fun s k c p hs hk hc hp => ⟨?_, ?_, ?_⟩⟩
  · refine ⟨fun c hk hd hc => ?_, fun c hk hd hc => ?_, fun c hk hc => ?_, fun hk => ?_,
      fun c hk hn hc => ?_⟩
    · rw [exec_taken_of_expects hs hl, Works.take_fullHead s.works p _ c hk hd hc]
    · refine exec_taken_refused hs hl ?_
      rw [Works.packingRefusal_head _ p _ .full c hk hd (.inr hc), if_neg (by simp [hc])]
    · exact exec_taken_refused hs hl (Works.packingRefusal_sealed _ p _ _ c hk hc)
    · exact exec_taken_refused hs hl (Works.packingRefusal_unknown _ p _ _ hk)
    · exact exec_taken_refused hs hl (Works.packingRefusal_notHead _ p _ _ c hk hn hc)
  · rintro args hl rfl hle hz
    exact exec_coilMark_taken hs c args hk hc hl hle hz
  · rintro args hl rfl
    exact exec_coilSeal_taken hs c p args hk hc hp hl
  · rintro args hl rfl
    exact exec_coilRetire_taken hs c args hk hc hl

/-- Settles O46: the frame that is due reaches `Works.sealByPacker`; on the TAKEN head that is
`Works.sealAt`, the seal of the coil (`Coil.sealedWith`) followed by the grant of its place. -/
theorem sealedSealsTheHead : Obligations.SealedSealsTheHead := by
  unfold Obligations.SealedSealsTheHead
  intro s d p a q payload hs hl k weight refused
  refine ⟨?_, fun c hk hd hc => ?_, fun c hk hc => ?_, fun hk => ?_, fun c hk hn hc => ?_⟩
  · intro c hk hd hc len
    have hself := Works.sealAt_coil?_self s.works p k weight c hk
    obtain ⟨hqueues, hnotices, hlots, hwait, hlanes⟩ := Works.sealAt_frame s.works p k weight
    obtain ⟨-, hstate, hfinal, hpacker, -, hzones⟩ := Coil.sealedWith_frame c weight len
    have hpos := Coil.sealedWith_pos c weight len
    refine ⟨s.works.sealAt p k weight, c.sealedWith weight len, ?_, hself,
      fun k' => Works.sealAt_coil?_other s.works p k k' weight, hstate, hfinal, hpacker, hzones,
      Coil.sealedWith_grade c weight len, ?_, ?_, ?_, ?_, hqueues, hnotices,
      Works.sealAt_held_nil s.works p k weight, Works.sealAt_held_cons s.works p k weight,
      hlots, hwait, hlanes⟩
    · rw [exec_sealed_of_expects hs hl, Works.sealByPacker_takenHead s.works p _ _ c hk hd hc,
        Works.answerFor_some _ k _ hself]
    · intro hw
      obtain ⟨hweight, hdensity, -⟩ := hpos hw
      exact ⟨hweight, hdensity⟩
    · intro hw
      rw [hw]
      obtain ⟨hweight, hdensity, hunweighed, -⟩ := Coil.sealedWith_zero c len
      exact ⟨hweight, hdensity, hunweighed⟩
    · intro hw
      obtain ⟨-, -, hreasons⟩ := hpos hw
      rw [hreasons, GradeLimits.densityOff_iff]
      rfl
    · intro hw
      rw [hw]
      obtain ⟨-, -, -, hreasons⟩ := Coil.sealedWith_zero c len
      exact hreasons
  · refine exec_sealed_refused hs hl ?_
    rw [Works.packingRefusal_head _ p _ .taken c hk hd (.inl hc), if_neg (by simp [hc])]
  · exact exec_sealed_refused hs hl (Works.packingRefusal_sealed _ p _ _ c hk hc)
  · exact exec_sealed_refused hs hl (Works.packingRefusal_unknown _ p _ _ hk)
  · exact exec_sealed_refused hs hl (Works.packingRefusal_notHead _ p _ _ c hk hn hc)

end Sys2Proof.Machine

section
namespace Sys2Proof.Machine

/-! # What a step can do to the records

Every change of the records is a chain of the changes that the units make of one record at a time.
`Works.Evolves` lists them once; each invariant of the records is then an induction over it. -/

/-! ## Changes of one record -/

/-- What an invariant of one line speaks of, with every other field of the record at its reset value. -/
def Line.core (l : Line) : Line :=
  { Line.reset with
    lot := l.lot, position := l.position, remainder := l.remainder, revision := l.revision,
    slipTallies := l.slipTallies, resyncs := l.resyncs, sequenceGaps := l.sequenceGaps,
    staleEntries := l.staleEntries, unrecorded := l.unrecorded, slip := l.slip, twist := l.twist,
    knot := l.knot }

/-- The changes that a unit makes of one line record of the records `w`. -/
inductive Line.Evolves (w : Works) : Line → Line → Prop
  | plain {l l' : Line} (h : l'.core = l.core) : Evolves w l l'
  | idle (l : Line) : Evolves w l l.toIdle
  | copied (l : Line) (n : Nat) (lot : Lot) (h : w.lot? n = some lot) :
    Evolves w l { l with spec := lot.spec, revision := lot.revision, amendPending := false }
  | credited (l : Line) (counts : Counts) : Evolves w l (l.credited counts)
  | twist (l : Line) (sp : Spec) (dl dq pre pos : Nat) :
    Evolves w l { l with twist := (l.twist.tally sp dl dq pre pos).1 }
  | knot (l : Line) (sp : Spec) (r : Row) : Evolves w l { l with knot := (l.knot.row sp r).1 }
  | slipTally (l : Line) (pre dis : Nat) :
    Evolves w l { l with slip := (l.slip.slipTally pre dis).1 }
  | cleanTally (l : Line) (pre : Nat) :
    Evolves w l { l with slip := (l.slip.cleanTally pre).1 }
  | slipNormal (l : Line) : Evolves w l { l with slip := l.slip.toNormal }
  | resynced (l : Line) (counts : Counts) : Evolves w l (l.resynced counts)
  | assigned (l : Line) (n : Nat) (lot : Lot) (isolated : Bool) (h : w.lot? n = some lot)
    (hs : lot.state = .opened) : Evolves w l (l.assigned lot isolated)
  | slipTallies (l : Line) (n : Nat) :
    Evolves w l { l with slipTallies := countUp l.slipTallies n }
  | sequenceGaps (l : Line) (n : Nat) :
    Evolves w l { l with sequenceGaps := countUp l.sequenceGaps n }
  | staleEntries (l : Line) (n : Nat) :
    Evolves w l { l with staleEntries := countUp l.staleEntries n }
  | unrecorded (l : Line) (n : Nat) : Evolves w l { l with unrecorded := countUp l.unrecorded n }

/-- The changes that a unit makes of one lot record of the records `w`. -/
inductive Lot.Evolves (w : Works) : Lot → Lot → Prop
  | refl (l : Lot) : Evolves w l l
  | produced (l : Lot) (n : Nat) : Evolves w l { l with produced := addLength l.produced n }
  | unassigned (l : Lot) (n : Nat) : Evolves w l { l with unassigned := addLength l.unassigned n }
  | retired (l : Lot) (n : Nat) : Evolves w l { l with retired := addLength l.retired n }
  | counted (l : Lot) (made gone : Nat) :
    Evolves w l { l with coilsMade := made, coilsRetired := gone }
  | closing (l : Lot) : Evolves w l { l with state := .closing }
  | closed (l : Lot) (h : w.runningSet l.number = []) : Evolves w l { l with state := .closed }
  | amended (l : Lot) (sp : Spec) (h : l.revision < 255) :
    Evolves w l { l with spec := sp, revision := l.revision + 1 }

/-- The changes that a unit makes of one coil record of the records `w`. -/
inductive Coil.Evolves (w : Works) : Coil → Coil → Prop
  | refl (c : Coil) : Evolves w c c
  | trans {c d e : Coil} (h : Evolves w c d) (k : Evolves w d e) : Evolves w c e
  | judged (c : Coil) (rs : List Reason) (g : Grade) (final : Bool) :
    Evolves w c { c with reasons := rs, grade := g, final := final }
  | placed (c : Coil) (st : CoilState) (p : Option PackerIx) (stop : Option Nat) :
    Evolves w c { c with state := st, packer := p, stop := stop }
  | opens (c : Coil) (q : Cause) (pos : Nat) (extreme : Int) (h : c.hasOpen q = false) :
    Evolves w c (c.openZone q pos extreme)
  | marks (c : Coil) (start stop : Nat) (h : start ≤ stop) :
    Evolves w c
      (c.placeZone { cause := .operator, start := start, stop := some stop, extreme := 0 })
  | closes (c : Coil) (q : Cause) (pos len : Nat) : Evolves w c (c.closeZone q pos len)
  | closesAll (c : Coil) (len : Nat) : Evolves w c (c.closeAll len)
  | extremes (c : Coil) (f : Zone → Int) :
    Evolves w c { c with zones := c.zones.map fun z => { z with extreme := f z } }
  | joints (c : Coil) (n : Nat) : Evolves w c { c with joints := min Config.byteLimit n }
  | rows (c : Coil) (kpr : Nat) (rs : List Row) : Evolves w c (c.countRows kpr rs)
  | slips (c : Coil) (n : Nat) :
    Evolves w c { c with slipTallies := countUp c.slipTallies n }
  | weighs (c : Coil) (weight len : Nat) (h : weight ≤ Config.wordLimit) :
    Evolves w c (c.weighed weight len)
  | revised (c : Coil) (i : LineIx) (g : GradeLimits) :
    Evolves w c { c with revision := (w.line i).revision, limits := g }

/-! ## Changes of the records -/

/-- The changes that the units make of the records, one record or list at a time. A change by a key
is told of the record that the key names. -/
inductive Works.Evolves : Works → Works → Prop
  | trans {w v u : Works} (h : Evolves w v) (k : Evolves v u) : Evolves w u
  | lists {w v : Works} (lots : v.lots = w.lots) (lines : v.lines = w.lines)
    (coils : v.coils = w.coils) : Evolves w v
  | cores {w v : Works} (lots : v.lots = w.lots) (lines : ∀ i, (v.line i).core = (w.line i).core)
    (coils : v.coils = w.coils) : Evolves w v
  | line (w : Works) (i : LineIx) (f : Line → Line)
    (h : Line.Evolves w (w.line i) (f (w.line i))) : Evolves w (w.modifyLine i f)
  | lot (w : Works) (n : Nat) (f : Lot → Lot)
    (h : ∀ l, w.lot? n = some l → Lot.Evolves w l (f l)) : Evolves w (w.modifyLot n f)
  | coil (w : Works) (k : CoilKey) (f : Coil → Coil)
    (h : ∀ c, w.coil? k = some c → Coil.Evolves w c (f c)) : Evolves w (w.modifyCoil k f)
  | removesCoil (w : Works) (k : CoilKey) : Evolves w (w.removeCoil k)
  | removesLot (w : Works) (n : Nat) (h : w.coilsHeld n = 0) : Evolves w (w.removeLot n)
  | opensCoil (w v : Works) (i : LineIx) (pos : Nat) (h : w.openCoil i pos = .ok v) : Evolves w v
  | opensLot (w : Works) (e : LotIx) (n : Nat) (sp : Spec) (pos : 1 ≤ n) (bound : n ≤ 65535)
    (fresh : w.lot? n = none) (free : lowestFree w.lots = some e) :
    Evolves w { w with lots := w.lots.set e (some (Lot.opening n sp)) }

theorem Works.Evolves.refl (w : Works) : w.Evolves w := .lists rfl rfl rfl

/-! ## The shared operations of the Record Store -/

theorem Works.raiseSaturated_evolves (w : Works) (due : Bool) : w.Evolves (w.raiseSaturated due) := by
  unfold Works.raiseSaturated
  split
  · exact .lists rfl rfl rfl
  · exact .refl w

theorem Works.addProduced_evolves (w : Works) (n more : Nat) : w.Evolves (w.addProduced n more) :=
  .trans (.lot w n _ fun l _ => .produced l more) (Works.raiseSaturated_evolves _ _)

theorem Works.addUnassigned_evolves (w : Works) (n more : Nat) :
    w.Evolves (w.addUnassigned n more) :=
  .trans (.lot w n _ fun l _ => .unassigned l more) (Works.raiseSaturated_evolves _ _)

theorem Works.addRetired_evolves (w : Works) (n more : Nat) : w.Evolves (w.addRetired n more) :=
  .trans (.lot w n _ fun l _ => .retired l more) (Works.raiseSaturated_evolves _ _)

theorem Works.closeIfEmpty_evolves (w : Works) (n : Nat) : w.Evolves (w.closeIfEmpty n) := by
  unfold Works.closeIfEmpty
  split
  · next h =>
    refine .lot w n _ fun l hl => ?_
    have hn : w.runningSet l.number = [] := by
      rw [(Works.lot?_some w n l hl).2]; exact List.isEmpty_iff.1 h
    obtain ⟨number, state, _, _, _, _, _, _, _, _⟩ := l
    cases state
    · exact .refl _
    · exact .closed _ hn
    · exact .refl _
  · exact .refl w

theorem Works.freeLine_evolves (w : Works) (i : LineIx) : w.Evolves (w.freeLine i) := by
  have hidle : w.Evolves (w.modifyLine i Line.toIdle) := .line w i _ (.idle _)
  unfold Works.freeLine
  dsimp only
  split
  · exact hidle
  · exact hidle.trans (Works.closeIfEmpty_evolves _ _)

/-- A change of a line that touches nothing an invariant of one line speaks of. -/
theorem Works.modifyLine_evolves (w : Works) (i : LineIx) (f : Line → Line)
    (h : (f (w.line i)).core = (w.line i).core) : w.Evolves (w.modifyLine i f) := .line w i f (.plain h)

theorem Works.raiseLine_evolves (w : Works) (i : LineIx) (b : Half) : w.Evolves (w.raiseLine i b) :=
  .lists rfl rfl rfl

/-! ## The Grade Unit -/

theorem Coil.regraded_evolves (w : Works) (c : Coil) (len : Nat) :
    Coil.Evolves w c (c.regraded len) := by
  unfold Coil.regraded
  split
  · exact .refl c
  · exact .judged c c.reasons _ c.final

theorem Coil.withReason_evolves (w : Works) (c : Coil) (r : Reason) :
    Coil.Evolves w c (c.withReason r) := by
  unfold Coil.withReason
  split
  · exact .refl c
  · exact .judged c _ c.grade c.final

theorem Works.regrade_evolves (w : Works) (k : CoilKey) : w.Evolves (w.regrade k) :=
  .coil w k _ fun c _ => c.regraded_evolves w _

theorem Works.gainReason_evolves (w : Works) (k : CoilKey) (r : Reason) :
    w.Evolves (w.gainReason k r) := by
  refine .coil w k _ fun c _ => ?_
  split
  · exact .refl c
  · exact (c.withReason_evolves w r).trans (Coil.regraded_evolves w _ _)

theorem Works.openZone_evolves (w : Works) (k : CoilKey) (q : Cause) (pos : Nat) (extreme : Int)
    (notify : Bool) : w.Evolves (w.openZone k q pos extreme notify) := by
  unfold Works.openZone
  cases hc : w.coil? k with
  | none => exact .refl w
  | some c =>
    dsimp only
    split
    · exact .refl w
    · next ho =>
      have hopen : w.Evolves
          (w.modifyCoil k fun c => (c.openZone q pos extreme).regraded (w.coilLength c)) := by
        refine .coil w k _ fun d hd => ?_
        obtain rfl : c = d := Option.some.inj (hc.symm.trans hd)
        exact (Coil.Evolves.opens c q pos extreme (by simpa using ho)).trans
          (Coil.regraded_evolves w _ _)
      split
      · exact hopen.trans (Works.raiseLine_evolves _ _ _)
      · exact hopen

theorem Works.countUnrecorded_evolves (w : Works) (i : LineIx) (n : Nat) :
    w.Evolves (w.countUnrecorded i n) := .line w i _ (.unrecorded _ n)

theorem Works.requestOpen_evolves (w : Works) (i : LineIx) (q : Cause) (pos : Nat) (extreme : Int) :
    w.Evolves (w.requestOpen i q pos extreme) := by
  unfold Works.requestOpen
  split
  · exact Works.countUnrecorded_evolves w i 1
  · exact Works.openZone_evolves w _ q _ extreme true

theorem Works.requestClose_evolves (w : Works) (i : LineIx) (q : Cause) (pos : Nat) :
    w.Evolves (w.requestClose i q pos) := by
  unfold Works.requestClose
  split
  · exact .refl w
  · exact .coil w _ _ fun c _ => .closes c q _ _

/-- A raise of the extreme values of some zones. -/
theorem Coil.extremes_evolves (w : Works) (c : Coil) (p : Zone → Bool) (f : Zone → Int) :
    Coil.Evolves w c
      { c with zones := c.zones.map fun z => if p z then { z with extreme := f z } else z } := by
  have h := Coil.Evolves.extremes (w := w) c fun z => if p z then f z else z.extreme
  have e : (fun z : Zone => { z with extreme := if p z then f z else z.extreme }) =
      fun z => if p z then { z with extreme := f z } else z := by
    funext z; split <;> rfl
  rwa [e] at h

theorem Works.raiseExtreme_evolves (w : Works) (i : LineIx) (q : Cause) (extreme : Int) :
    w.Evolves (w.raiseExtreme i q extreme) := by
  unfold Works.raiseExtreme
  split
  · exact .refl w
  · exact .coil w _ _ fun c _ => c.extremes_evolves w (fun z => z.openOf q) _

theorem Works.closeJoint_evolves (w : Works) (i : LineIx) : w.Evolves (w.closeJoint i) := by
  unfold Works.closeJoint
  split
  · exact .refl w
  · split
    · exact (Works.requestClose_evolves w i _ _).trans
        (Works.modifyLine_evolves _ i _ rfl)
    · exact .refl w

theorem Coil.countJoint_evolves (w : Works) (c : Coil) : Coil.Evolves w c c.countJoint := by
  unfold Coil.countJoint
  dsimp only
  split
  · exact (Coil.Evolves.joints c _).trans (Coil.withReason_evolves w _ _)
  · exact .joints c _

theorem Works.markJoint_evolves (w : Works) (i : LineIx) (pos : Nat) :
    w.Evolves (w.markJoint i pos) := by
  unfold Works.markJoint
  split
  · exact Works.countUnrecorded_evolves w i 1
  · next c _ =>
    have hcount : w.Evolves (w.modifyCoil c.key Coil.countJoint) :=
      .coil w _ _ fun c _ => c.countJoint_evolves w
    refine (Works.Evolves.trans ?_ (Works.regrade_evolves _ _)).trans
      (Works.closeJoint_evolves _ i)
    split
    · exact (hcount.trans (.coil _ _ _ fun c _ =>
        c.extremes_evolves _ (fun z => z.openOf .joint) fun z => z.extreme + 1)).trans
          (Works.modifyLine_evolves _ i _ rfl)
    · exact (hcount.trans (Works.openZone_evolves _ _ _ _ _ _)).trans
          (Works.modifyLine_evolves _ i _ rfl)

theorem Works.placeOperator_evolves (w : Works) (k : CoilKey) (start stop : Nat)
    (h : start ≤ stop) : w.Evolves (w.placeOperator k start stop) :=
  .coil w k _ fun c _ => (Coil.Evolves.marks c start stop h).trans (Coil.regraded_evolves w _ _)

theorem Works.openCarried_evolves (k : CoilKey) (carry : List (Cause × Int)) (w : Works) :
    w.Evolves (w.openCarried k carry) := by
  induction carry generalizing w with
  | nil => exact .refl w
  | cons q rest ih => exact (Works.openZone_evolves w k q.1 0 q.2 false).trans (ih _)

theorem Works.makeFinal_evolves (w : Works) (k : CoilKey) : w.Evolves (w.makeFinal k) :=
  .coil w k _ fun c _ => (Coil.regraded_evolves w c _).trans
    (.judged _ (c.regraded (w.coilLength c)).reasons (c.regraded (w.coilLength c)).grade true)

theorem Works.reopenZones_evolves (w : Works) (i : LineIx) (pos : Nat) :
    w.Evolves (w.reopenZones i pos) := by
  have hopen (v : Works) (b : Bool) (q : Cause) (x : Int) :
      v.Evolves (if b then v.requestOpen i q pos x else v) := by
    split
    · exact Works.requestOpen_evolves v i q pos x
    · exact .refl v
  exact ((hopen w _ _ _).trans (hopen _ _ _ _)).trans (hopen _ _ _ _)

/-! ## The Cut Controller -/

theorem Works.overlengthTest_evolves (w : Works) (i : LineIx) : w.Evolves (w.overlengthTest i) := by
  rcases Works.overlengthTest_cases w i with h | ⟨c, -, -, h⟩ <;> rw [h]
  · exact .refl w
  · exact (Works.modifyLine_evolves w i _
      rfl).trans
        (Works.gainReason_evolves _ _ _)

theorem Works.orderCut_evolves (w : Works) (i : LineIx) (r : Option PackerIx) (start : Nat) :
    w.Evolves (w.orderCut i r start) :=
  Works.modifyLine_evolves w i _ rfl

theorem Works.holdCut_evolves (w : Works) (i : LineIx) (p : PackerIx) :
    w.Evolves (w.holdCut i p) := by
  have hheld : w.Evolves
      ((w.modifyLine i fun l => { l with cut := .held, reserved := some p }).joinHeld p i) :=
    .trans (Works.modifyLine_evolves w i (fun l => { l with cut := .held, reserved := some p }) rfl)
      (.lists rfl rfl rfl)
  exact hheld.trans (Works.overlengthTest_evolves _ i)

theorem Works.requestCut_evolves (w : Works) (i : LineIx) (start : Nat) :
    w.Evolves (w.requestCut i start) := by
  rcases Works.requestCut_cases w i start with ⟨-, h⟩ | ⟨p, -, ⟨-, h⟩ | ⟨-, h⟩⟩ <;> rw [h]
  · exact Works.orderCut_evolves w i _ _
  · exact Works.orderCut_evolves w i _ _
  · exact Works.holdCut_evolves w i p

theorem Works.plannedCutTest_evolves (w : Works) (i : LineIx) : w.Evolves (w.plannedCutTest i) := by
  rcases Works.plannedCutTest_cases w i with h | ⟨c, -, -, ⟨-, h⟩ | ⟨-, h⟩⟩ <;> rw [h]
  · exact .refl w
  · exact Works.overlengthTest_evolves w i
  · exact Works.requestCut_evolves w i _

theorem Works.placeFreed_evolves (w : Works) (p : PackerIx) : w.Evolves (w.placeFreed p) := by
  rcases Works.placeFreed_cases w p with ⟨-, h⟩ | ⟨i, rest, -, h⟩ <;> rw [h]
  · exact .refl w
  · exact .trans (v := { w with held := w.held.set p rest }) (.lists rfl rfl rfl)
      (Works.orderCut_evolves _ i _ _)

/-- R120: a HELD wait is withdrawn, or nothing changes. -/
theorem Works.withdraw_cases (w : Works) (i : LineIx) :
    w.withdraw i = w ∨ ∃ p, (w.line i).cut = .held ∧ (w.line i).reserved = some p ∧
      w.withdraw i = (w.leaveHeld p i).modifyLine i fun l =>
        { l with cut := .noCut, reserved := none, halted := false } := by
  unfold Works.withdraw
  dsimp only
  split
  · next p hc hr => exact .inr ⟨p, hc, hr, rfl⟩
  · exact .inl rfl

theorem Works.withdraw_evolves (w : Works) (i : LineIx) : w.Evolves (w.withdraw i) := by
  rcases Works.withdraw_cases w i with h | ⟨p, -, -, h⟩ <;> rw [h]
  · exact .refl w
  · exact .trans (v := w.leaveHeld p i) (.lists rfl rfl rfl) (Works.modifyLine_evolves _ i _ rfl)

/-! ## Coils that open, end and are placed -/

theorem Works.resumeServed_evolves (w : Works) (i : LineIx) : w.Evolves (w.resumeServed i) :=
  ((Works.modifyLine_evolves w i _
    rfl).trans
      (Works.reopenZones_evolves _ i _)).trans (Works.plannedCutTest_evolves _ i)

theorem Works.handOut_evolves (w : Works) : w.Evolves w.handOut := by
  refine Works.serve_preserves (fun v => w.Evolves v) (fun v i rest hv _ => ?_)
    (fun v v' i rest hv _ ho => ?_) w (.refl w)
  · exact (hv.trans (v := v) (u := { v with waitList := rest }) (.lists rfl rfl rfl)).trans
      (Works.modifyLine_evolves _ i _ rfl)
  · exact ((hv.trans (.opensCoil v v' i _ ho)).trans (u := { v' with waitList := rest })
      (.lists rfl rfl rfl)).trans (Works.resumeServed_evolves _ i)

theorem Coil.ended_evolves (w : Works) (c : Coil) (stop : Nat) (kind : EndKind) :
    Coil.Evolves w c (c.ended stop kind) := by
  have hstop : Coil.Evolves w c { c with stop := some stop } := .placed c c.state c.packer _
  have hreason : ∀ d : Coil, Coil.Evolves w d (d.withEndReason kind) := by
    intro d
    cases kind
    · exact .refl d
    · exact d.withReason_evolves w _
    · exact .refl d
    · exact d.withReason_evolves w _
  have hshort : ∀ (d : Coil) (len : Nat), Coil.Evolves w d (d.judgeShort len) := by
    intro d len
    unfold Coil.judgeShort
    split
    · exact d.withReason_evolves w _
    · exact .refl d
  exact ((hstop.trans (hreason _)).trans (hshort _ _)).trans (Coil.regraded_evolves w _ _)

theorem Works.endCoil_evolves (w : Works) (i : LineIx) (k : CoilKey) (stop : Nat) (kind : EndKind) :
    w.Evolves (w.endCoil i k stop kind) :=
  .trans (.trans (.trans (.coil w k _ fun c _ => c.ended_evolves w stop kind)
    (.lot _ k.lot _ fun l _ => .counted l (l.coilsMade + 1) l.coilsRetired))
    (Works.raiseLine_evolves _ i Bit.coilClosed)) (Works.modifyLine_evolves _ i _ rfl)

theorem Works.queueCoil_evolves (w : Works) (k : CoilKey) (p : PackerIx) :
    w.Evolves (w.queueCoil k p) :=
  .trans (.coil w k _ fun c _ => .placed c .full (some p) c.stop) (.lists rfl rfl rfl)

theorem Works.sealLoose_evolves (w : Works) (k : CoilKey) : w.Evolves (w.sealLoose k) := by
  refine .trans (.coil w k _ fun c _ => ?_) (Works.makeFinal_evolves _ k)
  exact ((Coil.Evolves.placed c .sealed c.packer c.stop).trans
    (Coil.withReason_evolves w _ _)).trans (Coil.withReason_evolves w _ _)

theorem Works.placeCoil_evolves (w : Works) (i : LineIx) (k : CoilKey) (r : Option PackerIx) :
    w.Evolves (w.placeCoil i k r) := by
  have hclear (v : Works) : v.Evolves (v.modifyLine i fun l => { l with reserved := none }) :=
    Works.modifyLine_evolves v i _ rfl
  rcases Works.placeCoil_cases w i k r with ⟨p, -, h⟩ | ⟨p, -, -, -, h⟩ | ⟨-, -, h⟩ <;> rw [h]
  · exact (Works.queueCoil_evolves w k p).trans (hclear _)
  · exact (Works.queueCoil_evolves w k p).trans (hclear _)
  · exact (Works.sealLoose_evolves w k).trans (hclear _)

theorem Works.copySpec_evolves (w : Works) (i : LineIx) : w.Evolves (w.copySpec i) := by
  unfold Works.copySpec
  split
  · exact .refl w
  · next lot h =>
    obtain ⟨n, -, hn⟩ := Option.bind_eq_some_iff.1 h
    exact .line w i _ (.copied _ n lot hn)

theorem Works.applyAmendment_evolves (w : Works) (i : LineIx) : w.Evolves (w.applyAmendment i) := by
  unfold Works.applyAmendment
  split
  · exact Works.copySpec_evolves w i
  · exact .refl w

theorem Works.leaveUnassigned_evolves (w : Works) (i : LineIx) (stop : Nat) :
    w.Evolves (w.leaveUnassigned i stop) := by
  unfold Works.leaveUnassigned
  split
  · exact .refl w
  · exact Works.addUnassigned_evolves w _ _

theorem Works.starve_evolves (w : Works) (i : LineIx) (stop : Nat) (why : StarveReason) :
    w.Evolves (w.starve i stop why) := by
  have hline : w.Evolves ((w.leaveUnassigned i stop).modifyLine i fun l =>
      { l with state := .starved, starve := some why }) :=
    (Works.leaveUnassigned_evolves w i stop).trans (Works.modifyLine_evolves _ i _ rfl)
  cases why
  · exact hline.trans (.lists rfl rfl rfl)
  · exact hline

theorem Works.openNext_evolves (w : Works) (i : LineIx) (stop : Nat) (carry : List (Cause × Int)) :
    w.Evolves (w.openNext i stop carry) := by
  unfold Works.openNext
  split
  · next v h =>
    have hv : w.Evolves (v.plannedCutTest i) :=
      (Works.Evolves.opensCoil w v i stop h).trans (Works.plannedCutTest_evolves v i)
    dsimp only
    split
    · exact hv.trans (Works.openCarried_evolves _ carry _)
    · exact hv
  · exact (Works.starve_evolves w i stop _).trans (Works.modifyLine_evolves _ i _ rfl)

theorem Works.boundary_evolves (w : Works) (i : LineIx) (c : Coil) (stop : Nat) (kind : EndKind) :
    w.Evolves (w.boundary i c stop kind) := by
  have hplaced (r : Option PackerIx) : w.Evolves
      (((w.modifyCoil c.key fun c => c.closeAll (stop - c.start)).endCoil i c.key stop
        kind).placeCoil i c.key r) :=
    ((Works.Evolves.coil w c.key _ fun c _ => .closesAll c _).trans
      (Works.endCoil_evolves _ i _ stop kind)).trans (Works.placeCoil_evolves _ i _ r)
  unfold Works.boundary
  dsimp only
  split
  · exact ((hplaced _).trans (Works.applyAmendment_evolves _ i)).trans
      (Works.openNext_evolves _ i stop _)
  · exact ((hplaced _).trans (Works.leaveUnassigned_evolves _ i stop)).trans
      (Works.freeLine_evolves _ i)

/-- R122: all that a CUT_DONE can do: nothing but a protocol error or CUT_IGNORED, or a boundary on
the line's current coil, after the withdrawal of a HELD wait. -/
theorem Works.cutCompleted_cases (w : Works) (i : LineIx) (pos : Nat) :
    w.cutCompleted i pos = (w, true) ∨
    ∃ c, w.currentCoil? i = some c ∧
      ((w.line i).state = .primed ∨ (w.line i).state = .running ∨ (w.line i).state = .releasing) ∧
      ((pos = c.start ∧ w.cutCompleted i pos = (w.raiseLine i Bit.cutIgnored, false)) ∨
       (pos ≠ c.start ∧ (w.line i).state = .releasing ∧
         w.cutCompleted i pos = (w.boundary i c pos .release, false)) ∨
       (pos ≠ c.start ∧ (w.line i).state ≠ .releasing ∧ (w.line i).cut = .ordered ∧
         w.cutCompleted i pos = (w.boundary i c pos .planned, false)) ∨
       (pos ≠ c.start ∧ (w.line i).state ≠ .releasing ∧ (w.line i).cut = .noCut ∧
         w.cutCompleted i pos = (w.boundary i c pos .unplanned, false)) ∨
       (pos ≠ c.start ∧ (w.line i).state ≠ .releasing ∧ (w.line i).cut = .held ∧
         w.cutCompleted i pos = ((w.withdraw i).boundary i c pos .unplanned, false))) := by
  unfold Works.cutCompleted
  dsimp only
  cases hc : w.currentCoil? i with
  | none => exact .inl (by cases (w.line i).state <;> rfl)
  | some c =>
    by_cases hp : pos = c.start
    · cases hs : (w.line i).state
      case idle => exact .inl rfl
      case starved => exact .inl rfl
      all_goals exact .inr ⟨c, rfl, by simp, .inl ⟨hp, if_pos hp⟩⟩
    · cases hs : (w.line i).state
      case idle => exact .inl rfl
      case starved => exact .inl rfl
      case releasing =>
        exact .inr ⟨c, rfl, by simp, .inr (.inl ⟨hp, rfl, if_neg hp⟩)⟩
      all_goals
        refine .inr ⟨c, rfl, by simp, .inr (.inr ?_)⟩
        cases (w.line i).cut <;> simp [hp]

theorem Works.cutCompleted_evolves (w : Works) (i : LineIx) (pos : Nat) :
    w.Evolves (w.cutCompleted i pos).1 := by
  rcases Works.cutCompleted_cases w i pos with h | ⟨c, -, -, h⟩
  · rw [h]; exact .refl w
  · rcases h with ⟨-, h⟩ | ⟨-, -, h⟩ | ⟨-, -, -, h⟩ | ⟨-, -, -, h⟩ | ⟨-, -, -, h⟩ <;> rw [h]
    · exact Works.raiseLine_evolves w i _
    · exact Works.boundary_evolves w i c pos .release
    · exact Works.boundary_evolves w i c pos .planned
    · exact Works.boundary_evolves w i c pos .unplanned
    · exact (Works.withdraw_evolves w i).trans (Works.boundary_evolves _ i c pos .unplanned)

/-! ## The release of a line -/

theorem Works.releaseRunning_evolves (w : Works) (i : LineIx) : w.Evolves (w.releaseRunning i) := by
  refine (Works.withdraw_evolves w i).trans (Works.modifyLine_evolves _ i _ ?_)
  split <;> rfl

theorem Works.releaseEmpty_evolves (w : Works) (i : LineIx) (k : CoilKey) :
    w.Evolves (w.releaseEmpty i k) := by
  have hfreed : w.Evolves ((w.removeCoil k).freeLine i) :=
    (Works.Evolves.removesCoil w k).trans (Works.freeLine_evolves _ i)
  unfold Works.releaseEmpty
  dsimp only
  split
  · exact (hfreed.trans (Works.placeFreed_evolves _ _)).trans (Works.handOut_evolves _)
  · exact hfreed.trans (Works.handOut_evolves _)

theorem Works.releaseStarved_evolves (w : Works) (i : LineIx) : w.Evolves (w.releaseStarved i) :=
  .trans (v := w.leaveWait i) (.lists rfl rfl rfl) (Works.freeLine_evolves _ i)

theorem Works.releaseSuspended_evolves (w : Works) (i : LineIx) :
    w.Evolves (w.releaseSuspended i) := by
  unfold Works.releaseSuspended
  refine (Works.withdraw_evolves w i).trans ?_
  dsimp only
  split
  · exact Works.freeLine_evolves _ i
  · split
    · exact Works.releaseEmpty_evolves _ i _
    · exact Works.boundary_evolves _ i _ _ _

theorem Works.release_evolves (w : Works) (i : LineIx) : w.Evolves (w.release i) := by
  unfold Works.release
  dsimp only
  split
  · exact .refl w
  · split
    · exact Works.releaseEmpty_evolves w i _
    · exact Works.freeLine_evolves w i
  · exact Works.releaseStarved_evolves w i
  · split
    · exact Works.releaseSuspended_evolves w i
    · exact Works.releaseRunning_evolves w i
  · split
    · exact Works.releaseSuspended_evolves w i
    · exact .refl w

/-! ## The monitors and the Length Unit -/

theorem Works.countRows_evolves (w : Works) (i : LineIx) (rs : List Row) :
    w.Evolves (w.countRows i rs) := by
  unfold Works.countRows
  split
  · exact .coil w _ _ fun c _ => .rows c _ rs
  · exact Works.countUnrecorded_evolves w i _

theorem Works.applyKnot_evolves (w : Works) (i : LineIx) (r : KnotRequest) :
    w.Evolves (w.applyKnot i r) := by
  cases r
  · exact .refl w
  · exact Works.requestOpen_evolves w i _ _ _
  · exact Works.requestClose_evolves w i _ _
  · exact Works.raiseExtreme_evolves w i _ _

theorem Works.knotRow_evolves (w : Works) (i : LineIx) (r : Row) : w.Evolves (w.knotRow i r) :=
  .trans (.line w i _ (.knot _ _ r)) (Works.applyKnot_evolves _ i _)

theorem Works.knotTally_evolves (w : Works) (i : LineIx) (rows : Nat) (es : List FaultEntry)
    (overflow : Bool) (pre : Nat) : w.Evolves (w.knotTally i rows es overflow pre) := by
  have hrows : ∀ (rs : List Row) (v : Works), v.Evolves (rs.foldl (fun w r => w.knotRow i r) v) := by
    intro rs
    induction rs with
    | nil => exact fun v => .refl v
    | cons r rs ih => exact fun v => (Works.knotRow_evolves v i r).trans (ih _)
  exact ((Works.Evolves.line w i _ (.staleEntries _ _)).trans
    (Works.countRows_evolves _ i _)).trans (hrows _ _)

theorem Works.applyTwist_evolves (w : Works) (i : LineIx) (r : TwistRequest) :
    w.Evolves (w.applyTwist i r) := by
  cases r
  · exact .refl w
  · exact Works.requestOpen_evolves w i _ _ _
  · exact Works.requestClose_evolves w i _ _
  · exact Works.raiseExtreme_evolves w i _ _

theorem Works.twistTally_evolves (w : Works) (i : LineIx) (dl dq pre : Nat) :
    w.Evolves (w.twistTally i dl dq pre) :=
  .trans (.line w i _ (.twist _ _ _ _ _ _)) (Works.applyTwist_evolves _ i _)

theorem Works.giveCredit_evolves (w : Works) (i : LineIx) (counts : Counts) :
    w.Evolves (w.giveCredit i counts) := by
  have hline : w.Evolves ((w.modifyLine i fun l => l.credited counts).raiseSaturated
      (passesLimit (w.line i).position ((w.line i).credit counts))) :=
    (Works.Evolves.line w i _ (.credited _ counts)).trans (Works.raiseSaturated_evolves _ _)
  unfold Works.giveCredit
  dsimp only
  split
  · exact hline
  · split
    · exact (hline.trans (Works.addProduced_evolves _ _ _)).trans
        (Works.addUnassigned_evolves _ _ _)
    · exact hline.trans (Works.addProduced_evolves _ _ _)
    · exact hline.trans (Works.addProduced_evolves _ _ _)
    · exact hline.trans (Works.addProduced_evolves _ _ _)
    · exact hline.trans (Works.addProduced_evolves _ _ _)

theorem Works.applySlip_evolves (w : Works) (i : LineIx) (r : SlipRequest) :
    w.Evolves (w.applySlip i r) := by
  cases r
  · exact .refl w
  · exact (Works.requestOpen_evolves w i _ _ _).trans (Works.raiseLine_evolves _ i _)
  · exact Works.requestClose_evolves w i _ _
  · exact Works.raiseExtreme_evolves w i _ _

theorem Works.countSlip_evolves (w : Works) (i : LineIx) : w.Evolves (w.countSlip i) := by
  have hline : w.Evolves (w.modifyLine i fun l =>
      { l with slipTallies := countUp l.slipTallies 1 }) := .line w i _ (.slipTallies _ 1)
  unfold Works.countSlip
  dsimp only
  split
  · exact hline
  · exact hline.trans (.coil _ _ _ fun c _ => .slips c 1)

theorem Works.slipCheck_evolves (w : Works) (permille : Nat) (i : LineIx) (measure : Nat)
    (check : Option Nat) (pre : Nat) : w.Evolves (w.slipCheck permille i measure check pre) := by
  unfold Works.slipCheck
  split
  · exact .refl w
  · split
    · exact .refl w
    · exact ((Works.countSlip_evolves w i).trans (.line _ i _ (.slipTally _ _ _))).trans
        (Works.applySlip_evolves _ i _)
    · exact (Works.Evolves.line w i _ (.cleanTally _ _)).trans (Works.applySlip_evolves _ i _)

theorem Works.monitorTally_evolves (w : Works) (i : LineIx) (measure : Nat) (d : Counts)
    (f : CountFrame) (pre : Nat) : w.Evolves (w.monitorTally i measure d f pre) := by
  unfold Works.monitorTally
  split
  · exact Works.twistTally_evolves w i _ _ _
  · exact Works.knotTally_evolves w i _ _ _ _
  · exact .refl w

theorem Works.gradeTally_evolves (w : Works) (i : LineIx) : w.Evolves (w.gradeTally i) := by
  unfold Works.gradeTally
  dsimp only
  split
  · exact Works.closeJoint_evolves w i
  · exact (Works.closeJoint_evolves w i).trans (Works.regrade_evolves _ _)

theorem Works.creditTally_evolves (w : Works) (permille : Nat) (i : LineIx) (f : CountFrame) :
    w.Evolves (w.creditTally permille i f) :=
  ((((Works.giveCredit_evolves w i _).trans (Works.monitorTally_evolves _ i _ _ _ _)).trans
    (Works.slipCheck_evolves _ _ i _ _ _)).trans (Works.gradeTally_evolves _ i)).trans
      (Works.plannedCutTest_evolves _ i)

theorem Works.markUncertain_evolves (w : Works) (i : LineIx) : w.Evolves (w.markUncertain i) := by
  unfold Works.markUncertain
  split
  · exact .refl w
  · exact Works.gainReason_evolves w _ _

theorem Works.closeMonitorZones_evolves (w : Works) (i : LineIx) :
    w.Evolves (w.closeMonitorZones i) :=
  ((Works.requestClose_evolves w i _ _).trans (Works.requestClose_evolves _ i _ _)).trans
    (Works.requestClose_evolves _ i _ _)

theorem Works.resync_evolves (w : Works) (i : LineIx) (counts : Counts) :
    w.Evolves (w.resync i counts) :=
  (((Works.Evolves.line w i _ (.resynced _ counts)).trans
    (Works.markUncertain_evolves _ i)).trans (Works.raiseLine_evolves _ i _)).trans
      (Works.closeMonitorZones_evolves _ i)

theorem Works.takeBaselines_evolves (w : Works) (i : LineIx) (counts : Counts) :
    w.Evolves (w.takeBaselines i counts) :=
  (Works.modifyLine_evolves w i _
    rfl).trans
      (Works.plannedCutTest_evolves _ i)

theorem Works.countTally_evolves (w : Works) (permille : Nat) (i : LineIx) (f : CountFrame) :
    w.Evolves (w.countTally permille i f) := by
  unfold Works.countTally
  split
  · exact Works.resync_evolves w i _
  · exact Works.creditTally_evolves w permille i f

theorem Works.tally_evolves (w : Works) (permille : Nat) (i : LineIx) (f : CountFrame) :
    w.Evolves (w.tally permille i f) := by
  unfold Works.tally
  split
  · exact .refl w
  · exact Works.takeBaselines_evolves w i _
  all_goals exact Works.countTally_evolves w permille i f

/-- R46 to R49: what the resolution of an event's position does to the records. -/
theorem Works.resolve_cases (w : Works) (permille : Nat) (i : LineIx) (f : CountFrame) :
    (w.resolve permille i f).1 = w ∨
    ((w.line i).state = .primed ∧ (w.resolve permille i f).1 = w.takeBaselines i f.counts) ∨
    ((w.line i).state ≠ .idle ∧ (w.line i).state ≠ .primed ∧
      ((w.resolve permille i f).1 = w.resync i f.counts ∨
       (w.resolve permille i f).1 = w.countTally permille i f)) := by
  unfold Works.resolve
  dsimp only
  cases hs : (w.line i).state
  case idle => exact .inl rfl
  case primed => exact .inr (.inl ⟨rfl, rfl⟩)
  all_goals
    dsimp only
    split
    · exact .inr (.inr ⟨by decide, by decide, .inl rfl⟩)
    · split
      · exact .inr (.inr ⟨by decide, by decide, .inr rfl⟩)
      · exact .inl rfl

theorem Works.resolve_evolves (w : Works) (permille : Nat) (i : LineIx) (f : CountFrame) :
    w.Evolves (w.resolve permille i f).1 := by
  rcases Works.resolve_cases w permille i f with h | ⟨-, h⟩ | ⟨-, -, h | h⟩ <;> rw [h]
  · exact .refl w
  · exact Works.takeBaselines_evolves w i _
  · exact Works.resync_evolves w i _
  · exact Works.countTally_evolves w permille i f

theorem Works.applyMark_evolves (w : Works) (i : LineIx) (pos : Nat) (kind : MarkKind) :
    w.Evolves (w.applyMark i pos kind) := by
  cases kind
  · exact Works.markJoint_evolves w i pos
  · exact Works.requestOpen_evolves w i _ _ _
  · exact Works.requestClose_evolves w i _ _

theorem Works.mark_evolves (w : Works) (permille : Nat) (i : LineIx) (kind : MarkKind)
    (f : CountFrame) : w.Evolves (w.mark permille i kind f) := by
  unfold Works.mark
  split
  · exact .refl w
  all_goals exact (Works.resolve_evolves w permille i f).trans (Works.applyMark_evolves _ i _ kind)

theorem Works.cutDone_evolves (w : Works) (permille : Nat) (i : LineIx) (f : CountFrame) :
    w.Evolves (w.cutDone permille i f).1 :=
  (Works.resolve_evolves w permille i f).trans (Works.cutCompleted_evolves _ i _)

/-! ## The Packer Queue Controller -/

theorem Works.sealAt_evolves (w : Works) (p : PackerIx) (k : CoilKey) (weight : Nat)
    (h : weight ≤ Config.wordLimit) : w.Evolves (w.sealAt p k weight) := by
  have hseal : ∀ c : Coil, Coil.Evolves (w.leaveQueue p k) c (c.sealedWith weight (w.coilLength c)) :=
    fun c => (((Coil.Evolves.placed c .sealed c.packer c.stop).trans (.weighs _ weight _ h)).trans
      (Coil.regraded_evolves _ _ _)).trans (.judged _ _ _ true)
  have hout : w.Evolves ((w.leaveQueue p k).modifyCoil k fun c =>
      c.sealedWith weight (w.coilLength c)) :=
    .trans (v := w.leaveQueue p k) (.lists rfl rfl rfl) (.coil _ k _ fun c _ => hseal c)
  rw [Works.sealAt_eq]
  exact (hout.trans (u := w.sealedOut p k weight) (.lists rfl rfl rfl)).trans
    (Works.placeFreed_evolves _ p)

theorem Works.take_evolves (w : Works) (p : PackerIx) (k : CoilKey) : w.Evolves (w.take p k).1 := by
  rcases Works.take_cases w p k with ⟨r, -, h⟩ | ⟨-, h⟩ <;> rw [h]
  · exact .lists rfl rfl rfl
  · exact .coil w k _ fun c _ => .placed c .taken c.packer c.stop

theorem Works.sealByPacker_evolves (w : Works) (p : PackerIx) (k : CoilKey) (weight : Nat)
    (h : weight ≤ Config.wordLimit) : w.Evolves (w.sealByPacker p k weight).1 := by
  rcases Works.sealByPacker_cases w p k weight with ⟨r, -, e⟩ | ⟨-, e⟩ <;> rw [e]
  · exact .lists rfl rfl rfl
  · exact Works.sealAt_evolves w p k weight h

theorem Works.retire_evolves (w : Works) (c : Coil) : w.Evolves (w.retire c) :=
  (((Works.addRetired_evolves w _ _).trans
    (.lot _ _ _ fun l _ => .counted l l.coilsMade (l.coilsRetired + 1))).trans
      (.removesCoil _ _)).trans (Works.handOut_evolves _)

/-! ## The commands on lots and lines -/

theorem Works.reviseCoil_evolves (w : Works) (i : LineIx) : w.Evolves (w.reviseCoil i) := by
  unfold Works.reviseCoil
  split
  · exact .refl w
  · exact .coil w _ _ fun c _ => .revised c i _

theorem Works.amendLine_evolves (w : Works) (n : Nat) (i : LineIx) : w.Evolves (w.amendLine n i) := by
  unfold Works.amendLine
  split
  · split
    · exact .refl w
    · exact (Works.copySpec_evolves w i).trans (Works.reviseCoil_evolves _ i)
    · exact Works.copySpec_evolves w i
    all_goals exact Works.modifyLine_evolves w i _ rfl
  · exact .refl w

theorem Works.amend_evolves (w : Works) (n : Nat) (sp : Spec)
    (h : ∀ l, w.lot? n = some l → l.revision < 255) : w.Evolves (w.amend n sp) := by
  have hlines : ∀ (is : List LineIx) (v : Works),
      v.Evolves (is.foldl (fun w i => w.amendLine n i) v) := by
    intro is
    induction is with
    | nil => exact fun v => .refl v
    | cons i is ih => exact fun v => (Works.amendLine_evolves v n i).trans (ih _)
  exact (Works.Evolves.lot w n _ fun l hl => .amended l sp (h l hl)).trans (hlines _ _)

theorem Works.resetSlip_evolves (w : Works) (i : LineIx) : w.Evolves (w.resetSlip i) := by
  unfold Works.resetSlip
  refine .trans ?_ (.line _ i _ (.slipNormal _))
  split
  · exact Works.requestClose_evolves w i _ _
  · exact .refl w

theorem Works.setWheels_evolves (w : Works) (i : LineIx) (m : MeasureSource) (c : CheckSource) :
    w.Evolves (w.setWheels i m c) := by
  have hreset (b : Prop) [Decidable b] : w.Evolves (if b then w else w.resetSlip i) := by
    split
    · exact .refl w
    · exact Works.resetSlip_evolves w i
  have hset (v : Works) (x : MeasureSource) (y : CheckSource) :
      v.Evolves (v.modifyLine i fun l => { l with measure := x, check := y }) :=
    Works.modifyLine_evolves v i _ rfl
  unfold Works.setWheels
  dsimp only
  split
  · exact ((hreset _).trans (hset _ _ _)).trans (Works.raiseLine_evolves _ i _)
  · exact (hreset _).trans (hset _ _ _)

end Sys2Proof.Machine
end

section
namespace Sys2Proof.Machine

/-! # What every row of the table does to the records -/

/-! ## Frames -/

/-- A SEALED frame carries its weight in four bytes. -/
theorem contentOf_sealed_weight (kind : Byte) (payload : List Byte) (k : CoilKey) (weight : Nat)
    (h : contentOf kind payload = some (.sealed k weight)) : weight ≤ Config.wordLimit := by
  have hb := bytesAt_lt payload 5 4
  unfold contentOf at h
  split at h
  · split at h <;> cases h
  · unfold tallyOf at h; split at h <;> cases h
  · unfold markOf at h
    split at h
    · cases markKindOf (payload.getD 1 0) <;> simp at h
    · cases h
  · unfold cutDoneOf at h; split at h <;> cases h
  · unfold askOf at h; split at h <;> cases h
  · split at h <;> cases h
  · unfold sealedOf at h
    split at h
    · cases h; exact Nat.le_of_lt_succ hb
    · cases h
  · cases h

theorem State.passFrame_evolves (s : State) (d : StationIx) (role : Role) (c : Content)
    (h : ∀ k weight, c = .sealed k weight → weight ≤ Config.wordLimit) :
    s.works.Evolves (s.passFrame d role c).works := by
  unfold State.passFrame
  split
  · exact .refl _
  · exact .refl _
  · exact Works.tally_evolves _ _ _ _
  · exact Works.mark_evolves _ _ _ _ _
  · dsimp only
    split
    · exact (Works.cutDone_evolves _ _ _ _).trans (.lists rfl rfl rfl)
    · exact Works.cutDone_evolves _ _ _ _
  · exact .refl _
  · exact .refl _
  · exact Works.take_evolves _ _ _
  · exact Works.sealByPacker_evolves _ _ _ _ (h _ _ rfl)
  · exact .refl _

theorem State.takeContent_evolves (s : State) (d : StationIx) (role : Role) (kind : Byte)
    (payload : List Byte) : s.works.Evolves (s.takeContent d role kind payload).works := by
  rcases State.takeContent_cases s d role kind payload with ⟨-, h⟩ | ⟨c, hc, ⟨-, h⟩ | ⟨-, h⟩⟩ <;>
    rw [h]
  · exact .lists rfl rfl rfl
  · exact State.passFrame_evolves s d role c fun k weight e =>
      contentOf_sealed_weight kind payload k weight (e ▸ hc)
  · exact .lists rfl rfl rfl

theorem Works.suspendLine_evolves (w : Works) (i : LineIx) : w.Evolves (w.suspendLine i) := by
  refine Works.modifyLine_evolves w i _ ?_
  split <;> rfl

theorem Works.ownerIsolated_evolves (w : Works) (role : Role) : w.Evolves (w.ownerIsolated role) := by
  cases role
  · exact Works.suspendLine_evolves w _
  · exact .refl w

theorem Works.ownerReinstated_evolves (w : Works) (role : Role) :
    w.Evolves (w.ownerReinstated role) := by
  cases role with
  | line i => exact Works.modifyLine_evolves w i (fun l => { l with suspended := false }) rfl
  | packer => exact .refl w

theorem Works.countGap_evolves (w : Works) (role : Role) : w.Evolves (w.countGap role) := by
  cases role with
  | line i =>
    exact .line w i (fun l => { l with sequenceGaps := countUp l.sequenceGaps 1 })
      (.sequenceGaps _ 1)
  | packer => exact .refl w

theorem State.exchangeSucceeds_evolves (s : State) (d : StationIx) (st : Station) :
    s.works.Evolves (s.exchangeSucceeds d st).works := by
  unfold State.exchangeSucceeds
  dsimp only
  split
  · exact (Works.ownerReinstated_evolves s.works st.role).trans (.lists rfl rfl rfl)
  · exact .refl _

theorem State.checkSequence_evolves (s : State) (d : StationIx) (role : Role) (q : Byte)
    (f : SequenceFinding) : s.works.Evolves (s.checkSequence d role q f).works := by
  cases f
  · exact .refl _
  · exact .refl _
  · exact .trans (v := s.works.raiseStation d Bit.seqGap) (.lists rfl rfl rfl)
      (Works.countGap_evolves _ role)

theorem State.afterFrame_works (s : State) (t : Turn) (more : Bool) :
    (s.afterFrame t more).works = s.works := by
  unfold State.afterFrame
  split <;> rfl

theorem State.takeReply_evolves (s : State) (t : Turn) (st : Station) (kind q : Byte)
    (payload : List Byte) : s.works.Evolves (s.takeReply t st kind q payload).works := by
  have hseq := (State.exchangeSucceeds_evolves s t.station st).trans
    (State.checkSequence_evolves _ t.station st.role q (st.heard.sequenceFinding q))
  unfold State.takeReply
  rw [State.afterFrame_works]
  split
  · exact hseq.trans (State.takeContent_evolves _ _ _ _ _)
  · exact hseq

theorem State.failedTurn_evolves (s : State) (d : StationIx) (st : Station) :
    s.works.Evolves (s.failedTurn d st).works := by
  rcases State.failedTurn_cases s d st with ⟨-, h⟩ | ⟨-, h⟩ <;> rw [h]
  · exact Works.ownerIsolated_evolves s.works st.role
  · exact .refl _

theorem State.failExchange_evolves (s : State) (t : Turn) :
    s.works.Evolves (s.failExchange t).works := by
  rcases State.failExchange_cases s t with h | h | h | ⟨st, h⟩ <;> rw [h]
  · exact .refl _
  · exact .refl _
  · exact .refl _
  · exact State.failedTurn_evolves (s.modifyStation t.station _) t.station st

theorem State.discardFrame_evolves (s : State) : s.works.Evolves s.discardFrame.works := by
  rcases State.discardFrame_cases s with ⟨-, h⟩ | ⟨t, -, h⟩ <;> rw [h]
  · exact .refl _
  · exact State.failExchange_evolves s.endReception t

theorem State.takeFrame_evolves (s : State) (kind a q : Byte) (payload : List Byte) :
    s.works.Evolves (s.takeFrame kind a q payload).works := by
  rcases State.takeFrame_cases s kind a q payload with ⟨-, h⟩ | h | ⟨t, st, -, -, -, -, h⟩ <;> rw [h]
  · exact .refl _
  · exact State.discardFrame_evolves s
  · exact State.takeReply_evolves s.endReception t st kind q payload

/-- R152: all that a character can do. -/
theorem State.receive_cases (s : State) (c : Byte) :
    (∃ r, s.receive c = { s with link := { s.link with reception := r } }) ∨
    s.receive c = s.discardFrame ∨ ∃ kind a q payload, s.receive c = s.takeFrame kind a q payload := by
  unfold State.receive
  split
  · split
    · exact .inl ⟨some [], rfl⟩
    · exact .inl ⟨s.link.reception, rfl⟩
  · dsimp only
    split
    · exact .inr (.inl rfl)
    · split
      · unfold State.completeFrame
        split
        · exact .inr (.inr ⟨_, _, _, _, rfl⟩)
        · exact .inr (.inl rfl)
      · exact .inl ⟨_, rfl⟩

theorem State.receive_evolves (s : State) (c : Byte) : s.works.Evolves (s.receive c).works := by
  rcases State.receive_cases s c with ⟨r, h⟩ | h | ⟨kind, a, q, payload, h⟩ <;> rw [h]
  · exact .refl _
  · exact State.discardFrame_evolves s
  · exact State.takeFrame_evolves s kind a q payload

theorem State.nextPoll_works (s : State) : s.nextPoll.works = s.works := by
  rcases State.nextPoll_cases s with h | ⟨k, t, h⟩ <;> rw [h]
  rfl

/-! ## Host commands -/

theorem State.hostCommand_evolves (s : State) (code : Byte) (count : Nat) (rec : Bool)
    (args : List Byte) (act : State → State)
    (h : ∀ t : State, t.works.Evolves (act t).works) :
    s.works.Evolves (s.hostCommand code count rec args act).works := by
  rcases State.hostCommand_cases s code count rec args act with
    ⟨-, e⟩ | ⟨-, -, e⟩ | ⟨-, -, -, -, e⟩ | ⟨-, -, -, e⟩ <;> rw [e]
  · exact .refl _
  · exact .refl _
  · exact .refl _
  · exact h (s.release code args)

theorem State.lotOpen_evolves (s : State) (n : Nat) (sp : Spec) (hn : n ≤ 65535) :
    s.works.Evolves (s.lotOpen n sp).works := by
  unfold State.lotOpen
  split
  · exact .refl _
  · next h0 =>
    split
    · exact .refl _
    · next hf =>
      split
      · exact .refl _
      · split
        · exact .refl _
        · next e he =>
          exact .opensLot _ e n sp (Nat.pos_of_ne_zero h0) hn (by simpa using hf) he

theorem State.lotAmend_evolves (s : State) (n : Nat) (sp : Spec) :
    s.works.Evolves (s.lotAmend n sp).works := by
  unfold State.lotAmend
  split
  · exact .refl _
  · next lot hl =>
    split
    · exact .refl _
    · split
      · exact .refl _
      · split
        · exact .refl _
        · split
          · exact .refl _
          · next hr =>
            rw [State.accept_works]
            refine Works.amend_evolves s.works n sp fun l h => ?_
            obtain rfl := Option.some.inj (hl.symm.trans h)
            omega

theorem State.lotClose_evolves (s : State) (n : Nat) : s.works.Evolves (s.lotClose n).works := by
  unfold State.lotClose
  split
  · exact .refl _
  · split
    · exact .refl _
    · exact .refl _
    · exact (Works.Evolves.lot _ n _ fun l _ => .closing l).trans (Works.closeIfEmpty_evolves _ n)

theorem State.lotRetire_evolves (s : State) (n : Nat) : s.works.Evolves (s.lotRetire n).works := by
  unfold State.lotRetire
  split
  · exact .refl _
  · split
    · exact .refl _
    · exact .refl _
    · split
      · exact .refl _
      · exact .removesLot _ n (by omega)

theorem State.lineAssign_evolves (s : State) (line n : Nat) :
    s.works.Evolves (s.lineAssign line n).works := by
  unfold State.lineAssign
  split
  · exact .refl _
  · unfold State.assign
    dsimp only
    split
    · exact .refl _
    · split
      · exact .refl _
      · next lot hl =>
        split
        · exact .refl _
        · next ho =>
          split
          · exact .refl _
          · split
            · exact .refl _
            · next v hv =>
              have hs : lot.state = .opened := by
                by_contra h; exact ho (.inr h)
              exact (Works.Evolves.line _ _ _ (.assigned _ n lot _ hl hs)).trans (.opensCoil _ v _ _ hv)

theorem State.lineRelease_evolves (s : State) (line : Nat) :
    s.works.Evolves (s.lineRelease line).works := by
  unfold State.lineRelease
  split
  · exact .refl _
  · dsimp only
    split
    · exact .refl _
    · exact Works.release_evolves _ _

theorem State.lineWheels_evolves (s : State) (line m c : Nat) :
    s.works.Evolves (s.lineWheels line m c).works := by
  unfold State.lineWheels
  split
  · split
    · exact .refl _
    · exact Works.setWheels_evolves _ _ _ _
  · exact .refl _

theorem State.laneSet_evolves (s : State) (line lane : Nat) :
    s.works.Evolves (s.laneSet line lane).works := by
  unfold State.laneSet
  split
  · split
    · exact .refl _
    · exact .lists rfl rfl rfl
  · exact .refl _

theorem State.coilMark_evolves (s : State) (k : CoilKey) (start stop : Nat) :
    s.works.Evolves (s.coilMark k start stop).works := by
  unfold State.coilMark
  split
  · exact .refl _
  · dsimp only
    split
    · exact .refl _
    · split
      · exact .refl _
      · next hle =>
        split
        · exact .refl _
        · exact Works.placeOperator_evolves _ k _ _ (by omega)

theorem State.coilSeal_evolves (s : State) (k : CoilKey) (weight : Nat)
    (h : weight ≤ Config.wordLimit) : s.works.Evolves (s.coilSeal k weight).works := by
  unfold State.coilSeal
  split
  · exact .refl _
  · split
    · exact Works.sealAt_evolves _ _ _ _ h
    · exact Works.sealAt_evolves _ _ _ _ h
    · exact .refl _

theorem State.coilRetire_evolves (s : State) (k : CoilKey) :
    s.works.Evolves (s.coilRetire k).works := by
  unfold State.coilRetire
  split
  · exact .refl _
  · split
    · exact .refl _
    · exact .refl _
    · exact .refl _
    · exact Works.retire_evolves _ _

theorem State.readRecord_works (s : State) (kind key first : Nat) :
    (s.readRecord kind key first).works = s.works := by
  unfold State.readRecord
  split
  · rfl
  · split <;> rfl

theorem State.listKeys_works (s : State) (table start : Nat) :
    (s.listKeys table start).works = s.works := by
  unfold State.listKeys
  split
  · split <;> rfl
  · split <;> rfl
  · rfl

theorem State.noticeRead_evolves (s : State) : s.works.Evolves s.noticeRead.works := by
  unfold State.noticeRead
  dsimp only
  split
  · exact .refl _
  · exact .lists rfl rfl rfl

theorem State.noticeClear_evolves (s : State) (kind index : Nat) (mask : Half) :
    s.works.Evolves (s.noticeClear kind index mask).works := by
  unfold State.noticeClear
  split
  · exact .refl _
  · split
    · exact .refl _
    · exact .lists rfl rfl rfl

theorem State.startTransfer_works (s : State) (r : StoreRequest) :
    (s.startTransfer r).works = s.works := by
  rcases State.startTransfer_cases s r with ⟨q, -, h⟩ | ⟨-, h⟩ <;> rw [h]
  rfl

theorem State.stationProbe_works (s : State) (a : Nat) : (s.stationProbe a).works = s.works := by
  unfold State.stationProbe
  split
  · rfl
  · split <;> rfl

theorem State.abortStore_works (s : State) : s.abortStore.works = s.works :=
  (State.abortStore_frame s).2.2.1

/-- R29: the records at the end of their suspensions. -/
theorem Works.line_resumeLines (w : Works) (i : LineIx) :
    w.resumeLines.line i = { w.line i with suspended := false } := mapTable_get _ _ _ _

theorem State.warmRestart_evolves (s : State) : s.works.Evolves s.warmRestart.works := by
  show s.works.Evolves (s.abortStore.works.resumeLines.clearEvents)
  rw [State.abortStore_works]
  refine .cores rfl (fun i => ?_) rfl
  show (s.works.resumeLines.line i).core = _
  rw [Works.line_resumeLines]
  rfl

/-! ## All rows -/

/-- R162, entry 11: a code of table 9.1 is its command; any other is answered MALFORMED when the part
takes commands. -/
theorem exec_unknownCommandCode_cases (code : Byte) (args : List Byte) (s : State) :
    (∃ c, c.transaction? = some (code, args) ∧ (∀ x a, c ≠ .unknownCommandCode x a) ∧
      exec (.unknownCommandCode code args) s = exec c s) ∨
    (hostCodes.contains code = false ∧ exec (.unknownCommandCode code args) s =
      .next (s.transact code args fun t => t.respond .malformed)) := by
  have hcode : ∀ n : Nat, code.toNat = n → n < 256 → code = BitVec.ofNat 8 n := fun n h hn =>
    BitVec.eq_of_toNat_eq (by simpa [Nat.mod_eq_of_lt hn] using h)
  show _ ∨ (_ ∧ execUnknownCommandCode code args s = _)
  unfold exec
  dsimp only
  unfold execUnknownCommandCode
  split
  case h_1 h => exact .inl ⟨.lotOpen args, by rw [hcode _ h (by decide)]; rfl, by simp, rfl⟩
  case h_2 h => exact .inl ⟨.lotAmend args, by rw [hcode _ h (by decide)]; rfl, by simp, rfl⟩
  case h_3 h => exact .inl ⟨.lotClose args, by rw [hcode _ h (by decide)]; rfl, by simp, rfl⟩
  case h_4 h => exact .inl ⟨.lotRetire args, by rw [hcode _ h (by decide)]; rfl, by simp, rfl⟩
  case h_5 h => exact .inl ⟨.lineAssign args, by rw [hcode _ h (by decide)]; rfl, by simp, rfl⟩
  case h_6 h => exact .inl ⟨.lineRelease args, by rw [hcode _ h (by decide)]; rfl, by simp, rfl⟩
  case h_7 h => exact .inl ⟨.lineWheels args, by rw [hcode _ h (by decide)]; rfl, by simp, rfl⟩
  case h_8 h => exact .inl ⟨.laneSet args, by rw [hcode _ h (by decide)]; rfl, by simp, rfl⟩
  case h_9 h => exact .inl ⟨.coilMark args, by rw [hcode _ h (by decide)]; rfl, by simp, rfl⟩
  case h_10 h => exact .inl ⟨.coilSeal args, by rw [hcode _ h (by decide)]; rfl, by simp, rfl⟩
  case h_11 h => exact .inl ⟨.coilRetire args, by rw [hcode _ h (by decide)]; rfl, by simp, rfl⟩
  case h_12 h => exact .inl ⟨.readRecord args, by rw [hcode _ h (by decide)]; rfl, by simp, rfl⟩
  case h_13 h => exact .inl ⟨.listKeys args, by rw [hcode _ h (by decide)]; rfl, by simp, rfl⟩
  case h_14 h => exact .inl ⟨.noticeRead args, by rw [hcode _ h (by decide)]; rfl, by simp, rfl⟩
  case h_15 h => exact .inl ⟨.noticeClear args, by rw [hcode _ h (by decide)]; rfl, by simp, rfl⟩
  case h_16 h => exact .inl ⟨.storeRead args, by rw [hcode _ h (by decide)]; rfl, by simp, rfl⟩
  case h_17 h => exact .inl ⟨.storeWrite args, by rw [hcode _ h (by decide)]; rfl, by simp, rfl⟩
  case h_18 h => exact .inl ⟨.stationProbe args, by rw [hcode _ h (by decide)]; rfl, by simp, rfl⟩
  case h_19 h => exact .inl ⟨.restartWarm args, by rw [hcode _ h (by decide)]; rfl, by simp, rfl⟩
  case h_20 h => exact .inl ⟨.restartCold args, by rw [hcode _ h (by decide)]; rfl, by simp, rfl⟩
  case h_21 h => exact .inl ⟨.result args, by rw [hcode _ h (by decide)]; rfl, by simp, rfl⟩
  case h_22 =>
    refine .inr ⟨?_, rfl⟩
    simp only [hostCodes, List.contains_eq_mem, decide_eq_false_iff_not, List.mem_cons,
      List.not_mem_nil, or_false, not_or]
    refine ⟨?_, ?_, ?_, ?_, ?_, ?_, ?_, ?_, ?_, ?_, ?_, ?_, ?_, ?_, ?_, ?_, ?_, ?_, ?_, ?_, ?_⟩ <;>
      (rintro rfl; simp_all)

/-- R174: the records at the end of a load: the tables and lists stand, and each line is as the
image gives it. -/
structure Works.loadedFrom (w v : Works) (img : Image) : Prop where
  lots : v.lots = w.lots
  coils : v.coils = w.coils
  lines : ∀ i, v.line i = img.lineRecord i
  queues : v.queues = w.queues
  held : v.held = w.held
  waitList : v.waitList = w.waitList

theorem Works.raiseLoad_frame (w : Works) (rejected : Bool) (is : List LineIx) :
    (w.raiseLoad rejected is).lots = w.lots ∧ (w.raiseLoad rejected is).coils = w.coils ∧
    (w.raiseLoad rejected is).lines = w.lines ∧ (w.raiseLoad rejected is).queues = w.queues ∧
    (w.raiseLoad rejected is).held = w.held ∧ (w.raiseLoad rejected is).waitList = w.waitList ∧
    (w.raiseLoad rejected is).lanes = w.lanes := by
  have hfold : ∀ (is : List LineIx) (v : Works),
      let u := is.foldl (fun w i => w.raiseLine i Bit.wheelsDefaulted) v
      u.lots = v.lots ∧ u.coils = v.coils ∧ u.lines = v.lines ∧ u.queues = v.queues ∧
      u.held = v.held ∧ u.waitList = v.waitList ∧ u.lanes = v.lanes := by
    intro is
    induction is with
    | nil => exact fun v => ⟨rfl, rfl, rfl, rfl, rfl, rfl, rfl⟩
    | cons i is ih => exact fun v => ih (v.raiseLine i Bit.wheelsDefaulted)
  cases rejected
  · exact hfold is w
  · exact hfold is (w.raiseGlobal Bit.loadErr)

theorem State.loaded_works (s : State) (img : Image) (rejected : Bool) :
    s.works.loadedFrom (s.loaded img rejected).works img := by
  obtain ⟨hlots, hcoils, hlines, hqueues, hheld, hwait, -⟩ := Works.raiseLoad_frame
    { s.works with lines := tableOf img.lineRecord, lanes := img.lanes } rejected img.conflicts
  refine ⟨hlots, hcoils, fun i => ?_, hqueues, hheld, hwait⟩
  show (s.loaded img rejected).works.lines[i] = _
  exact (congrArg (fun v : Vector Line 16 => v[i]) hlines).trans (tableOf_get _ i)

/-- What a command does to the records: the units' own changes, the clearing at the start of LOADING,
or a load. -/
inductive Works.Moves (w : Works) : Works → Prop
  | evolves {v : Works} (h : w.Evolves v) : Moves w v
  | cleared (v : Works) : Moves w v.cleared
  | loaded {v : Works} (img : Image) (h : w.loadedFrom v img) : Moves w v

theorem State.hostCommand_moves (s : State) (code : Byte) (count : Nat) (rec : Bool)
    (args : List Byte) (act : State → State)
    (h : ∀ t : State, t.works.Evolves (act t).works) :
    s.works.Moves (s.hostCommand code count rec args act).works :=
  .evolves (State.hostCommand_evolves s code count rec args act h)

theorem State.enterLoading_works (s : State) : s.enterLoading.works = s.works.cleared := by
  unfold State.enterLoading
  dsimp only
  rw [State.abortStore_works]

theorem bytesAt_two_le (bs : List Byte) (at0 : Nat) : bytesAt bs at0 2 ≤ 65535 :=
  Nat.le_of_lt_succ (bytesAt_lt bs at0 2)

theorem bytesAt_four_le (bs : List Byte) (at0 : Nat) : bytesAt bs at0 4 ≤ Config.wordLimit :=
  Nat.le_of_lt_succ (bytesAt_lt bs at0 4)

/-- A property of every command's next state, when it is shown of the rows other than a code that
names a row of table 9.1. -/
theorem exec_all (s : State) (P : State → Prop)
    (unknown : ∀ code args, P (s.transact code args fun t => t.respond .malformed))
    (known : ∀ c, (∀ x a, c ≠ .unknownCommandCode x a) → ∃ t, exec c s = .next t ∧ P t)
    (c : Instr) : ∃ t, exec c s = .next t ∧ P t := by
  by_cases hc : ∃ x a, c = .unknownCommandCode x a
  · obtain ⟨x, a, rfl⟩ := hc
    rcases exec_unknownCommandCode_cases x a s with ⟨c, -, hne, h⟩ | ⟨-, h⟩ <;> rw [h]
    · exact known c hne
    · exact ⟨_, rfl, unknown x a⟩
  · exact known c fun x a e => hc ⟨x, a, e⟩

theorem State.transact_respond_works (s : State) (code : Byte) (args : List Byte) (st : Status) :
    (s.transact code args fun t => t.respond st).works = s.works := by
  unfold State.transact
  dsimp only
  split <;> rfl

theorem exec_moves (c : Instr) (s : State) : ∃ t, exec c s = .next t ∧ s.works.Moves t.works := by
  refine exec_all s (fun t => s.works.Moves t.works) (fun code args => ?_) (fun c hc => ?_) c
  · rw [State.transact_respond_works]; exact .evolves (.refl _)
  · have stays : ∀ {v : Works}, v = s.works → s.works.Moves v := by
      rintro v rfl; exact .evolves (.refl _)
    cases c
    case unknownCommandCode x a => exact absurd rfl (hc x a)
    case lotOpen args =>
      exact ⟨_, rfl, s.hostCommand_moves _ _ _ _ _ fun t =>
        t.lotOpen_evolves _ _ (bytesAt_two_le args 0)⟩
    case lotAmend => exact ⟨_, rfl, s.hostCommand_moves _ _ _ _ _ fun t => t.lotAmend_evolves _ _⟩
    case lotClose => exact ⟨_, rfl, s.hostCommand_moves _ _ _ _ _ fun t => t.lotClose_evolves _⟩
    case lotRetire => exact ⟨_, rfl, s.hostCommand_moves _ _ _ _ _ fun t => t.lotRetire_evolves _⟩
    case lineAssign =>
      exact ⟨_, rfl, s.hostCommand_moves _ _ _ _ _ fun t => t.lineAssign_evolves _ _⟩
    case lineRelease =>
      exact ⟨_, rfl, s.hostCommand_moves _ _ _ _ _ fun t => t.lineRelease_evolves _⟩
    case lineWheels =>
      exact ⟨_, rfl, s.hostCommand_moves _ _ _ _ _ fun t => t.lineWheels_evolves _ _ _⟩
    case laneSet => exact ⟨_, rfl, s.hostCommand_moves _ _ _ _ _ fun t => t.laneSet_evolves _ _⟩
    case coilMark => exact ⟨_, rfl, s.hostCommand_moves _ _ _ _ _ fun t => t.coilMark_evolves _ _ _⟩
    case coilSeal args =>
      exact ⟨_, rfl, s.hostCommand_moves _ _ _ _ _ fun t =>
        t.coilSeal_evolves _ _ (bytesAt_four_le args 4)⟩
    case coilRetire => exact ⟨_, rfl, s.hostCommand_moves _ _ _ _ _ fun t => t.coilRetire_evolves _⟩
    case readRecord =>
      exact ⟨_, rfl, s.hostCommand_moves _ _ _ _ _ fun t => by
        rw [State.readRecord_works]; exact .refl _⟩
    case listKeys =>
      exact ⟨_, rfl, s.hostCommand_moves _ _ _ _ _ fun t => by
        rw [State.listKeys_works]; exact .refl _⟩
    case noticeRead => exact ⟨_, rfl, s.hostCommand_moves _ _ _ _ _ fun t => t.noticeRead_evolves⟩
    case noticeClear =>
      exact ⟨_, rfl, s.hostCommand_moves _ _ _ _ _ fun t => t.noticeClear_evolves _ _ _⟩
    case storeRead =>
      exact ⟨_, rfl, s.hostCommand_moves _ _ _ _ _ fun t => by
        rw [State.startTransfer_works]; exact .refl _⟩
    case storeWrite =>
      exact ⟨_, rfl, s.hostCommand_moves _ _ _ _ _ fun t => by
        rw [State.startTransfer_works]; exact .refl _⟩
    case stationProbe =>
      exact ⟨_, rfl, s.hostCommand_moves _ _ _ _ _ fun t => by
        rw [State.stationProbe_works]; exact .refl _⟩
    case restartWarm =>
      exact ⟨_, rfl, s.hostCommand_moves _ _ _ _ _ fun t => t.warmRestart_evolves⟩
    case restartCold args =>
      refine ⟨_, rfl, ?_⟩
      rcases State.hostCommand_cases s 0x3F 0 false args fun t => t.enterLoading with
        ⟨-, e⟩ | ⟨-, -, e⟩ | ⟨-, -, -, -, e⟩ | ⟨-, -, -, e⟩ <;> rw [e]
      · exact stays rfl
      · exact stays rfl
      · exact stays rfl
      · rw [State.enterLoading_works]; exact .cleared _
    case result => exact ⟨_, rfl, stays rfl⟩
    case transactionStart => exact ⟨_, rfl, stays rfl⟩
    case storeTransferDone acknowledged =>
      refine ⟨_, rfl, stays ?_⟩
      unfold State.endTransfer
      split
      · rfl
      · dsimp only; split <;> rfl
    case powerOn => exact ⟨_, rfl, by rw [State.enterLoading_works]; exact .cleared _⟩
    case resetnAssert => exact ⟨_, rfl, by rw [State.enterLoading_works]; exact .cleared _⟩
    case loadComplete acknowledged =>
      refine ⟨_, rfl, ?_⟩
      unfold State.completeLoad
      split
      · exact .loaded _ (State.loaded_works _ _ _)
      · exact stays rfl
      · exact stays rfl
    case supplyOkFall =>
      refine ⟨_, rfl, stays ?_⟩
      unfold State.supplyFalls
      dsimp only
      split <;> rfl
    case supplyOkRise =>
      refine ⟨_, rfl, stays ?_⟩
      unfold State.supplyRises
      dsimp only
      split <;> rfl
    case resumeTimerExpiry =>
      refine ⟨_, rfl, stays ?_⟩
      unfold State.resume
      split <;> rfl
    case roundStart => refine ⟨_, rfl, stays ?_⟩; split <;> rfl
    case pollSend =>
      refine ⟨_, rfl, stays ?_⟩
      split
      · exact State.nextPoll_works s
      · rfl
    case pollTransmitDone => exact ⟨_, rfl, stays rfl⟩
    case replyTimeout =>
      refine ⟨_, rfl, ?_⟩
      split
      · exact .evolves s.discardFrame_evolves
      · exact stays rfl
    case characterTimeout => exact ⟨_, rfl, .evolves s.discardFrame_evolves⟩
    case frameNotIntact => exact ⟨_, rfl, .evolves s.discardFrame_evolves⟩
    case frameWrongAddress => exact ⟨_, rfl, .evolves s.discardFrame_evolves⟩
    case characterReceived c => exact ⟨_, rfl, .evolves (s.receive_evolves c)⟩
    all_goals exact ⟨_, rfl, .evolves (s.takeFrame_evolves _ _ _ _)⟩

end Sys2Proof.Machine
end

section
namespace Sys2Proof.Machine

/-! # The invariants of single records: keys, ranges, zone lists, CLOSED lots -/

/-! ## Entries of a table -/

theorem mapTable_getFin {α β : Type} {n : Nat} (f : α → β) (v : Vector α n) (i : Fin n) :
    (mapTable f v)[i] = f v[i] := mapTable_get f v i.val i.isLt

theorem set_getFin {α : Type} {n : Nat} (v : Vector α n) (e i : Fin n) (x : α) :
    (v.set e x)[i] = if i = e then x else v[i] := by
  by_cases h : i = e
  · subst h; simp
  · have : e.val ≠ i.val := fun he => h (Fin.ext he.symm)
    simp [h, this]

theorem mem_inUse_set {α : Type} {n : Nat} (v : Vector (Option α) n) (e : Fin n) (x y : α)
    (hfree : v[e] = none) : y ∈ inUse (v.set e (some x)) ↔ y = x ∨ y ∈ inUse v := by
  simp only [mem_inUse, set_getFin]
  constructor
  · rintro ⟨i, hi⟩
    by_cases h : i = e
    · rw [if_pos h] at hi; exact .inl (Option.some.inj hi).symm
    · rw [if_neg h] at hi; exact .inr ⟨i, hi⟩
  · rintro (rfl | ⟨i, hi⟩)
    · exact ⟨e, if_pos rfl⟩
    · refine ⟨i, ?_⟩
      rw [if_neg (fun h => by rw [h, hfree] at hi; cases hi)]
      exact hi

theorem mem_inUse_mapTable {α β : Type} {n : Nat} (f : α → β) (v : Vector (Option α) n) (y : β) :
    y ∈ inUse (mapTable (Option.map f) v) ↔ ∃ x ∈ inUse v, y = f x := by
  simp [inUse_mapTable, eq_comm]

theorem mem_inUse_filter {α : Type} {n : Nat} (p : α → Bool) (v : Vector (Option α) n) (x : α) :
    x ∈ inUse (mapTable (fun e => e.filter p) v) ↔ x ∈ inUse v ∧ p x = true := by
  simp only [mem_inUse, mapTable_getFin, Option.filter_eq_some_iff]
  exact ⟨fun ⟨i, h, hp⟩ => ⟨⟨i, h⟩, hp⟩, fun ⟨⟨i, h⟩, hp⟩ => ⟨i, h, hp⟩⟩

/-! ## Keys (R1, R10) -/

/-- R1, R10: `State.keysLawful`, which speaks of the records alone. -/
structure Works.keyed (w : Works) : Prop where
  oneLot : ∀ (i j : LotIx) (l m : Lot),
    w.lots[i] = some l → w.lots[j] = some m → l.number = m.number → i = j
  oneCoil : ∀ (i j : CoilIx) (c d : Coil),
    w.coils[i] = some c → w.coils[j] = some d → c.key = d.key → i = j
  issued : ∀ c ∈ inUse w.coils, ∃ l ∈ inUse w.lots,
    l.number = c.key.lot ∧ c.key.sequence < l.nextSequence

theorem State.keysLawful_iff (s : State) : s.keysLawful ↔ s.works.keyed :=
  ⟨fun ⟨h1, h2, h3⟩ => ⟨h1, h2, h3⟩, fun ⟨h1, h2, h3⟩ => ⟨h1, h2, h3⟩⟩

theorem Works.keyed.sameLot {w : Works} (h : w.keyed) {l m : Lot} (hl : l ∈ inUse w.lots)
    (hm : m ∈ inUse w.lots) (hn : l.number = m.number) : l = m := by
  obtain ⟨i, hi⟩ := (mem_inUse _ _).1 hl
  obtain ⟨j, hj⟩ := (mem_inUse _ _).1 hm
  obtain rfl := h.oneLot i j l m hi hj hn
  exact Option.some.inj (hi.symm.trans hj)

theorem Works.keyed.sameCoil {w : Works} (h : w.keyed) {c d : Coil} (hc : c ∈ inUse w.coils)
    (hd : d ∈ inUse w.coils) (hk : c.key = d.key) : c = d := by
  obtain ⟨i, hi⟩ := (mem_inUse _ _).1 hc
  obtain ⟨j, hj⟩ := (mem_inUse _ _).1 hd
  obtain rfl := h.oneCoil i j c d hi hj hk
  exact Option.some.inj (hi.symm.trans hj)

/-- R1: a lot in the table is the record of its number. -/
theorem Works.keyed.lot?_eq {w : Works} (h : w.keyed) {l : Lot} (hl : l ∈ inUse w.lots) :
    w.lot? l.number = some l := by
  cases hm : w.lot? l.number with
  | none => exact absurd (List.find?_eq_none.1 hm l hl) (by simp)
  | some m =>
    obtain ⟨hm1, hm2⟩ := Works.lot?_some w _ m hm
    rw [h.sameLot hm1 hl hm2]

/-- R1: a coil in the table is the record of its key. -/
theorem Works.keyed.coil?_eq {w : Works} (h : w.keyed) {c : Coil} (hc : c ∈ inUse w.coils) :
    w.coil? c.key = some c := by
  cases hm : w.coil? c.key with
  | none => exact absurd (List.find?_eq_none.1 hm c hc) (by simp)
  | some m =>
    obtain ⟨hm1, hm2⟩ := Works.coil?_some w _ m hm
    rw [h.sameCoil hm1 hc hm2]

theorem Works.keyed.of_eq {w v : Works} (h : w.keyed) (lots : v.lots = w.lots)
    (coils : v.coils = w.coils) : v.keyed := by
  refine ⟨?_, ?_, ?_⟩
  · rw [lots]; exact h.oneLot
  · rw [coils]; exact h.oneCoil
  · rw [lots, coils]; exact h.issued

/-- Records changed in place keep lawful keys when they keep their keys, and no lot takes sequences
back. -/
theorem Works.keyed.map {w v : Works} (h : w.keyed) (g : Lot → Lot) (f : Coil → Coil)
    (lots : v.lots = mapTable (Option.map g) w.lots)
    (coils : v.coils = mapTable (Option.map f) w.coils)
    (hg : ∀ l ∈ inUse w.lots, (g l).number = l.number ∧ l.nextSequence ≤ (g l).nextSequence)
    (hf : ∀ c ∈ inUse w.coils, (f c).key = c.key) : v.keyed := by
  refine ⟨fun i j l m hi hj hn => ?_, fun i j c d hi hj hk => ?_, fun c hc => ?_⟩
  · rw [lots, mapTable_getFin, Option.map_eq_some_iff] at hi hj
    obtain ⟨a, ha, rfl⟩ := hi
    obtain ⟨b, hb, rfl⟩ := hj
    rw [(hg a ((mem_inUse _ _).2 ⟨i, ha⟩)).1, (hg b ((mem_inUse _ _).2 ⟨j, hb⟩)).1] at hn
    exact h.oneLot i j a b ha hb hn
  · rw [coils, mapTable_getFin, Option.map_eq_some_iff] at hi hj
    obtain ⟨a, ha, rfl⟩ := hi
    obtain ⟨b, hb, rfl⟩ := hj
    rw [hf a ((mem_inUse _ _).2 ⟨i, ha⟩), hf b ((mem_inUse _ _).2 ⟨j, hb⟩)] at hk
    exact h.oneCoil i j a b ha hb hk
  · rw [coils, mem_inUse_mapTable] at hc
    obtain ⟨b, hb, rfl⟩ := hc
    obtain ⟨l, hl, hn, hs⟩ := h.issued b hb
    obtain ⟨hnum, hseq⟩ := hg l hl
    rw [hf b hb, lots]
    exact ⟨g l, (mem_inUse_mapTable _ _ _).2 ⟨l, hl, rfl⟩, hnum.trans hn, lt_of_lt_of_le hs hseq⟩

theorem mapTable_map_id {α : Type} {n : Nat} (v : Vector (Option α) n) :
    mapTable (Option.map fun x => x) v = v := by
  apply Vector.ext
  intro i hi
  rw [mapTable_get]
  cases v[i] <;> rfl

theorem Lot.Evolves.keeps {w : Works} {l l' : Lot} (h : Lot.Evolves w l l') :
    l'.number = l.number ∧ l'.nextSequence = l.nextSequence := by
  cases h <;> exact ⟨rfl, rfl⟩

/-- R101: a placed zone changes the zones, the unlisted count and the reasons alone. -/
theorem Coil.placeZone_frame (c : Coil) (z : Zone) :
    c.placeZone z = { c with
      zones := (c.placeZone z).zones, unlisted := (c.placeZone z).unlisted,
      reasons := (c.placeZone z).reasons } := by
  unfold Coil.placeZone Coil.withReason
  split <;> split <;> rfl

theorem Coil.openZone_frame (c : Coil) (q : Cause) (pos : Nat) (x : Int) :
    c.openZone q pos x = { c with
      zones := (c.openZone q pos x).zones, unlisted := (c.openZone q pos x).unlisted,
      unlistedOpen := (c.openZone q pos x).unlistedOpen,
      reasons := (c.openZone q pos x).reasons } := by
  unfold Coil.openZone
  dsimp only
  split <;> rw [Coil.placeZone_frame]

theorem Coil.regraded_eq (c : Coil) (len : Nat) :
    c.regraded len = { c with grade := (c.regraded len).grade } := by
  unfold Coil.regraded
  split <;> rfl

theorem Coil.closeZone_frame (c : Coil) (q : Cause) (pos len : Nat) :
    c.closeZone q pos len = { c with
      zones := (c.closeZone q pos len).zones, grade := (c.closeZone q pos len).grade,
      unlistedOpen := (c.closeZone q pos len).unlistedOpen } := by
  unfold Coil.closeZone
  split
  · rw [Coil.regraded_eq]
  · rfl

theorem Coil.weighed_eq (c : Coil) (weight len : Nat) :
    c.weighed weight len = { c with
      weight := (c.weighed weight len).weight, density := (c.weighed weight len).density,
      reasons := (c.weighed weight len).reasons } := by
  unfold Coil.weighed Coil.withReason
  dsimp only
  split
  · split <;> rfl
  · split
    · split <;> rfl
    · rfl

theorem Coil.Evolves.key {w : Works} {c c' : Coil} (h : Coil.Evolves w c c') : c'.key = c.key := by
  induction h with
  | refl | judged | placed | closesAll | extremes | joints | rows | slips | revised => rfl
  | trans _ _ ih1 ih2 => exact ih2.trans ih1
  | opens c q pos x => rw [Coil.openZone_frame]
  | marks c start stop => rw [Coil.placeZone_frame]
  | closes c q pos len => rw [Coil.closeZone_frame]
  | weighs c weight len => rw [Coil.weighed_eq]

theorem Works.keyed.modifyLot {w : Works} (h : w.keyed) (n : Nat) (f : Lot → Lot)
    (hf : ∀ l, w.lot? n = some l → (f l).number = l.number ∧ l.nextSequence ≤ (f l).nextSequence) :
    (w.modifyLot n f).keyed := by
  refine h.map _ (fun c => c) rfl (mapTable_map_id _).symm (fun l hl => ?_) fun _ _ => rfl
  split
  · next e => exact hf l (by rw [← e]; exact h.lot?_eq hl)
  · exact ⟨rfl, le_rfl⟩

/-- R20: the coil that opens has a key that no coil has had. -/
theorem Works.keyed.openCoil {w v : Works} (h : w.keyed) (i : LineIx) (pos : Nat)
    (ho : w.openCoil i pos = .ok v) : v.keyed := by
  obtain ⟨lot, e, hlot, -, he, rfl⟩ := Works.openCoil_ok w v i pos ho
  obtain ⟨n, -, hn⟩ := Option.bind_eq_some_iff.1 hlot
  obtain ⟨hmem, -⟩ := Works.lot?_some w n lot hn
  have hfree := (lowestFree_spec _ _ he).1
  have hfresh : ∀ c ∈ inUse w.coils, c.key ≠ ⟨lot.number, lot.nextSequence⟩ := by
    intro c hc hk
    obtain ⟨l, hl, hnum, hseq⟩ := h.issued c hc
    rw [hk] at hnum hseq
    rw [h.sameLot hl hmem hnum] at hseq
    exact lt_irrefl _ hseq
  refine ⟨?_, ?_, ?_⟩
  · exact (h.modifyLot lot.number (fun t => { t with nextSequence := t.nextSequence + 1 })
      fun l _ => ⟨rfl, Nat.le_succ _⟩).oneLot
  · intro a b c d ha hb hk
    simp only [Works.modifyLine_coils, Works.modifyLot_coils, set_getFin] at ha hb
    by_cases hae : a = e <;> by_cases hbe : b = e
    · rw [hae, hbe]
    · rw [if_pos hae] at ha; rw [if_neg hbe] at hb
      obtain rfl := Option.some.inj ha
      exact absurd hk.symm (hfresh d ((mem_inUse _ _).2 ⟨b, hb⟩))
    · rw [if_neg hae] at ha; rw [if_pos hbe] at hb
      obtain rfl := Option.some.inj hb
      exact absurd hk (hfresh c ((mem_inUse _ _).2 ⟨a, ha⟩))
    · rw [if_neg hae] at ha; rw [if_neg hbe] at hb
      exact h.oneCoil a b c d ha hb hk
  · intro c hc
    have hnew : ∀ l ∈ inUse w.lots, ∃ l' ∈ inUse (w.modifyLot lot.number fun t =>
        { t with nextSequence := t.nextSequence + 1 }).lots,
        l'.number = l.number ∧ l.nextSequence ≤ l'.nextSequence ∧
        (l = lot → l.nextSequence < l'.nextSequence) := by
      intro l hl
      refine ⟨_, (mem_lots_modifyLot _ _ _ _).2 ⟨l, hl, rfl⟩, ?_⟩
      split
      · exact ⟨rfl, Nat.le_succ _, fun _ => Nat.lt_succ_self _⟩
      · next hne => exact ⟨rfl, le_rfl, fun e => absurd (by rw [e]) hne⟩
    simp only [Works.modifyLine_coils, Works.modifyLot_coils] at hc
    rcases (mem_inUse_set _ _ _ _ hfree).1 hc with rfl | hc
    · obtain ⟨l', hl', hnum, -, hlt⟩ := hnew lot hmem
      exact ⟨l', hl', hnum, hlt rfl⟩
    · obtain ⟨l, hl, hnum, hseq⟩ := h.issued c hc
      obtain ⟨l', hl', hnum', hle, -⟩ := hnew l hl
      exact ⟨l', hl', hnum'.trans hnum, lt_of_lt_of_le hseq hle⟩

theorem Works.keyed.removeLot {w : Works} (h : w.keyed) (n : Nat) (hn : w.coilsHeld n = 0) :
    (w.removeLot n).keyed := by
  refine ⟨fun i j l m hi hj => ?_, h.oneCoil, fun c hc => ?_⟩
  · simp only [Works.removeLot, mapTable_getFin, Option.filter_eq_some_iff] at hi hj
    exact h.oneLot i j l m hi.1 hj.1
  · obtain ⟨l, hl, hnum, hseq⟩ := h.issued c hc
    have hne : c.key.lot ≠ n := by
      intro e
      have := List.length_eq_zero_iff.1 hn
      rw [List.filter_eq_nil_iff] at this
      exact this c hc (by simpa using e)
    exact ⟨l, (mem_inUse_filter _ _ _).2 ⟨hl, by simpa [hnum] using hne⟩, hnum, hseq⟩

theorem Works.keyed.removeCoil {w : Works} (h : w.keyed) (k : CoilKey) : (w.removeCoil k).keyed := by
  refine ⟨h.oneLot, fun i j c d hi hj => ?_, fun c hc => ?_⟩
  · simp only [Works.removeCoil, mapTable_getFin, Option.filter_eq_some_iff] at hi hj
    exact h.oneCoil i j c d hi.1 hj.1
  · exact h.issued c ((mem_inUse_filter _ _ _).1 hc).1

theorem Works.keyed.openLot {w : Works} (h : w.keyed) (e : LotIx) (n : Nat) (sp : Spec)
    (fresh : w.lot? n = none) (free : lowestFree w.lots = some e) :
    Works.keyed { w with lots := w.lots.set e (some (Lot.opening n sp)) } := by
  have hfree := (lowestFree_spec _ _ free).1
  have hnew : ∀ l ∈ inUse w.lots, l.number ≠ n := fun l hl hn =>
    absurd (List.find?_eq_none.1 fresh l hl) (by simpa using hn)
  refine ⟨fun a b c d ha hb hk => ?_, h.oneCoil, fun c hc => ?_⟩
  · simp only [set_getFin] at ha hb
    by_cases hae : a = e <;> by_cases hbe : b = e
    · rw [hae, hbe]
    · rw [if_pos hae] at ha; rw [if_neg hbe] at hb
      obtain rfl := Option.some.inj ha
      exact absurd hk.symm (hnew d ((mem_inUse _ _).2 ⟨b, hb⟩))
    · rw [if_neg hae] at ha; rw [if_pos hbe] at hb
      obtain rfl := Option.some.inj hb
      exact absurd hk (hnew c ((mem_inUse _ _).2 ⟨a, ha⟩))
    · rw [if_neg hae] at ha; rw [if_neg hbe] at hb
      exact h.oneLot a b c d ha hb hk
  · obtain ⟨l, hl, hnum, hseq⟩ := h.issued c hc
    exact ⟨l, (mem_inUse_set _ _ _ _ hfree).2 (.inr hl), hnum, hseq⟩

theorem Works.Evolves.keyed {w v : Works} (h : w.Evolves v) (hw : w.keyed) : v.keyed := by
  induction h with
  | trans _ _ ih1 ih2 => exact ih2 (ih1 hw)
  | lists lots _ coils => exact hw.of_eq lots coils
  | cores lots _ coils => exact hw.of_eq lots coils
  | line w i f => exact hw.of_eq rfl rfl
  | lot w n f hf =>
    exact hw.modifyLot n f fun l hl => ⟨(hf l hl).keeps.1, (hf l hl).keeps.2.ge⟩
  | coil w k f hf =>
    refine hw.map (fun l => l) _ (mapTable_map_id _).symm rfl (fun _ _ => ⟨rfl, le_rfl⟩) fun c hc => ?_
    split
    · next e => exact (hf c (by rw [← e]; exact hw.coil?_eq hc)).key
    · rfl
  | removesCoil w k => exact hw.removeCoil k
  | removesLot w n hn => exact hw.removeLot n hn
  | opensCoil w v i pos ho => exact hw.openCoil i pos ho
  | opensLot w e n sp _ _ fresh free => exact hw.openLot e n sp fresh free

@[simp] theorem inUse_replicate_none {α : Type} (n : Nat) :
    inUse (Vector.replicate n (none : Option α)) = [] := by
  simp [inUse]

/-- R174: the tables at the start of LOADING are empty. -/
@[simp] theorem Works.cleared_tables (w : Works) :
    inUse w.cleared.lots = [] ∧ inUse w.cleared.coils = [] :=
  ⟨inUse_replicate_none 32, inUse_replicate_none 96⟩

theorem Works.cleared_keyed (w : Works) : w.cleared.keyed := by
  refine ⟨fun i j l m h => ?_, fun i j c d h => ?_, by simp⟩
  · exact absurd ((mem_inUse _ _).2 ⟨i, h⟩) (by simp)
  · exact absurd ((mem_inUse _ _).2 ⟨i, h⟩) (by simp)

theorem Works.Moves.keyed {w v : Works} (h : w.Moves v) (hw : w.keyed) : v.keyed := by
  cases h with
  | evolves h => exact h.keyed hw
  | cleared u => exact u.cleared_keyed
  | loaded img h => exact hw.of_eq h.lots h.coils

/-- A step is the command at the front of the queue, or the tick. -/
theorem step_cases {s t : State} (h : step s = .next t) :
    (s.pending = [] ∧ t = s.tick) ∨
    ∃ c rest, s.pending = c :: rest ∧ exec c { s with pending := rest } = .next t := by
  unfold step at h
  split at h
  · next hp => exact .inl ⟨hp, (Host.Outcome.next.inj h).symm⟩
  · next c rest hp => exact .inr ⟨c, rest, hp, h⟩

/-- What a step does to the records. -/
theorem step_moves {s t : State} (h : step s = .next t) : s.works.Moves t.works := by
  rcases step_cases h with ⟨-, rfl⟩ | ⟨c, rest, -, hc⟩
  · exact .evolves (.refl _)
  · obtain ⟨u, hu, hm⟩ := exec_moves c { s with pending := rest }
    obtain rfl := Host.Outcome.next.inj (hu.symm.trans hc)
    exact hm

/-- Settles O55: every change of the records that `Works.Evolves` lists keeps the keys, and a coil
opens with its lot's next sequence, which no coil has had. -/
theorem keysStayLawful : Obligations.KeysStayLawful := by
  intro s t hs h
  rw [State.keysLawful_iff] at hs ⊢
  exact (step_moves h).keyed hs

/-! ## Predicates of single records -/

/-- A property of each line, lot and coil record. -/
structure Works.each (PL : Line → Prop) (PT : Lot → Prop) (PC : Coil → Prop) (w : Works) : Prop where
  lines : ∀ i, PL (w.line i)
  lots : ∀ l ∈ inUse w.lots, PT l
  coils : ∀ c ∈ inUse w.coils, PC c

/-- What a property of single records has to be closed under, to be kept by every change of the
records. -/
structure EachKept (PL : Line → Prop) (PT : Lot → Prop) (PC : Coil → Prop) : Prop where
  core : ∀ l l' : Line, l'.core = l.core → PL l → PL l'
  line : ∀ (w : Works) (l l' : Line), w.each PL PT PC → Line.Evolves w l l' → PL l → PL l'
  lot : ∀ (w : Works) (l l' : Lot), Lot.Evolves w l l' → PT l → PT l'
  coil : ∀ (w : Works) (c c' : Coil), w.each PL PT PC → Coil.Evolves w c c' → PC c → PC c'
  issues : ∀ l : Lot, l.nextSequence < Config.sequenceExhausted → PT l →
    PT { l with nextSequence := l.nextSequence + 1 }
  opensCoil : ∀ (lot : Lot) (i : LineIx) (l : Line) (pos : Nat),
    lot.nextSequence < Config.sequenceExhausted → PT lot → PL l →
    PC (Coil.opening ⟨lot.number, lot.nextSequence⟩ i l pos)
  opensLot : ∀ (n : Nat) (sp : Spec), 1 ≤ n → n ≤ 65535 → PT (Lot.opening n sp)

theorem Works.each.modifyLine {PL : Line → Prop} {PT : Lot → Prop} {PC : Coil → Prop} {w : Works}
    (h : w.each PL PT PC) (i : LineIx) (f : Line → Line) (hf : PL (f (w.line i))) :
    (w.modifyLine i f).each PL PT PC := by
  refine ⟨fun j => ?_, h.lots, h.coils⟩
  rw [Works.line_modifyLine]
  split
  · exact hf
  · exact h.lines j

theorem Works.each.modifyLot {PL : Line → Prop} {PT : Lot → Prop} {PC : Coil → Prop} {w : Works}
    (h : w.each PL PT PC) (hk : w.keyed) (n : Nat) (f : Lot → Lot)
    (hf : ∀ l, w.lot? n = some l → PT l → PT (f l)) : (w.modifyLot n f).each PL PT PC := by
  refine ⟨h.lines, fun l hl => ?_, h.coils⟩
  obtain ⟨m, hm, rfl⟩ := (mem_lots_modifyLot _ _ _ _).1 hl
  split
  · next e => exact hf m (by rw [← e]; exact hk.lot?_eq hm) (h.lots m hm)
  · exact h.lots m hm

theorem Works.each.openCoil {PL : Line → Prop} {PT : Lot → Prop} {PC : Coil → Prop} {w v : Works}
    (hkept : EachKept PL PT PC) (h : w.each PL PT PC) (hk : w.keyed) (i : LineIx) (pos : Nat)
    (ho : w.openCoil i pos = .ok v) : v.each PL PT PC := by
  obtain ⟨lot, e, hlot, hseq, he, rfl⟩ := Works.openCoil_ok w v i pos ho
  obtain ⟨n, -, hn⟩ := Option.bind_eq_some_iff.1 hlot
  obtain ⟨hmem, -⟩ := Works.lot?_some w n lot hn
  have hlots := (h.modifyLot hk lot.number (fun t => { t with nextSequence := t.nextSequence + 1 })
    fun l hl hp => hkept.issues l (by
      rw [hk.lot?_eq hmem] at hl; rw [← Option.some.inj hl]; exact hseq) hp).lots
  refine ⟨fun j => ?_, hlots, fun c hc => ?_⟩
  · rw [Works.line_modifyLine]
    split
    · exact hkept.core (w.line i) _ rfl (h.lines i)
    · exact h.lines j
  · simp only [Works.modifyLine_coils, Works.modifyLot_coils] at hc
    rcases (mem_inUse_set _ _ _ _ (lowestFree_spec _ _ he).1).1 hc with rfl | hc
    · exact hkept.opensCoil lot i _ pos hseq (h.lots lot hmem) (h.lines i)
    · exact h.coils c hc

/-- A property of single records that is closed under the units' changes is kept by all of them. -/
theorem Works.Evolves.each {PL : Line → Prop} {PT : Lot → Prop} {PC : Coil → Prop} {w v : Works}
    (hkept : EachKept PL PT PC) (h : w.Evolves v) (hk : w.keyed) (hw : w.each PL PT PC) :
    v.each PL PT PC := by
  induction h with
  | trans h _ ih1 ih2 => exact ih2 (h.keyed hk) (ih1 hk hw)
  | @lists w v lots lines coils =>
    refine ⟨fun i => ?_, by rw [lots]; exact hw.lots, by rw [coils]; exact hw.coils⟩
    have e : v.line i = w.line i := congrArg (fun x : Vector Line 16 => x[i]) lines
    rw [e]; exact hw.lines i
  | cores lots lines coils =>
    exact ⟨fun i => hkept.core _ _ (lines i) (hw.lines i), by rw [lots]; exact hw.lots,
      by rw [coils]; exact hw.coils⟩
  | line w i f hf => exact hw.modifyLine i f (hkept.line w _ _ hw hf (hw.lines i))
  | lot w n f hf => exact hw.modifyLot hk n f fun l hl => hkept.lot w l _ (hf l hl)
  | coil w k f hf =>
    refine ⟨hw.lines, hw.lots, fun c hc => ?_⟩
    obtain ⟨b, hb, rfl⟩ := (mem_coils_modifyCoil _ _ _ _).1 hc
    split
    · next e => exact hkept.coil w b _ hw (hf b (by rw [← e]; exact hk.coil?_eq hb)) (hw.coils b hb)
    · exact hw.coils b hb
  | removesCoil w k =>
    exact ⟨hw.lines, hw.lots, fun c hc => hw.coils c ((mem_inUse_filter _ _ _).1 hc).1⟩
  | removesLot w n hn =>
    exact ⟨hw.lines, fun l hl => hw.lots l ((mem_inUse_filter _ _ _).1 hl).1, hw.coils⟩
  | opensCoil w v i pos ho => exact hw.openCoil hkept hk i pos ho
  | opensLot w e n sp pos bound fresh free =>
    refine ⟨hw.lines, fun l hl => ?_, hw.coils⟩
    rcases (mem_inUse_set _ _ _ _ (lowestFree_spec _ _ free).1).1 hl with rfl | hl
    · exact hkept.opensLot n sp pos bound
    · exact hw.lots l hl

@[simp] theorem Works.line_cleared (w : Works) (i : LineIx) : w.cleared.line i = (w.line i).cleared :=
  mapTable_getFin _ _ _

/-- Such a property is kept by every command, when the lines have it as a restart clears them and as
a load makes them. -/
theorem Works.Moves.each {PL : Line → Prop} {PT : Lot → Prop} {PC : Coil → Prop} {w v : Works}
    (hkept : EachKept PL PT PC) (hreset : PL Line.reset) (h : w.Moves v) (hk : w.keyed)
    (hw : w.each PL PT PC) : v.each PL PT PC := by
  cases h with
  | evolves h => exact h.each hkept hk hw
  | cleared u =>
    exact ⟨fun i => hkept.core _ _ (by rw [Works.line_cleared]; rfl) hreset, by simp, by simp⟩
  | loaded img h =>
    refine ⟨fun i => hkept.core _ _ (by rw [h.lines i]; rfl) hreset, ?_, ?_⟩
    · rw [h.lots]; exact hw.lots
    · rw [h.coils]; exact hw.coils

/-! ## Zone lists (R101, R102) -/

theorem zonesOrdered_iff (zs : List Zone) :
    zonesOrdered zs ↔ zs.Pairwise fun a b => a.start ≤ b.start := by
  induction zs with
  | nil => simp [zonesOrdered]
  | cons z zs ih => simp [zonesOrdered, ih]

theorem insertZone_perm (z : Zone) (zs : List Zone) : (insertZone z zs).Perm (z :: zs) := by
  induction zs with
  | nil => exact .refl _
  | cons y ys ih =>
    unfold insertZone
    split
    · exact (ih.cons y).trans (.swap z y ys)
    · exact .refl _

theorem insertZone_ordered (z : Zone) (zs : List Zone) (h : zonesOrdered zs) :
    zonesOrdered (insertZone z zs) := by
  induction zs with
  | nil => simp [insertZone, zonesOrdered]
  | cons y ys ih =>
    obtain ⟨hy, hys⟩ := h
    unfold insertZone
    split
    · next hle =>
      refine ⟨fun x hx => ?_, ih hys⟩
      rcases List.mem_cons.1 ((insertZone_perm z ys).mem_iff.1 hx) with rfl | hx
      · exact hle
      · exact hy x hx
    · next hgt =>
      refine ⟨fun x hx => ?_, hy, hys⟩
      rcases List.mem_cons.1 hx with rfl | hx
      · omega
      · have := hy x hx; omega

/-- Zones changed in place, each with its start kept, keep the order of a list. -/
theorem zonesOrdered_map (f : Zone → Zone) (zs : List Zone) (hf : ∀ z, (f z).start = z.start)
    (h : zonesOrdered zs) : zonesOrdered (zs.map f) := by
  rw [zonesOrdered_iff] at h ⊢
  exact List.pairwise_map.2 (h.imp fun {a b} hab => by rw [hf, hf]; exact hab)

/-- Changed in place, with no zone opened, a lawful list stays lawful when no zone then ends before
its start. -/
theorem Coil.zonesLawful.map {c : Coil} (h : c.zonesLawful) (c' : Coil) (f : Zone → Zone)
    (hz : c'.zones = c.zones.map f) (hstart : ∀ z, (f z).start = z.start)
    (hopen : ∀ z q, (f z).openOf q = true → z.openOf q = true)
    (hends : ∀ z e, (z.stop = some e → z.start ≤ e) → (f z).stop = some e → z.start ≤ e) :
    c'.zonesLawful := by
  refine ⟨?_, ?_, ?_, fun q => ?_⟩
  · rw [hz, List.length_map]; exact h.limit
  · rw [hz]; exact zonesOrdered_map f _ hstart h.ordered
  · intro z hmem e he
    rw [hz] at hmem
    obtain ⟨y, hy, rfl⟩ := List.mem_map.1 hmem
    rw [hstart]
    exact hends y e (fun hy' => h.ends y hy e hy') he
  · rw [hz, List.filter_map, List.length_map]
    exact (List.monotone_filter_right c.zones fun z => hopen z q).length_le.trans (h.oneOpen q)

theorem Coil.zonesLawful.of_zones {c c' : Coil} (h : c.zonesLawful) (hz : c'.zones = c.zones) :
    c'.zonesLawful := by
  refine ⟨?_, ?_, ?_, ?_⟩ <;> rw [hz]
  · exact h.limit
  · exact h.ordered
  · exact h.ends
  · exact h.oneOpen

/-- R101: a zone that is placed on a lawful list, no other of its cause being open. -/
theorem Coil.zonesLawful.place {c : Coil} (h : c.zonesLawful) (z : Zone)
    (hends : ∀ e, z.stop = some e → z.start ≤ e)
    (hopen : z.stop = none → (c.openZone? z.cause) = none) : (c.placeZone z).zonesLawful := by
  unfold Coil.placeZone
  split
  · exact h.of_zones (by simp)
  · next hroom =>
    have hp := insertZone_perm z c.zones
    suffices hins : Coil.zonesLawful { c with zones := insertZone z c.zones } from
      hins.of_zones (by simp)
    refine ⟨?_, insertZone_ordered z c.zones h.ordered, fun y hy e he => ?_, fun q => ?_⟩
    · show (insertZone z c.zones).length ≤ _
      rw [hp.length_eq, List.length_cons]; omega
    · rcases List.mem_cons.1 (hp.mem_iff.1 hy) with rfl | hy
      · exact hends e he
      · exact h.ends y hy e he
    · show ((insertZone z c.zones).filter fun z => z.openOf q).length ≤ 1
      rw [(hp.filter _).length_eq, List.filter_cons]
      split
      · next ho =>
        obtain ⟨rfl, hs⟩ : z.cause = q ∧ z.stop = none := by
          simpa [Zone.openOf] using ho
        have hnone : (c.zones.filter fun y => y.openOf z.cause) = [] :=
          List.filter_eq_nil_iff.2 fun y hy => List.find?_eq_none.1 (hopen hs) y hy
        rw [hnone]
        exact le_rfl
      · exact h.oneOpen q

theorem Coil.zonesLawful.openZone {c : Coil} (h : c.zonesLawful) (q : Cause) (pos : Nat) (x : Int)
    (ho : c.hasOpen q = false) : (c.openZone q pos x).zonesLawful := by
  have hplace := h.place { cause := q, start := c.zoneStart q pos, stop := none, extreme := x }
    (by simp) fun _ => by
      have : (c.openZone? q).isSome = false := (Bool.or_eq_false_iff.1 ho).1
      simpa using this
  unfold Coil.openZone
  dsimp only
  split
  · exact hplace.of_zones rfl
  · exact hplace

theorem Coil.zonesLawful.closeZone {c : Coil} (h : c.zonesLawful) (q : Cause) (pos len : Nat) :
    (c.closeZone q pos len).zonesLawful := by
  unfold Coil.closeZone
  split
  · refine h.map _ (fun z => if z.openOf q then { z with stop := some (max pos z.start) } else z)
      (by simp) (fun z => by split <;> rfl) (fun z q' hz => ?_) fun z e hz he => ?_
    · split at hz
      · simp [Zone.openOf] at hz
      · exact hz
    · split at he
      · obtain rfl := Option.some.inj he; exact le_max_right _ _
      · exact hz he
  · exact h.of_zones rfl

theorem Coil.zonesLawful.closeAll {c : Coil} (h : c.zonesLawful) (len : Nat) :
    (c.closeAll len).zonesLawful := by
  refine h.map _ (fun z => if z.stop.isNone then { z with stop := some (max len z.start) } else z)
    rfl (fun z => by split <;> rfl) (fun z q' hz => ?_) fun z e hz he => ?_
  · split at hz
    · simp [Zone.openOf] at hz
    · exact hz
  · split at he
    · obtain rfl := Option.some.inj he; exact le_max_right _ _
    · exact hz he

theorem Coil.Evolves.zonesLawful {w : Works} {c c' : Coil} (h : Coil.Evolves w c c')
    (hc : c.zonesLawful) : c'.zonesLawful := by
  induction h with
  | refl => exact hc
  | trans _ _ ih1 ih2 => exact ih2 (ih1 hc)
  | judged | placed | joints | rows | slips | revised => exact hc.of_zones rfl
  | opens c q pos x ho => exact hc.openZone q pos x ho
  | marks c start stop hle =>
    exact hc.place _ (fun e he => by obtain rfl := Option.some.inj he; exact hle) (by simp)
  | closes c q pos len => exact hc.closeZone q pos len
  | closesAll c len => exact hc.closeAll len
  | extremes c f => exact hc.map _ _ rfl (fun _ => rfl) (fun _ _ h => h) fun _ _ h => h
  | weighs c weight len => exact hc.of_zones (by simp)

theorem zonesLawful_kept : EachKept (fun _ => True) (fun _ => True) Coil.zonesLawful where
  core _ _ _ _ := trivial
  line _ _ _ _ _ _ := trivial
  lot _ _ _ _ _ := trivial
  coil _ _ _ _ h hc := h.zonesLawful hc
  issues _ _ _ := trivial
  opensCoil lot i l pos _ _ _ := by
    exact ⟨Nat.zero_le _, trivial, (fun z hz => nomatch hz), fun q => Nat.zero_le 1⟩
  opensLot _ _ _ _ := trivial

/-- Settles O57: `Coil.Evolves` lists the changes of a coil record, and each keeps a lawful zone
list lawful. -/
theorem zoneListsStayLawful : Obligations.ZoneListsStayLawful := by
  intro s t hk hs h
  have hw : s.works.each (fun _ => True) (fun _ => True) Coil.zonesLawful :=
    ⟨fun _ => trivial, fun _ _ => trivial, hs⟩
  exact ((step_moves h).each zonesLawful_kept trivial ((State.keysLawful_iff s).1 hk) hw).coils

/-! ## CLOSED lots (R6 to R8) -/

/-- R8: `State.closedLotsIdle`, which speaks of the records alone. -/
def Works.closedIdle (w : Works) : Prop :=
  ∀ l ∈ inUse w.lots, l.state = .closed → w.runningSet l.number = []

theorem Works.runningSet_eq_nil (w : Works) (n : Nat) :
    w.runningSet n = [] ↔ ∀ i, (w.line i).lot ≠ some n := by
  simp [Works.runningSet, List.filter_eq_nil_iff]

theorem Line.lot_of_core {l l' : Line} (h : l'.core = l.core) : l'.lot = l.lot :=
  show l'.core.lot = l.core.lot by rw [h]

/-- A line's lot stays, or becomes none, or an OPEN lot in the table. -/
theorem Line.Evolves.lot_cases {w : Works} {l l' : Line} (h : Line.Evolves w l l') :
    l'.lot = l.lot ∨ l'.lot = none ∨
    ∃ n lot, w.lot? n = some lot ∧ lot.state = .opened ∧ l'.lot = some lot.number := by
  cases h with
  | plain h => exact .inl (Line.lot_of_core h)
  | idle => exact .inr (.inl rfl)
  | assigned n lot isolated h hs => exact .inr (.inr ⟨n, lot, h, hs, rfl⟩)
  | resynced counts =>
    refine .inl ?_
    unfold Line.resynced Line.resetMonitor
    split <;> rfl
  | _ => exact .inl rfl

theorem Lot.Evolves.closed_cases {w : Works} {l l' : Lot} (h : Lot.Evolves w l l')
    (hc : l'.state = .closed) : l.state = .closed ∨ w.runningSet l.number = [] := by
  cases h with
  | closing => cases hc
  | closed h => exact .inr h
  | _ => exact .inl hc

theorem Works.closedIdle.of_lots {w v : Works} (h : w.closedIdle) (lots : v.lots = w.lots)
    (lines : ∀ i, (v.line i).lot = (w.line i).lot) : v.closedIdle := by
  intro l hl hc
  rw [Works.runningSet_eq_nil]
  intro i
  rw [lines i]
  exact (Works.runningSet_eq_nil _ _).1 (h l (lots ▸ hl) hc) i

theorem Works.Evolves.closedIdle {w v : Works} (h : w.Evolves v) (hk : w.keyed)
    (hw : w.closedIdle) : v.closedIdle := by
  induction h with
  | trans h _ ih1 ih2 => exact ih2 (h.keyed hk) (ih1 hk hw)
  | @lists w v lots lines _ =>
    refine hw.of_lots lots fun i => ?_
    have e : v.line i = w.line i := congrArg (fun x : Vector Line 16 => x[i]) lines
    rw [e]
  | cores lots lines _ => exact hw.of_lots lots fun i => Line.lot_of_core (lines i)
  | line w i f hf =>
    intro l hl hc
    have hold := (Works.runningSet_eq_nil _ _).1 (hw l hl hc)
    rw [Works.runningSet_eq_nil]
    intro j
    rw [Works.line_modifyLine]
    split
    · rcases hf.lot_cases with e | e | ⟨n, lot, hn, hs, e⟩
      · rw [e]; exact hold i
      · rw [e]; simp
      · rw [e]
        intro he
        obtain ⟨hmem, -⟩ := Works.lot?_some w n lot hn
        rw [hk.sameLot hmem hl (Option.some.inj he), hc] at hs
        cases hs
    · exact hold j
  | lot w n f hf =>
    intro l hl hc
    obtain ⟨m, hm, rfl⟩ := (mem_lots_modifyLot _ _ _ _).1 hl
    split at hc
    · next e =>
      have hev := hf m (by rw [← e]; exact hk.lot?_eq hm)
      rw [if_pos e, hev.keeps.1]
      rcases hev.closed_cases hc with h | h
      · exact hw m hm h
      · exact h
    · next e => rw [if_neg e]; exact hw m hm hc
  | coil w k f _ => exact hw.of_lots rfl fun _ => rfl
  | removesCoil w k => exact hw.of_lots rfl fun _ => rfl
  | removesLot w n _ => exact fun l hl hc => hw l ((mem_inUse_filter _ _ _).1 hl).1 hc
  | opensCoil w v i pos ho =>
    obtain ⟨lot, e, -, -, -, rfl⟩ := Works.openCoil_ok w v i pos ho
    intro l hl hc
    obtain ⟨m, hm, rfl⟩ := (mem_lots_modifyLot _ _ _ _).1 hl
    have hm' : m.state = .closed := by split at hc <;> exact hc
    have hnum : ∀ p : Prop, ∀ [Decidable p],
        (if p then { m with nextSequence := m.nextSequence + 1 } else m).number = m.number := by
      intro p _; split <;> rfl
    rw [hnum, Works.runningSet_eq_nil]
    intro j
    rw [Works.line_modifyLine]
    have hold := (Works.runningSet_eq_nil _ _).1 (hw m hm hm')
    split
    · exact hold i
    · exact hold j
  | opensLot w e n sp _ _ _ free =>
    intro l hl hc
    rcases (mem_inUse_set _ _ _ _ (lowestFree_spec _ _ free).1).1 hl with rfl | hl
    · cases hc
    · exact hw l hl hc

/-- Settles O59: a line takes up only an OPEN lot, and a lot becomes CLOSED only when no line runs
it. -/
theorem closedLotsStayIdle : Obligations.ClosedLotsStayIdle := by
  intro s t hk hs h
  have hw : s.works.closedIdle := hs
  show t.works.closedIdle
  have hm := step_moves h
  generalize t.works = v at hm ⊢
  cases hm with
  | evolves h => exact h.closedIdle ((State.keysLawful_iff s).1 hk) hw
  | cleared u => intro l hl; simp at hl
  | loaded img h =>
    intro l _ _
    rw [Works.runningSet_eq_nil]
    intro i
    rw [h.lines i]
    simp [Image.lineRecord, Line.reset]

end Sys2Proof.Machine
end

section
namespace Sys2Proof.Machine

/-! # The rows of the opcode table, by what they can touch -/

/-! ## Host commands as one form (table 9.1, R162, R163) -/

/-- A host command with the checks that are common to all: its code, its argument count, whether
HOLD refuses it, its argument bytes, and what it does once these are passed. -/
structure HostRow where
  code : Byte
  count : Nat
  changesRecords : Bool
  args : List Byte
  act : State → State

/-- The host command that a row of the opcode table is; none for RESULT, for a code without a row,
and for an event. -/
def hostRow? : Instr → Option HostRow
  | .lotOpen a => some ⟨0x01, 41, true, a, fun t => t.lotOpen (bytesAt a 0 2) (specOf (a.drop 2))⟩
  | .lotAmend a => some ⟨0x02, 41, true, a, fun t => t.lotAmend (bytesAt a 0 2) (specOf (a.drop 2))⟩
  | .lotClose a => some ⟨0x03, 2, true, a, fun t => t.lotClose (bytesAt a 0 2)⟩
  | .lotRetire a => some ⟨0x04, 2, true, a, fun t => t.lotRetire (bytesAt a 0 2)⟩
  | .lineAssign a => some ⟨0x08, 3, true, a, fun t => t.lineAssign (bytesAt a 0 1) (bytesAt a 1 2)⟩
  | .lineRelease a => some ⟨0x09, 1, true, a, fun t => t.lineRelease (bytesAt a 0 1)⟩
  | .lineWheels a =>
    some ⟨0x0A, 3, true, a, fun t => t.lineWheels (bytesAt a 0 1) (bytesAt a 1 1) (bytesAt a 2 1)⟩
  | .laneSet a => some ⟨0x0B, 2, true, a, fun t => t.laneSet (bytesAt a 0 1) (bytesAt a 1 1)⟩
  | .coilMark a =>
    some ⟨0x10, 12, true, a, fun t => t.coilMark (keyAt a 0) (bytesAt a 4 4) (bytesAt a 8 4)⟩
  | .coilSeal a => some ⟨0x11, 8, true, a, fun t => t.coilSeal (keyAt a 0) (bytesAt a 4 4)⟩
  | .coilRetire a => some ⟨0x12, 4, true, a, fun t => t.coilRetire (keyAt a 0)⟩
  | .readRecord a =>
    some ⟨0x18, 6, false, a, fun t => t.readRecord (bytesAt a 0 1) (bytesAt a 1 4) (bytesAt a 5 1)⟩
  | .listKeys a => some ⟨0x19, 2, false, a, fun t => t.listKeys (bytesAt a 0 1) (bytesAt a 1 1)⟩
  | .noticeRead a => some ⟨0x20, 0, false, a, fun t => t.noticeRead⟩
  | .noticeClear a =>
    some ⟨0x21, 4, false, a, fun t =>
      t.noticeClear (bytesAt a 0 1) (bytesAt a 1 1) (BitVec.ofNat 16 (bytesAt a 2 2))⟩
  | .storeRead a =>
    some ⟨0x28, 2, false, a, fun t => t.startTransfer { address := bytesAt a 0 2, data := none }⟩
  | .storeWrite a =>
    some ⟨0x29, 3, false, a, fun t =>
      t.startTransfer { address := bytesAt a 0 2, data := some (a.getD 2 0) }⟩
  | .stationProbe a => some ⟨0x30, 1, false, a, fun t => t.stationProbe (bytesAt a 0 1)⟩
  | .restartWarm a => some ⟨0x3E, 0, false, a, fun t => t.warmRestart⟩
  | .restartCold a => some ⟨0x3F, 0, false, a, fun t => t.enterLoading⟩
  | _ => none

/-- What the form says of the row, and that the row's meaning is the form's. -/
theorem hostRow?_some {c : Instr} {r : HostRow} (h : hostRow? c = some r) :
    (∀ s, exec c s = .next (s.hostCommand r.code r.count r.changesRecords r.args r.act)) ∧
    c.transaction? = some (r.code, r.args) ∧ c.wf = (r.args.length == r.count) ∧
    c.changesRecords = r.changesRecords := by
  cases c <;> first
    | (obtain rfl := Option.some.inj h; exact ⟨fun _ => rfl, rfl, rfl, rfl⟩)
    | cases h

theorem hostRow?_exec {c : Instr} {r : HostRow} (h : hostRow? c = some r) (s : State) :
    exec c s = .next (s.hostCommand r.code r.count r.changesRecords r.args r.act) :=
  (hostRow?_some h).1 s

/-- A row with a transaction is one of the forms, RESULT, or the row of a code without a row. -/
theorem transaction_cases {c : Instr} {code : Byte} {args : List Byte}
    (h : c.transaction? = some (code, args)) :
    (∃ r, hostRow? c = some r ∧ r.code = code ∧ r.args = args) ∨
    (c = .result args ∧ code = 0x40) ∨ c = .unknownCommandCode code args := by
  cases c <;> first
    | (obtain ⟨rfl, rfl⟩ := Prod.mk.inj (Option.some.inj h); exact .inl ⟨_, rfl, rfl, rfl⟩)
    | (obtain ⟨rfl, rfl⟩ := Prod.mk.inj (Option.some.inj h); exact .inr (.inl ⟨rfl, rfl⟩))
    | (obtain ⟨rfl, rfl⟩ := Prod.mk.inj (Option.some.inj h); exact .inr (.inr rfl))
    | cases h

/-- A transaction whose code is none of table 9.1's own rows is RESULT's, another form's, or is
refused MALFORMED. -/
theorem transaction_exec {c : Instr} {code : Byte} {args : List Byte}
    (h : c.transaction? = some (code, args)) (s : State) :
    (∃ r d, hostRow? d = some r ∧ r.code = code ∧ r.args = args ∧
      exec c s = .next (s.hostCommand code r.count r.changesRecords args r.act)) ∨
    (code = 0x40 ∧ exec c s = .next (s.release code args)) ∨
    exec c s = .next (s.transact code args fun t => t.respond .malformed) := by
  rcases transaction_cases h with ⟨r, hr, rfl, rfl⟩ | ⟨rfl, rfl⟩ | rfl
  · exact .inl ⟨r, c, hr, rfl, rfl, hostRow?_exec hr s⟩
  · exact .inr (.inl ⟨rfl, rfl⟩)
  · rcases exec_unknownCommandCode_cases code args s with ⟨d, hd, hne, e⟩ | ⟨-, e⟩
    · rcases transaction_cases hd with ⟨r, hr, rfl, rfl⟩ | ⟨rfl, rfl⟩ | rfl
      · exact .inl ⟨r, d, hr, rfl, rfl, e.trans (hostRow?_exec hr s)⟩
      · exact .inr (.inl ⟨rfl, e⟩)
      · exact absurd rfl (hne code args)
    · exact .inr (.inr e)

/-! ## What a host command does once its checks are passed -/

/-- What the host commands do to the state, for one that changes records (`true`) and for the
others. -/
inductive State.Acts (s : State) : Bool → State → Prop
  | refuses {b : Bool} (st : Status) (h : st ≠ .ok) : Acts s b (s.respond st)
  | accepts (w : Works) : Acts s true (s.accept w)
  | shows (r : ResultBuffer) (fields : r.fields.length ≤ 32) (first : r.firstField ≤ 31) :
    Acts s false (s.respondWith r)
  | clears (n : Notices) (r : ResultBuffer) (fields : r.fields.length ≤ 32)
    (first : r.firstField ≤ 31) :
    Acts s false ({ s with works := { s.works with notices := n } }.respondWith r)
  | transfers (r : StoreRequest) : Acts s false (s.startTransfer r)
  | probes (d : StationIx) (st : Station) (h : s.link.stations[d] = some st) :
    Acts s false ({ s with link := s.link.probe d st }.respond .ok)
  | warm : Acts s false s.warmRestart
  | cold : Acts s false s.enterLoading

theorem State.lotOpen_acts (s : State) (n : Nat) (sp : Spec) : s.Acts true (s.lotOpen n sp) := by
  unfold State.lotOpen
  split
  · exact .refuses _ (by decide)
  · split
    · exact .refuses _ (by decide)
    · split
      · exact .refuses _ (by decide)
      · split
        · exact .refuses _ (by decide)
        · exact .accepts _

theorem State.lotAmend_acts (s : State) (n : Nat) (sp : Spec) : s.Acts true (s.lotAmend n sp) := by
  unfold State.lotAmend
  split
  · exact .refuses _ (by decide)
  · split
    · exact .refuses _ (by decide)
    · split
      · exact .refuses _ (by decide)
      · split
        · exact .refuses _ (by decide)
        · split
          · exact .refuses _ (by decide)
          · exact .accepts _

theorem State.lotClose_acts (s : State) (n : Nat) : s.Acts true (s.lotClose n) := by
  unfold State.lotClose
  split
  · exact .refuses _ (by decide)
  · split
    · exact .refuses _ (by decide)
    · exact .refuses _ (by decide)
    · exact .accepts _

theorem State.lotRetire_acts (s : State) (n : Nat) : s.Acts true (s.lotRetire n) := by
  unfold State.lotRetire
  split
  · exact .refuses _ (by decide)
  · split
    · exact .refuses _ (by decide)
    · exact .refuses _ (by decide)
    · split
      · exact .refuses _ (by decide)
      · exact .accepts _

theorem State.lineAssign_acts (s : State) (line n : Nat) : s.Acts true (s.lineAssign line n) := by
  unfold State.lineAssign
  split
  · exact .refuses _ (by decide)
  · unfold State.assign
    dsimp only
    split
    · exact .refuses _ (by decide)
    · split
      · exact .refuses _ (by decide)
      · split
        · exact .refuses _ (by decide)
        · split
          · exact .refuses _ (by decide)
          · split
            · exact .refuses _ (by decide)
            · exact .accepts _

theorem State.lineRelease_acts (s : State) (line : Nat) : s.Acts true (s.lineRelease line) := by
  unfold State.lineRelease
  split
  · exact .refuses _ (by decide)
  · dsimp only
    split
    · exact .refuses _ (by decide)
    · exact .accepts _

theorem State.lineWheels_acts (s : State) (line m c : Nat) :
    s.Acts true (s.lineWheels line m c) := by
  unfold State.lineWheels
  split
  · split
    · exact .refuses _ (by decide)
    · exact .accepts _
  · exact .refuses _ (by decide)

theorem State.laneSet_acts (s : State) (line lane : Nat) : s.Acts true (s.laneSet line lane) := by
  unfold State.laneSet
  split
  · split
    · exact .refuses _ (by decide)
    · exact .accepts _
  · exact .refuses _ (by decide)

theorem State.coilMark_acts (s : State) (k : CoilKey) (start stop : Nat) :
    s.Acts true (s.coilMark k start stop) := by
  unfold State.coilMark
  split
  · exact .refuses _ (by decide)
  · dsimp only
    split
    · exact .refuses _ (by decide)
    · split
      · exact .refuses _ (by decide)
      · split
        · exact .refuses _ (by decide)
        · exact .accepts _

theorem State.coilSeal_acts (s : State) (k : CoilKey) (weight : Nat) :
    s.Acts true (s.coilSeal k weight) := by
  unfold State.coilSeal
  split
  · exact .refuses _ (by decide)
  · split
    · exact .accepts _
    · exact .accepts _
    · exact .refuses _ (by decide)

theorem State.coilRetire_acts (s : State) (k : CoilKey) : s.Acts true (s.coilRetire k) := by
  unfold State.coilRetire
  split
  · exact .refuses _ (by decide)
  · split
    · exact .refuses _ (by decide)
    · exact .refuses _ (by decide)
    · exact .refuses _ (by decide)
    · exact .accepts _

@[simp] theorem viewOf_length (listed : List (Nat × Nat)) : (viewOf listed).length = 32 := by
  simp [viewOf]

/-- R165: a view has 32 fields. -/
theorem State.recordView_length (s : State) (kind key : Nat) (view : List Word)
    (h : s.recordView kind key = .ok view) : view.length = 32 := by
  unfold State.recordView at h
  split at h
  · split at h <;> cases h
    exact viewOf_length _
  · split at h <;> cases h
    exact viewOf_length _
  · split at h <;> cases h
    exact viewOf_length _
  · split at h
    · cases h
    · split at h <;> cases h
      exact viewOf_length _
  · cases h

theorem State.readRecord_acts (s : State) (kind key first : Nat) :
    s.Acts false (s.readRecord kind key first) := by
  have hview : ∀ st, s.recordView kind key = .error st → st ≠ .ok := by
    intro st h e
    subst e
    unfold State.recordView at h
    split at h
    · split at h <;> cases h
    · split at h <;> cases h
    · split at h <;> cases h
    · split at h
      · cases h
      · split at h <;> cases h
    · cases h
  unfold State.readRecord
  split
  · exact .refuses _ (by decide)
  · next hrange =>
    split
    · next st h => exact .refuses st (hview st h)
    · next view h =>
      exact .shows _ (s.recordView_length kind key view h).le
        (by show first ≤ 31; omega)

/-- R166: a page holds at most 32 keys. -/
theorem listPage_length (keys : List (Nat × Nat)) (size : Nat) :
    (listPage keys size).1.length ≤ 32 := by
  simp only [listPage, List.length_map, List.length_take]
  exact min_le_left _ _

theorem State.listKeys_acts (s : State) (table start : Nat) :
    s.Acts false (s.listKeys table start) := by
  unfold State.listKeys
  split
  · split
    · exact .refuses _ (by decide)
    · exact .shows _ (listPage_length _ 32) (Nat.zero_le _)
  · split
    · exact .refuses _ (by decide)
    · exact .shows _ (listPage_length _ 96) (Nat.zero_le _)
  · exact .refuses _ (by decide)

/-- R170: the snapshot has 14 fields. -/
theorem State.noticeFields_length (s : State) : s.noticeFields.length = 14 := by
  simp [State.noticeFields]

theorem State.noticeRead_acts (s : State) : s.Acts false s.noticeRead := by
  have hlen : s.noticeResult.fields.length ≤ 32 := by
    show s.noticeFields.length ≤ 32
    rw [State.noticeFields_length]; decide
  unfold State.noticeRead
  dsimp only
  split
  · exact .shows _ hlen (Nat.zero_le _)
  · exact .clears Notices.clear _ hlen (Nat.zero_le _)

theorem State.noticeClear_acts (s : State) (kind index : Nat) (mask : Half) :
    s.Acts false (s.noticeClear kind index mask) := by
  unfold State.noticeClear
  split
  · exact .refuses _ (by decide)
  · split
    · exact .refuses _ (by decide)
    · exact .clears _ _ (Nat.zero_le _) (Nat.zero_le _)

theorem State.stationProbe_acts (s : State) (a : Nat) : s.Acts false (s.stationProbe a) := by
  unfold State.stationProbe
  split
  · exact .refuses _ (by decide)
  · split
    · exact .refuses _ (by decide)
    · next h => exact .probes _ _ h

/-- What a host command does once its checks are passed. -/
theorem hostRow?_acts {c : Instr} {r : HostRow} (h : hostRow? c = some r) (s : State) :
    s.Acts r.changesRecords (r.act s) := by
  cases c <;> first | obtain rfl := Option.some.inj h | cases h
  case lotOpen => exact s.lotOpen_acts _ _
  case lotAmend => exact s.lotAmend_acts _ _
  case lotClose => exact s.lotClose_acts _
  case lotRetire => exact s.lotRetire_acts _
  case lineAssign => exact s.lineAssign_acts _ _
  case lineRelease => exact s.lineRelease_acts _
  case lineWheels => exact s.lineWheels_acts _ _ _
  case laneSet => exact s.laneSet_acts _ _
  case coilMark => exact s.coilMark_acts _ _ _
  case coilSeal => exact s.coilSeal_acts _ _
  case coilRetire => exact s.coilRetire_acts _
  case readRecord => exact s.readRecord_acts _ _ _
  case listKeys => exact s.listKeys_acts _ _
  case noticeRead => exact s.noticeRead_acts
  case noticeClear => exact s.noticeClear_acts _ _ _
  case storeRead => exact .transfers _
  case storeWrite => exact .transfers _
  case stationProbe => exact s.stationProbe_acts _
  case restartWarm => exact .warm
  case restartCold => exact .cold

/-! ## Events and the rows of the link -/

/-- What the rows that are no transaction do: an event of the part, or a change of the records and
the Link Engine. -/
inductive State.Events (s : State) : State → Prop
  | start : Events s { s with
      port := { s.port with
        transaction := some { latched := s.port.result, discarded := false }, inputBuffer := [] } }
  | transferred (acknowledged : Bool) : Events s (s.endTransfer acknowledged)
  | powered : Events s (State.enterLoading
      { s with
        timeBase := 0, settings := .reset, works := .reset, link := .reset,
        port := { s.port with inputBuffer := [], hso := [] } })
  | restarted : Events s { s with timeBase := 0 }.enterLoading
  | loads (acknowledged : Bool) : Events s (s.completeLoad acknowledged)
  | falls : Events s s.supplyFalls
  | rises : Events s s.supplyRises
  | resumes : Events s s.resume

/-- What the rows of the link do. -/
inductive State.LinkActs (s : State) : State → Prop
  | stays : LinkActs s s
  | round : LinkActs s { s with link := s.link.startRound }
  | polls : LinkActs s s.nextPoll
  | sent : LinkActs s s.pollSent
  | discards : LinkActs s s.discardFrame
  | receives (r : Option (List Byte)) :
    LinkActs s { s with link := { s.link with reception := r } }
  | takes (kind address sequence : Byte) (payload : List Byte) :
    LinkActs s (s.takeFrame kind address sequence payload)

/-- Every row of the table is a transaction, an event, or a row of the link. -/
theorem exec_events {c : Instr} (h : c.transaction? = none) (s : State) :
    (c.onLink = false ∧ ∃ t, exec c s = .next t ∧ s.Events t) ∨
    (c.onLink = true ∧ ∃ t, exec c s = .next t ∧ s.LinkActs t) := by
  have taken : ∀ kind a q p, ∃ t,
      (Host.Outcome.next (s.takeFrame kind a q p) : Host.Outcome State Fault Refusal) = .next t ∧
      s.LinkActs t := fun kind a q p => ⟨_, rfl, .takes kind a q p⟩
  cases c
  case transactionStart => exact .inl ⟨rfl, _, rfl, .start⟩
  case storeTransferDone a => exact .inl ⟨rfl, _, rfl, .transferred a⟩
  case powerOn => exact .inl ⟨rfl, _, rfl, .powered⟩
  case resetnAssert => exact .inl ⟨rfl, _, rfl, .restarted⟩
  case loadComplete a => exact .inl ⟨rfl, _, rfl, .loads a⟩
  case supplyOkFall => exact .inl ⟨rfl, _, rfl, .falls⟩
  case supplyOkRise => exact .inl ⟨rfl, _, rfl, .rises⟩
  case resumeTimerExpiry => exact .inl ⟨rfl, _, rfl, .resumes⟩
  case roundStart =>
    refine .inr ⟨rfl, _, rfl, ?_⟩
    split
    · exact .round
    · exact .stays
  case pollSend =>
    refine .inr ⟨rfl, _, rfl, ?_⟩
    split
    · exact .polls
    · exact .stays
  case pollTransmitDone => exact .inr ⟨rfl, _, rfl, .sent⟩
  case replyTimeout =>
    refine .inr ⟨rfl, _, rfl, ?_⟩
    split
    · exact .discards
    · exact .stays
  case characterTimeout => exact .inr ⟨rfl, _, rfl, .discards⟩
  case frameNotIntact => exact .inr ⟨rfl, _, rfl, .discards⟩
  case frameWrongAddress => exact .inr ⟨rfl, _, rfl, .discards⟩
  case characterReceived ch =>
    refine .inr ⟨rfl, _, rfl, ?_⟩
    rcases s.receive_cases ch with ⟨r, e⟩ | e | ⟨kind, a, q, p, e⟩ <;> rw [e]
    · exact .receives r
    · exact .discards
    · exact .takes kind a q p
  all_goals first | exact .inr ⟨rfl, taken _ _ _ _⟩ | cases h

theorem State.LinkActs.sameAside {s t : State} (h : s.LinkActs t) : s.sameAside t := by
  cases h with
  | stays => exact .refl s
  | round => exact State.sameAside_with s s.works _
  | polls =>
    rcases s.nextPoll_cases with e | ⟨k, t, e⟩ <;> rw [e]
    · exact .refl s
    · exact ⟨rfl, rfl, rfl, rfl, rfl, rfl, rfl, rfl, rfl⟩
  | sent => exact State.sameAside_with s s.works _
  | discards => exact s.discardFrame_sameAside
  | receives r => exact State.sameAside_with s s.works _
  | takes kind a q p => exact s.takeFrame_sameAside kind a q p

/-- A command is a host command with its common checks, RESULT, a code refused, an event, or a row
of the link. -/
theorem exec_rows (c : Instr) (s : State) :
    (∃ r d, hostRow? d = some r ∧
      exec c s = .next (s.hostCommand r.code r.count r.changesRecords r.args r.act)) ∨
    (∃ code args, exec c s = .next (s.release code args)) ∨
    (∃ code args, exec c s = .next (s.transact code args fun t => t.respond .malformed)) ∨
    (∃ t, exec c s = .next t ∧ s.Events t) ∨ ∃ t, exec c s = .next t ∧ s.LinkActs t := by
  cases h : c.transaction? with
  | none =>
    rcases exec_events h s with ⟨-, h⟩ | ⟨-, h⟩
    · exact .inr (.inr (.inr (.inl h)))
    · exact .inr (.inr (.inr (.inr h)))
  | some x =>
    obtain ⟨code, args⟩ := x
    rcases transaction_exec h s with ⟨r, d, hd, rfl, rfl, e⟩ | ⟨-, e⟩ | e
    · exact .inl ⟨r, d, hd, e⟩
    · exact .inr (.inl ⟨_, _, e⟩)
    · exact .inr (.inr (.inl ⟨_, _, e⟩))

/-- The one way to prove a property of every row: of the release of a transaction, of a result put
in the buffer after it, of each act of a host command after it, of each event, and of each row of
the link. -/
theorem exec_rows_all (s : State) (P : State → Prop) (released : ∀ code args, P (s.release code args))
    (answered : ∀ code args st, P (s.answered code args (.plain st)))
    (acts : ∀ code args b t, (s.release code args).Acts b t → P t)
    (events : ∀ t, s.Events t → P t) (links : ∀ t, s.LinkActs t → P t) (c : Instr) :
    ∃ t, exec c s = .next t ∧ P t := by
  rcases exec_rows c s with ⟨r, d, hd, e⟩ | ⟨code, args, e⟩ | ⟨code, args, e⟩ | ⟨t, e, h⟩ | ⟨t, e, h⟩
  · refine ⟨_, e, ?_⟩
    rcases State.hostCommand_cases s r.code r.count r.changesRecords r.args r.act with
      ⟨-, k⟩ | ⟨-, -, k⟩ | ⟨-, -, -, -, k⟩ | ⟨-, -, -, k⟩ <;> rw [k]
    · exact released _ _
    · exact answered _ _ _
    · exact answered _ _ _
    · exact acts _ _ _ _ (hostRow?_acts hd _)
  · exact ⟨_, e, released _ _⟩
  · refine ⟨_, e, ?_⟩
    unfold State.transact
    dsimp only
    split
    · exact released _ _
    · exact answered _ _ _
  · exact ⟨t, e, events t h⟩
  · exact ⟨t, e, links t h⟩

/-! ## The queue (95) -/

theorem State.enterLoading_pending (s : State) : s.enterLoading.pending = s.pending := by
  obtain ⟨-, -, -, -, -, -, h, -, -, -⟩ := s.abortStore_frame
  exact h

theorem State.Acts.pending {s t : State} {b : Bool} (h : s.Acts b t) : t.pending = s.pending := by
  cases h with
  | refuses | accepts | shows | clears | probes => rfl
  | transfers r => rcases s.startTransfer_cases r with ⟨q, -, e⟩ | ⟨-, e⟩ <;> rw [e] <;> rfl
  | warm =>
    obtain ⟨-, -, -, -, -, -, h, -, -, -⟩ := s.abortStore_frame
    exact h
  | cold => exact s.enterLoading_pending

theorem State.Events.pending {s t : State} (h : s.Events t) : t.pending = s.pending := by
  cases h with
  | start => rfl
  | transferred a => 
    unfold State.endTransfer
    split
    · rfl
    · dsimp only; split <;> rfl
  | powered => exact State.enterLoading_pending _
  | restarted => exact State.enterLoading_pending _
  | loads a => unfold State.completeLoad; split <;> rfl
  | falls => unfold State.supplyFalls; dsimp only; split <;> rfl
  | rises => unfold State.supplyRises; dsimp only; split <;> rfl
  | resumes => unfold State.resume; split <;> rfl

/-- Settles O2: by the form of the row, `exec_rows_all`. -/
theorem everyCommandCompletesAndKeepsQueue : Obligations.EveryCommandCompletesAndKeepsQueue := by
  intro c s
  exact exec_rows_all s (fun t => t.pending = s.pending) (fun _ _ => rfl) (fun _ _ _ => rfl)
    (fun _ _ _ _ h => h.pending) (fun _ h => h.pending) (fun _ h => h.sameAside.pending) c

/-! ## Transactions (9.1, 9.2) -/

/-- Settles O6: every host command passes `State.transact` first. -/
theorem loadingDiscardsCommands : Obligations.LoadingDiscardsCommands := by
  intro c code args s h hs
  have hs' : s.transactionDiscarded = true ∨ (s.release code args).partState = .loading := hs.symm
  show exec c s = .next (s.release code args)
  rcases transaction_exec h s with ⟨r, d, -, -, -, e⟩ | ⟨-, e⟩ | e
  · rw [e]
    unfold State.hostCommand State.transact
    simp only [if_pos hs']
  · exact e
  · rw [e]
    unfold State.transact
    simp only [if_pos hs']

theorem State.takesCommands.transact {s : State} (h : s.takesCommands) (code : Byte)
    (args : List Byte) (take : State → State) :
    s.transact code args take = take (s.release code args) := by
  unfold State.transact
  refine if_neg ?_
  rintro (hd | hl)
  · rw [h.2] at hd; cases hd
  · exact h.1 hl

/-- Settles O7: a code without a row is answered by its own arm, and a wrong argument count by the
common checks. -/
theorem malformedTransactionsAreRefused : Obligations.MalformedTransactionsAreRefused := by
  refine ⟨fun code args s hs hc => ?_, fun c code args s hs h hne hwf => ?_⟩
  · rcases exec_unknownCommandCode_cases code args s with ⟨d, hd, hne, -⟩ | ⟨-, e⟩
    · have : hostCodes.contains code = true := by
        rcases transaction_cases hd with ⟨r, hr, rfl, -⟩ | ⟨-, rfl⟩ | rfl
        · cases d <;> first | (obtain rfl := Option.some.inj hr; rfl) | cases hr
        · decide
        · exact absurd rfl (hne code args)
      rw [this] at hc; cases hc
    · rw [e, hs.transact]; rfl
  · rcases transaction_cases h with ⟨r, hr, rfl, rfl⟩ | ⟨rfl, -⟩ | rfl
    · obtain ⟨hex, -, hw, -⟩ := hostRow?_some hr
      have hlen : r.args.length ≠ r.count := by
        rw [hw] at hwf; simpa using hwf
      rw [hex, State.hostCommand, hs.transact, State.commonChecks, if_pos hlen]
      rfl
    · cases hwf
    · exact absurd rfl (hne code args)

/-- Settles O8: the eleven commands pass the length check and stop at the check on HOLD. -/
theorem holdRefusesRecordCommands : Obligations.HoldRefusesRecordCommands := by
  intro c code args s hrec hwf h hp hd
  have hs : s.takesCommands := ⟨by rw [hp]; decide, hd⟩
  rcases transaction_cases h with ⟨r, hr, rfl, rfl⟩ | ⟨rfl, -⟩ | rfl
  · obtain ⟨hex, -, hw, hc⟩ := hostRow?_some hr
    have hlen : r.args.length = r.count := by rw [hw] at hwf; simpa using hwf
    have hhold : r.changesRecords = true ∧ (s.release r.code r.args).partState = .hold :=
      ⟨hc ▸ hrec, hp⟩
    rw [hex, State.hostCommand, hs.transact, State.commonChecks, if_neg (not_not_intro hlen),
      if_pos hhold]
    rfl
  · cases hrec
  · cases hrec

/-- Settles O9: a record-changing command only refuses or accepts, by `hostRow?_acts`. -/
theorem recordCommandsChangeOnlyRecords : Obligations.RecordCommandsChangeOnlyRecords := by
  intro c code args s hrec h hs
  rcases transaction_cases h with ⟨r, hr, rfl, rfl⟩ | ⟨rfl, -⟩ | rfl
  · obtain ⟨hex, -, -, hc⟩ := hostRow?_some hr
    rcases State.hostCommand_cases s r.code r.count r.changesRecords r.args r.act with
      ⟨hd, -⟩ | ⟨-, -, e⟩ | ⟨-, -, -, -, e⟩ | ⟨-, -, -, e⟩
    · rcases hd with hd | hl
      · rw [hs.2] at hd; cases hd
      · exact absurd hl hs.1
    · exact .inl ⟨.malformed, by decide, by rw [hex, e]⟩
    · exact .inl ⟨.held, by decide, by rw [hex, e]⟩
    · have hact := hostRow?_acts hr (s.release r.code r.args)
      rw [← hc, hrec] at hact
      rw [hex, e]
      generalize r.act (s.release r.code r.args) = t at hact
      cases hact with
      | refuses st hst => exact .inl ⟨st, hst, rfl⟩
      | accepts w => exact .inr ⟨w, rfl⟩
  · cases hrec
  · cases hrec

/-! ## The EEPROM (R167) -/

/-- A byte at most was written, and only under a write in flight. -/
theorem eeprom_kept_of_write {s : State} {m : List Host.Cell} (hwf : Memory.wf s.eeprom = true)
    (h : m = s.eeprom ∨ ∃ r b, s.port.store = some r ∧ r.data = some b ∧
      m = Memory.write s.eeprom r.address b) :
    Memory.wf m = true ∧
    ∀ a, (∀ r, s.port.store = some r → r.data ≠ none → a ≠ r.address) →
      Memory.read m a = Memory.read s.eeprom a := by
  rcases h with rfl | ⟨r, b, hr, hb, rfl⟩
  · exact ⟨hwf, fun _ _ => rfl⟩
  · exact ⟨Memory.write_wf _ _ _ hwf, fun a ha =>
      Memory.read_write_other _ _ _ _ (ha r hr (by rw [hb]; simp))⟩

theorem State.Acts.eeprom {s t : State} {b : Bool} (h : s.Acts b t) :
    t.eeprom = s.eeprom ∨ ∃ r b, s.port.store = some r ∧ r.data = some b ∧
      t.eeprom = Memory.write s.eeprom r.address b := by
  cases h with
  | refuses | accepts | shows | clears | probes => exact .inl rfl
  | transfers r =>
    rcases s.startTransfer_cases r with ⟨q, -, e⟩ | ⟨-, e⟩ <;> rw [e] <;> exact .inl rfl
  | warm => exact s.abortStore_eeprom_cases
  | cold => exact s.abortStore_eeprom_cases

theorem State.Events.eeprom {s t : State} (h : s.Events t) :
    t.eeprom = s.eeprom ∨ ∃ r b, s.port.store = some r ∧ r.data = some b ∧
      t.eeprom = Memory.write s.eeprom r.address b := by
  cases h with
  | start => exact .inl rfl
  | transferred a =>
    unfold State.endTransfer
    cases hr : s.port.store with
    | none => exact .inl rfl
    | some r =>
      have hw : ∀ u : State, u.eeprom = s.storeWritten r a → u.eeprom = s.eeprom ∨ ∃ r' b,
          some r = some r' ∧ r'.data = some b ∧ u.eeprom = Memory.write s.eeprom r'.address b := by
        intro u hu
        rw [hu]
        rcases s.storeWritten_cases r a with e | ⟨b, hb, -, e⟩
        · exact .inl e
        · exact .inr ⟨r, b, rfl, hb, e⟩
      dsimp only
      split
      · exact hw _ rfl
      · exact hw _ rfl
  | powered => exact State.abortStore_eeprom_cases _
  | restarted => exact State.abortStore_eeprom_cases _
  | loads a => unfold State.completeLoad; split <;> exact .inl rfl
  | falls => unfold State.supplyFalls; dsimp only; split <;> exact .inl rfl
  | rises => unfold State.supplyRises; dsimp only; split <;> exact .inl rfl
  | resumes => unfold State.resume; split <;> exact .inl rfl

/-- Settles O48: the EEPROM is written by the end of a transfer and by an abort of one only. -/
theorem eepromChangesOnlyUnderAWrite : Obligations.EepromChangesOnlyUnderAWrite := by
  intro c s t hwf h
  obtain ⟨u, hu, hk⟩ := exec_rows_all s (fun t => t.eeprom = s.eeprom ∨ ∃ r b,
      s.port.store = some r ∧ r.data = some b ∧ t.eeprom = Memory.write s.eeprom r.address b)
    (fun _ _ => .inl rfl) (fun _ _ _ => .inl rfl) (fun _ _ _ _ h => h.eeprom)
    (fun _ h => h.eeprom) (fun _ h => .inl h.sameAside.eeprom) c
  obtain rfl := Host.Outcome.next.inj (hu.symm.trans h)
  exact eeprom_kept_of_write hwf hk

/-- Settles O49: `State.LinkActs` lists what the rows of the link do. -/
theorem linkRowsLeaveTheRestOfThePart : Obligations.LinkRowsLeaveTheRestOfThePart := by
  intro c s t hc h
  have hnone : c.transaction? = none := by cases c <;> first | rfl | cases hc
  rcases exec_events hnone s with ⟨hf, -⟩ | ⟨-, u, hu, hk⟩
  · rw [hf] at hc; cases hc
  · obtain rfl := Host.Outcome.next.inj (hu.symm.trans h)
    obtain ⟨h1, h2, h3, h4, h5, h6, h7, h8, h9⟩ := hk.sameAside
    cases u
    cases s
    simp_all

end Sys2Proof.Machine
end

section
namespace Sys2Proof.Machine

/-! # Steps, reset, the result buffer -/

/-- Settles O1. -/
theorem stepRunsFrontCommand : Obligations.StepRunsFrontCommand := by
  refine ⟨fun c rest s => rfl, fun s hs => ?_⟩
  obtain ⟨pending, _, _, _, _, _, _, _, _, _, _⟩ := s
  subst hs
  rfl

@[simp] theorem replicate_getFin {α : Type} {n : Nat} (x : α) (i : Fin n) :
    (Vector.replicate n x)[i] = x := by simp

@[simp] theorem Works.line_reset (i : LineIx) : Works.reset.line i = Line.reset :=
  replicate_getFin _ i

@[simp] theorem Works.reservations_reset (p : PackerIx) : Works.reset.reservations p = [] := by
  simp [Works.reservations, Line.reset]

/-- Settles O3. -/
theorem resetIsLoadingWithTablesEmpty : Obligations.ResetIsLoadingWithTablesEmpty := by
  refine ⟨rfl, rfl, rfl, inUse_replicate_none 32, inUse_replicate_none 96, by decide, rfl,
    fun p => ⟨replicate_getFin _ p, replicate_getFin _ p, Works.reservations_reset p⟩, rfl, rfl, rfl,
    fun i => ?_⟩
  rw [show State.reset.works.line i = Line.reset from Works.line_reset i]
  decide

/-- Every row with a transaction ends it. -/
theorem State.Acts.transaction {s t : State} {b : Bool} (h : s.Acts b t)
    (hs : s.port.transaction = none) : t.port.transaction = none := by
  have habort : s.abortStore.port.transaction = none := by
    unfold State.abortStore
    split
    · exact hs
    · dsimp only; split <;> exact hs
  cases h with
  | refuses | accepts | shows | clears | probes => exact hs
  | transfers r => rcases s.startTransfer_cases r with ⟨q, -, e⟩ | ⟨-, e⟩ <;> rw [e] <;> exact hs
  | warm => exact habort
  | cold =>
    show s.abortStore.port.transaction.map _ = none
    rw [habort]; rfl

/-- Settles O4. -/
theorem resultReadsTheLatchedBuffer : Obligations.ResultReadsTheLatchedBuffer := by
  refine ⟨fun s => rfl, fun args s t ht => ?_, fun s t code n ht => ?_, fun s code n ht => ?_,
    fun c code args s t h he => ?_⟩
  · have hl : s.port.latched = t.latched := by rw [Port.latched, ht]; rfl
    show Host.Outcome.next (s.release 0x40 args) = _
    rw [State.release, hl]
    rfl
  · rw [State.hsoByte?, ht]; rfl
  · rw [State.hsoByte?, ht]; rfl
  · rcases transaction_exec h s with ⟨r, d, hd, rfl, rfl, e⟩ | ⟨-, e⟩ | e
    · obtain rfl := Host.Outcome.next.inj (e.symm.trans he)
      rcases State.hostCommand_cases s r.code r.count r.changesRecords r.args r.act with
        ⟨-, k⟩ | ⟨-, -, k⟩ | ⟨-, -, -, -, k⟩ | ⟨-, -, -, k⟩ <;> rw [k]
      · rfl
      · rfl
      · rfl
      · exact (hostRow?_acts hd _).transaction rfl
    · obtain rfl := Host.Outcome.next.inj (e.symm.trans he); rfl
    · obtain rfl := Host.Outcome.next.inj (e.symm.trans he)
      unfold State.transact
      dsimp only
      split <;> rfl

/-- A byte of a number, from its bytes. -/
theorem toBytes_getD (n v j : Nat) (h : j < n) :
    (toBytes n v).getD j 0 = BitVec.ofNat 8 (v / 256 ^ (n - 1 - j)) := by
  induction n generalizing j with
  | zero => omega
  | succ n ih =>
    cases j with
    | zero => simp [toBytes]
    | succ j =>
      have e : n + 1 - 1 - (j + 1) = n - 1 - j := by omega
      rw [e, ← ih j (by omega)]
      rfl

/-- Settles O5: the byte number `4k + j + 3` is byte `j` of the field sent k-th, and the field
number moves within its group of 16 or 32. -/
theorem readoutSendsHeaderThenFields : Obligations.ReadoutSendsHeaderThenFields := by
  intro r hr
  refine ⟨rfl, rfl, rfl, fun k j hj => ?_, ?_, fun k => ?_⟩
  · show (toBytes 4 (r.field (r.fieldNumber ((4 * k + j) / 4))).toNat).getD ((4 * k + j) % 4) 0 = _
    have hd : (4 * k + j) / 4 = k := by omega
    have hm : (4 * k + j) % 4 = j := by omega
    rw [hd, hm, toBytes_getD 4 _ j hj]
    rfl
  · cases hm : r.mode <;> simp only [ResultBuffer.fieldNumber, hm] <;> omega
  · cases hm : r.mode <;> simp only [ResultBuffer.fieldNumber, hm]
    · split
      · omega
      · split <;> omega
    · split <;> omega

/-! ## The state right after reset -/

theorem Line.reset_ranged : Line.reset.ranged := by constructor <;> decide

/-- Settles O60: the tables of `State.reset` are empty and its lines stand at `Line.reset`. -/
theorem resetMeetsTheInvariants : Obligations.ResetMeetsTheInvariants := by
  have hlots : inUse State.reset.works.lots = [] := inUse_replicate_none 32
  have hcoils : inUse State.reset.works.coils = [] := inUse_replicate_none 96
  have hstations : inUse State.reset.link.stations = [] := inUse_replicate_none 30
  have hlot : ∀ n, State.reset.works.lot? n = none := fun n => by
    rw [Works.lot?, hlots]; rfl
  have hline : ∀ i, State.reset.works.line i = Line.reset := Works.line_reset
  have hqueue : ∀ p : PackerIx, State.reset.works.queues[p] = [] := fun p => replicate_getFin _ p
  have hcur : ∀ i, State.reset.works.currentCoil? i = none := fun i => by
    rw [Works.currentCoil?, hline]; rfl
  have hisolated : ∀ i, State.reset.link.lineIsolated i = false := fun i => by
    rw [Link.lineIsolated, hstations]; rfl
  refine ⟨rfl, ?_, ?_, ?_, ?_, ?_, ?_, ?_, ?_⟩
  · rw [State.keysLawful_iff]
    exact (Works.cleared_keyed Works.reset).of_eq rfl rfl
  · refine ⟨by simp [hlots], fun i => hline i ▸ Line.reset_ranged, by simp [hcoils],
      by simp [hstations], by constructor <;> decide, by decide, by simp [State.reset], by decide⟩
  · intro c hc; simp [hcoils] at hc
  · refine ⟨fun p => ?_, by simp [hcoils]⟩
    rw [Works.placesInUse, hqueue, show State.reset.works.reservations p = [] from
      Works.reservations_reset p]
    decide
  · intro l hl; simp [hlots] at hl
  · refine ⟨fun i => ?_, by simp [hcoils], ?_, ?_, fun h => absurd rfl h, ?_, ?_⟩
    · constructor <;> simp [hline, Line.reset]
    · intro d e st su hd
      have : State.reset.link.stations[d] = none := replicate_getFin _ d
      rw [this] at hd; cases hd
    · exact ⟨List.nodup_nil, fun i => by
        rw [hline]; exact ⟨(fun h => nomatch h), (fun h => nomatch h)⟩⟩
    · intro p; rw [hqueue]; simp
    · exact fun _ => ⟨hlots, hcoils, rfl, hqueue⟩
  · refine ⟨by simp [hlots], fun i t h => ?_⟩
    rw [hline] at h; cases h
  · refine ⟨?_, ?_, ?_, ?_, ?_⟩
    · intro i; rw [hline]; decide
    · intro i; rw [hline]; decide
    · intro i; rw [hline]; decide
    · intro i; rw [hline]; decide
    · intro i c hc; rw [hcur] at hc; cases hc

end Sys2Proof.Machine
end

section
namespace Sys2Proof.Machine

/-! # Registers stay in their ranges -/

/-! ## Lines -/

theorem Line.ranged.of_core {l l' : Line} (h : l'.core = l.core) (hl : l.ranged) : l'.ranged := by
  have key : ∀ k : Line, k.ranged ↔ k.core.ranged := fun k =>
    ⟨fun ⟨a, b, c, d, e, f, g, h, i, j, m, n, o, p⟩ => ⟨a, b, c, d, e, f, g, h, i, j, m, n, o, p⟩,
      fun ⟨a, b, c, d, e, f, g, h, i, j, m, n, o, p⟩ => ⟨a, b, c, d, e, f, g, h, i, j, m, n, o, p⟩⟩
  rw [key, h, ← key]
  exact hl

theorem countUp_le (n more : Nat) : countUp n more ≤ Config.counterLimit := min_le_left _ _

/-- R60: a merge makes a window of two or more segments shorter by one. -/
theorem mergeOldest_length (ws : List Segment) : (mergeOldest ws).length = ws.length - (if 2 ≤ ws.length then 1 else 0) := by
  match ws with
  | [] => rfl
  | [a] => rfl
  | a :: b :: rest => simp [mergeOldest]

theorem addToNewest_length (q : Nat) (ws : List Segment) :
    (addToNewest q ws).length = max 1 ws.length := by
  induction ws with
  | nil => rfl
  | cons g rest ih =>
    cases rest with
    | nil => rfl
    | cons h rest =>
      have := ih
      simp only [addToNewest, List.length_cons] at this ⊢
      omega

theorem spanDrop_length (span : Nat) (ws : List Segment) : (spanDrop span ws).length ≤ ws.length := by
  induction ws with
  | nil => exact le_rfl
  | cons g rest ih =>
    unfold spanDrop
    split
    · exact ih.trans (Nat.le_succ _)
    · exact le_rfl

/-- R58, R60: the window never holds more than its 16 segments. -/
theorem takeSegment_length (ws : List Segment) (dl dq : Nat) (h : ws.length ≤ Config.windowLimit) :
    (takeSegment ws dl dq).length ≤ Config.windowLimit := by
  have hlim : Config.windowLimit = 16 := rfl
  unfold takeSegment
  split
  · rw [List.length_append, List.length_singleton]
    split
    · rw [mergeOldest_length]; split <;> omega
    · omega
  · split
    · rw [addToNewest_length]; omega
    · exact h

/-- R66 to R70: the verdict moves neither the window nor the value. -/
theorem TwistMonitor.judge_frame (m : TwistMonitor) (sp : Spec) (v : Verdict) (dev : Int)
    (pre pos : Nat) :
    (m.judge sp v dev pre pos).1.window = m.window ∧
    (m.judge sp v dev pre pos).1.lastValue = m.lastValue := by
  have hsus : ∀ (m : TwistMonitor) (p q : Nat), (m.testSuspect p q).1.window = m.window ∧
      (m.testSuspect p q).1.lastValue = m.lastValue := by
    intro m p q; unfold TwistMonitor.testSuspect; split <;> exact ⟨rfl, rfl⟩
  have hrec : ∀ (m : TwistMonitor) (p q : Nat), (m.testRecovery p q).1.window = m.window ∧
      (m.testRecovery p q).1.lastValue = m.lastValue := by
    intro m p q; unfold TwistMonitor.testRecovery; split <;> exact ⟨rfl, rfl⟩
  unfold TwistMonitor.judge
  split
  · exact ⟨rfl, rfl⟩
  · exact ⟨rfl, rfl⟩
  · exact hsus _ _ _
  · exact hsus _ _ _
  · exact ⟨rfl, rfl⟩
  · exact hsus _ _ _
  · exact hrec _ _ _
  · exact ⟨rfl, rfl⟩
  · exact hrec _ _ _
  · exact ⟨rfl, rfl⟩

/-- R64: the twist value is saturated to 16 bits. -/
theorem twistValue?_le (ws : List Segment) (span t : Nat) (h : twistValue? ws span = some t) :
    t ≤ 65535 := by
  simp only [twistValue?] at h
  split at h
  · cases h
  · rw [← Option.some.inj h]; exact min_le_left _ _

/-- R57: the monitor's work for one tally, as a function: the kernel compares functions without
running them, where it would evaluate the twist value of the equation applied. -/
theorem TwistMonitor.tally_fun : @TwistMonitor.tally = fun m sp dl dq pre pos =>
    (let m1 := { m with window := spanDrop sp.twistSpan (takeSegment m.window dl dq) }
     match twistValue? m1.window sp.twistSpan with
     | none => (m1, .nothing)
     | some t =>
      { m1 with lastValue := t }.judge sp (verdict sp t) ((t : Int) - (sp.nominalTwist : Int)) pre
        pos) := rfl

/-- R57, R63: below half the span a tally moves the window alone. -/
theorem TwistMonitor.tally_none (m : TwistMonitor) (sp : Spec) (dl dq pre pos : Nat)
    (h : twistValue? (spanDrop sp.twistSpan (takeSegment m.window dl dq)) sp.twistSpan = none) :
    m.tally sp dl dq pre pos =
      ({ m with window := spanDrop sp.twistSpan (takeSegment m.window dl dq) }, .nothing) := by
  rw [TwistMonitor.tally_fun]
  beta_reduce
  extract_lets m1
  have h' : twistValue? m1.window sp.twistSpan = none := h
  rw [h']

/-- R57, R64 to R70: from half the span on, the value is taken and its verdict moves the band. -/
theorem TwistMonitor.tally_some (m : TwistMonitor) (sp : Spec) (dl dq pre pos t : Nat)
    (h : twistValue? (spanDrop sp.twistSpan (takeSegment m.window dl dq)) sp.twistSpan = some t) :
    m.tally sp dl dq pre pos =
      { m with
        window := spanDrop sp.twistSpan (takeSegment m.window dl dq), lastValue := t }.judge sp
        (verdict sp t) ((t : Int) - (sp.nominalTwist : Int)) pre pos := by
  rw [TwistMonitor.tally_fun]
  beta_reduce
  extract_lets m1
  have h' : twistValue? m1.window sp.twistSpan = some t := h
  rw [h']
theorem TwistMonitor.tally_ranged (m : TwistMonitor) (sp : Spec) (dl dq pre pos : Nat)
    (hw : m.window.length ≤ Config.windowLimit) (hv : m.lastValue ≤ 65535) :
    (m.tally sp dl dq pre pos).1.window.length ≤ Config.windowLimit ∧
    (m.tally sp dl dq pre pos).1.lastValue ≤ 65535 := by
  have hlen : (spanDrop sp.twistSpan (takeSegment m.window dl dq)).length ≤ Config.windowLimit :=
    (spanDrop_length _ _).trans (takeSegment_length _ _ _ hw)
  cases h : twistValue? (spanDrop sp.twistSpan (takeSegment m.window dl dq)) sp.twistSpan with
  | none =>
    rw [m.tally_none sp dl dq pre pos h]
    exact ⟨hlen, hv⟩
  | some t =>
    rw [m.tally_some sp dl dq pre pos t h]
    obtain ⟨hwin, hlast⟩ := TwistMonitor.judge_frame
      { m with window := spanDrop sp.twistSpan (takeSegment m.window dl dq), lastValue := t } sp
      (verdict sp t) ((t : Int) - (sp.nominalTwist : Int)) pre pos
    rw [hwin, hlast]
    exact ⟨hlen, twistValue?_le _ _ t h⟩

theorem KnotMonitor.row_ranged (m : KnotMonitor) (sp : Spec) (r : Row) :
    (m.row sp r).1.faultRun ≤ Config.counterLimit ∧
    (m.row sp r).1.soundRun ≤ Config.counterLimit := by
  have hfault : ∀ start, (m.faultRow start).faultRun ≤ Config.counterLimit ∧
      (m.faultRow start).soundRun ≤ Config.counterLimit :=
    fun _ => ⟨countUp_le _ _, Nat.zero_le _⟩
  have hsound : ∀ start, (m.soundRow start).faultRun ≤ Config.counterLimit ∧
      (m.soundRow start).soundRun ≤ Config.counterLimit :=
    fun _ => ⟨Nat.zero_le _, countUp_le _ _⟩
  unfold KnotMonitor.row
  split
  · split
    · unfold KnotMonitor.faultWhileFaulted
      dsimp only
      split
      · split <;> exact hfault r.start
      · exact hfault r.start
    · unfold KnotMonitor.faultWhileSound
      dsimp only
      split <;> exact hfault r.start
  · split
    · unfold KnotMonitor.soundWhileFaulted
      dsimp only
      split <;> exact hsound r.start
    · exact hsound r.start

theorem SlipDetector.slipTally_runs (m : SlipDetector) (pre dis : Nat) (hs : m.slipRun ≤ 2)
    (hc : m.cleanRun ≤ 2) :
    (m.slipTally pre dis).1.slipRun ≤ 2 ∧ (m.slipTally pre dis).1.cleanRun ≤ 2 := by
  unfold SlipDetector.slipTally
  split
  · exact ⟨hs, Nat.zero_le _⟩
  · split
    · exact ⟨Nat.le_succ _, hc⟩
    · exact ⟨le_rfl, hc⟩
    · exact ⟨Nat.zero_le _, Nat.zero_le _⟩

theorem SlipDetector.cleanTally_runs (m : SlipDetector) (pre : Nat) (hs : m.slipRun ≤ 2)
    (hc : m.cleanRun ≤ 2) :
    (m.cleanTally pre).1.slipRun ≤ 2 ∧ (m.cleanTally pre).1.cleanRun ≤ 2 := by
  unfold SlipDetector.cleanTally
  split
  · split
    · exact ⟨hs, Nat.le_succ _⟩
    · exact ⟨hs, le_rfl⟩
    · exact ⟨Nat.zero_le _, Nat.zero_le _⟩
  · exact ⟨Nat.zero_le _, hc⟩

/-- R51, R77, R97: the reset of a monitor keeps every register in range. -/
theorem Line.ranged.resetMonitor {l : Line} (h : l.ranged) : l.resetMonitor.ranged := by
  unfold Line.resetMonitor
  split
  · exact { h with window := Nat.zero_le _, lastValue := Nat.zero_le _ }
  · exact { h with faultRun := Nat.zero_le _, soundRun := Nat.zero_le _ }
  · exact h

theorem Line.ranged.withTwist {l : Line} (h : l.ranged) (m : TwistMonitor)
    (hw : m.window.length ≤ Config.windowLimit) (hv : m.lastValue ≤ 65535) :
    Line.ranged { l with twist := m } := { h with window := hw, lastValue := hv }

theorem Lot.ranged.of_lot? {w : Works} {n : Nat} {lot : Lot}
    (hw : ∀ l ∈ inUse w.lots, l.ranged) (h : w.lot? n = some lot) : lot.ranged :=
  hw lot (Works.lot?_some w n lot h).1

theorem Line.Evolves.ranged {w : Works} {l l' : Line} (hw : ∀ t ∈ inUse w.lots, t.ranged)
    (h : Line.Evolves w l l') (hl : l.ranged) : l'.ranged := by
  cases h with
  | plain h => exact hl.of_core h
  | idle => exact { hl with revision := Nat.zero_le _ }
  | copied n lot h => exact { hl with revision := (Lot.ranged.of_lot? hw h).revision }
  | credited counts =>
    exact { hl with position := min_le_left _ _, remainder := Nat.mod_lt _ (by decide) }
  | twist sp dl dq pre pos =>
    obtain ⟨h1, h2⟩ := l.twist.tally_ranged sp dl dq pre pos hl.window hl.lastValue
    exact hl.withTwist _ h1 h2
  | knot sp r =>
    obtain ⟨h1, h2⟩ := l.knot.row_ranged sp r
    exact { hl with faultRun := h1, soundRun := h2 }
  | slipTally pre dis =>
    obtain ⟨h1, h2⟩ := l.slip.slipTally_runs pre dis hl.slipRun hl.cleanRun
    exact { hl with slipRun := h1, cleanRun := h2 }
  | cleanTally pre =>
    obtain ⟨h1, h2⟩ := l.slip.cleanTally_runs pre hl.slipRun hl.cleanRun
    exact { hl with slipRun := h1, cleanRun := h2 }
  | slipNormal => exact { hl with slipRun := Nat.zero_le _, cleanRun := Nat.zero_le _ }
  | resynced counts =>
    exact { hl.resetMonitor with
      resyncs := countUp_le _ _, slipRun := Nat.zero_le _, cleanRun := Nat.zero_le _ }
  | assigned n lot isolated h hs =>
    exact { hl.resetMonitor with
      revision := (Lot.ranged.of_lot? hw h).revision, position := Nat.zero_le _,
      remainder := by show 0 < 1000; decide
      slipRun := Nat.zero_le _, cleanRun := Nat.zero_le _ }
  | slipTallies n => exact { hl with slipTallies := countUp_le _ _ }
  | sequenceGaps n => exact { hl with sequenceGaps := countUp_le _ _ }
  | staleEntries n => exact { hl with staleEntries := countUp_le _ _ }
  | unrecorded n => exact { hl with unrecorded := countUp_le _ _ }

/-! ## Lots and coils -/

theorem Lot.Evolves.ranged {w : Works} {l l' : Lot} (h : Lot.Evolves w l l') (hl : l.ranged) :
    l'.ranged := by
  cases h with
  | refl => exact hl
  | produced => exact { hl with produced := min_le_left _ _ }
  | unassigned => exact { hl with unassigned := min_le_left _ _ }
  | retired => exact { hl with retired := min_le_left _ _ }
  | counted | closing | closed => exact { hl with }
  | amended sp h => exact { hl with revision := Nat.succ_le_of_lt h }

theorem Coil.placeZone_unlisted (c : Coil) (z : Zone) (h : c.unlisted ≤ Config.byteLimit) :
    (c.placeZone z).unlisted ≤ Config.byteLimit := by
  unfold Coil.placeZone Coil.withReason
  split
  · split <;> exact min_le_left _ _
  · split <;> exact h

theorem Coil.ranged.placeZone {c : Coil} (h : c.ranged) (z : Zone) : (c.placeZone z).ranged := by
  rw [Coil.placeZone_frame]
  exact { h with unlisted := c.placeZone_unlisted z h.unlisted }

theorem Coil.Evolves.ranged {w : Works} {c c' : Coil} (hw : ∀ i, (w.line i).ranged)
    (h : Coil.Evolves w c c') (hc : c.ranged) : c'.ranged := by
  induction h with
  | refl => exact hc
  | trans _ _ ih1 ih2 => exact ih2 (ih1 hc)
  | judged | placed | closesAll | extremes => exact { hc with }
  | opens c q pos x =>
    have hp := hc.placeZone { cause := q, start := c.zoneStart q pos, stop := none, extreme := x }
    unfold Coil.openZone
    dsimp only
    split
    · exact { hp with }
    · exact hp
  | marks c start stop => exact hc.placeZone _
  | closes c q pos len => rw [Coil.closeZone_frame]; exact { hc with }
  | joints => exact { hc with joints := min_le_left _ _ }
  | rows c kpr rs =>
    exact { hc with
      faultRows := countUp_le _ _, missedKnots := countUp_le _ _, excessKnots := countUp_le _ _ }
  | slips => exact { hc with slipTallies := countUp_le _ _ }
  | weighs c weight len hle =>
    have hd : densityOf weight len ≤ Config.wordLimit := min_le_left _ _
    have hweight : ∀ x, (c.weighed weight len).weight = some x → 1 ≤ x ∧ x ≤ Config.wordLimit := by
      intro x hx
      simp only [Coil.weighed] at hx
      split at hx
      · exact hc.weight x (by simpa using hx)
      · split at hx <;> simp only [Coil.withReason_frame, Option.some.injEq] at hx <;> omega
    have hdensity : ∀ x, (c.weighed weight len).density = some x → x ≤ Config.wordLimit := by
      intro x hx
      simp only [Coil.weighed] at hx
      split at hx
      · exact hc.density x (by simpa using hx)
      · split at hx <;> simp only [Coil.withReason_frame, Option.some.injEq] at hx <;> omega
    rw [Coil.weighed_eq]
    exact { hc with weight := hweight, density := hdensity }
  | revised c i g => exact { hc with revision := (hw i).revision }

theorem ranged_kept : EachKept Line.ranged Lot.ranged Coil.ranged where
  core _ _ h hl := hl.of_core h
  line _ _ _ hw h hl := h.ranged hw.lots hl
  lot _ _ _ h hl := h.ranged hl
  coil _ _ _ hw h hc := h.ranged hw.lines hc
  issues l hs hl := { hl with nextSequence := ⟨Nat.le_succ_of_le hl.nextSequence.1, hs⟩ }
  opensCoil lot i l pos hs hlot hl :=
    { sequence := ⟨hlot.nextSequence.1, hs⟩, revision := hl.revision, joints := Nat.zero_le _,
      unlisted := Nat.zero_le _, faultRows := Nat.zero_le _, missedKnots := Nat.zero_le _,
      excessKnots := Nat.zero_le _, slipTallies := Nat.zero_le _, weight := nofun, density := nofun }
  opensLot n sp h1 h2 :=
    { number := ⟨h1, h2⟩, revision := Nat.zero_le _, produced := Nat.zero_le _,
      unassigned := Nat.zero_le _, retired := Nat.zero_le _, nextSequence := ⟨le_rfl, (by decide : 1 ≤ 10000)⟩ }

/-! ## The Link Engine -/

/-- The ranges that `State.ranged` gives the link. -/
structure Link.ranged (k : Link) : Prop where
  stations : ∀ st ∈ inUse k.stations, st.ranged
  roundCount : k.roundCount < 32

theorem Link.ranged.of_eq {k k' : Link} (h : k.ranged) (stations : k'.stations = k.stations)
    (count : k'.roundCount = k.roundCount) : k'.ranged :=
  ⟨by rw [stations]; exact h.stations, by rw [count]; exact h.roundCount⟩

theorem Link.ranged.station {k : Link} (h : k.ranged) {d : StationIx} {st : Station}
    (hd : k.stations[d] = some st) : st.ranged :=
  h.stations st ((mem_inUse _ _).2 ⟨d, hd⟩)

theorem mem_inUse_modifyStation (k : Link) (d : StationIx) (f : Station → Station) (x : Station)
    (h : x ∈ inUse (k.modifyStation d f).stations) :
    x ∈ inUse k.stations ∨ ∃ st, k.stations[d] = some st ∧ x = f st := by
  obtain ⟨e, he⟩ := (mem_inUse _ _).1 h
  simp only [Link.modifyStation, set_getFin] at he
  split at he
  · obtain ⟨st, hst, rfl⟩ := Option.map_eq_some_iff.1 he
    exact .inr ⟨st, hst, rfl⟩
  · exact .inl ((mem_inUse _ _).2 ⟨e, he⟩)

theorem Link.ranged.modifyStation {k : Link} (h : k.ranged) (d : StationIx) (f : Station → Station)
    (hf : ∀ st : Station, st.ranged → (f st).ranged) : (k.modifyStation d f).ranged := by
  refine ⟨fun x hx => ?_, h.roundCount⟩
  rcases mem_inUse_modifyStation k d f x hx with hx | ⟨st, hst, rfl⟩
  · exact h.stations x hx
  · exact hf st (h.station hst)

theorem Link.ranged.map {k k' : Link} (h : k.ranged) (f : Station → Station)
    (stations : k'.stations = mapTable (Option.map f) k.stations)
    (hf : ∀ st : Station, st.ranged → (f st).ranged) (hc : k'.roundCount < 32) : k'.ranged := by
  refine ⟨fun x hx => ?_, hc⟩
  rw [stations, mem_inUse_mapTable] at hx
  obtain ⟨st, hst, rfl⟩ := hx
  exact hf st (h.stations st hst)

theorem Link.closeRound_eq (k : Link) :
    k.closeRound.stations = k.stations ∧ k.closeRound.roundCount = k.roundCount := by
  unfold Link.closeRound
  split
  · split <;> exact ⟨rfl, rfl⟩
  · exact ⟨rfl, rfl⟩

theorem Link.ranged.closeRound {k : Link} (h : k.ranged) : k.closeRound.ranged :=
  h.of_eq k.closeRound_eq.1 k.closeRound_eq.2

theorem State.endTurn_ranged {s : State} (h : s.link.ranged) : s.endTurn.link.ranged :=
  Link.ranged.closeRound (h.of_eq rfl rfl)

theorem Station.ranged.countRound {st : Station} (h : st.ranged) : st.countRound.ranged := by
  unfold Station.countRound
  split
  · exact { h with roundsSinceProbe := min_le_left _ _ }
  · exact h

theorem Link.ranged.startRound {k : Link} (h : k.ranged) : k.startRound.ranged := by
  have hk : Link.ranged { k with
      stations := mapTable (Option.map Station.countRound) k.stations,
      roundCount := (k.roundCount + 1) % 32,
      round := some { levelOneAfter := 0, levelTwoDone := false } } :=
    h.map Station.countRound rfl (fun _ hst => hst.countRound) (Nat.mod_lt _ (by decide))
  exact hk.closeRound

theorem Station.ranged.isolate {st : Station} (h : st.ranged) : st.isolate.ranged :=
  { h with roundsSinceProbe := Nat.zero_le _ }

theorem State.failExchange_ranged {s : State} (h : s.link.ranged) (t : Turn) :
    (s.failExchange t).link.ranged := by
  have h1 : (s.modifyStation t.station fun st => { st with repeatOwed := true }).link.ranged :=
    h.modifyStation _ _ fun st hst => { hst with }
  rcases s.failExchange_cases t with e | e | e | ⟨st, e⟩ <;> rw [e]
  · exact State.endTurn_ranged h1
  · exact State.endTurn_ranged
      (h1.modifyStation _ _ fun st hst => { hst with roundsSinceProbe := Nat.zero_le _ })
  · exact h1.of_eq rfl rfl
  · have hn : min Config.byteLimit (st.failures + 1) ≤ Config.byteLimit := min_le_left _ _
    rcases State.failedTurn_cases (s.modifyStation t.station _) t.station st with ⟨-, e⟩ | ⟨-, e⟩ <;>
      rw [e]
    · exact State.endTurn_ranged (h1.modifyStation t.station _ fun st hst =>
        Station.ranged.isolate { hst with failures := hn })
    · exact State.endTurn_ranged (h1.modifyStation t.station _ fun st hst =>
        { hst with failures := hn })

theorem State.discardFrame_ranged {s : State} (h : s.link.ranged) : s.discardFrame.link.ranged := by
  rcases s.discardFrame_cases with ⟨-, e⟩ | ⟨t, -, e⟩ <;> rw [e]
  · exact h.of_eq rfl rfl
  · exact State.failExchange_ranged (s := s.endReception) (h.of_eq rfl rfl) t

theorem Station.ranged.heard {st : Station} (h : st.ranged) : st.heard.ranged := by
  unfold Station.heard
  dsimp only
  split
  · exact { h with failures := Nat.zero_le _ }
  · exact { h with failures := Nat.zero_le _ }

theorem State.answer_ranged {s : State} (h : s.link.ranged) (d : StationIx) (a : Answer) :
    (s.answer d a).link.ranged := h.modifyStation _ _ fun _ hst => { hst with }

theorem State.protocolError_ranged {s : State} (h : s.link.ranged) (d : StationIx) :
    (s.protocolError d).link.ranged :=
  h.modifyStation d _ fun _ hst => { hst with protocolErrors := countUp_le _ _ }

theorem State.passFrame_ranged {s : State} (h : s.link.ranged) (d : StationIx) (role : Role)
    (c : Content) : (s.passFrame d role c).link.ranged := by
  unfold State.passFrame
  split
  · exact h
  · exact State.answer_ranged h _ _
  · exact h
  · exact h
  · dsimp only
    split
    · exact State.protocolError_ranged (s := { s with works := _ }) h d
    · exact h
  · exact State.answer_ranged h _ _
  · exact State.answer_ranged h _ _
  · exact State.answer_ranged (s := { s with works := _ }) h _ _
  · exact State.answer_ranged (s := { s with works := _ }) h _ _
  · exact h

theorem State.takeContent_ranged {s : State} (h : s.link.ranged) (d : StationIx) (role : Role)
    (kind : Byte) (payload : List Byte) : (s.takeContent d role kind payload).link.ranged := by
  unfold State.takeContent
  split
  · exact State.protocolError_ranged h d
  · split
    · exact State.passFrame_ranged h d role _
    · exact State.answer_ranged (State.protocolError_ranged h d) _ _

theorem State.takeReply_ranged {s : State} (h : s.link.ranged) (t : Turn) (st : Station)
    (kind q : Byte) (payload : List Byte) : (s.takeReply t st kind q payload).link.ranged := by
  have h1 : (s.exchangeSucceeds t.station st).link.ranged := by
    unfold State.exchangeSucceeds
    dsimp only
    split <;> exact h.modifyStation t.station _ fun _ hst => hst.heard
  have h2 : ∀ f, ((s.exchangeSucceeds t.station st).checkSequence t.station st.role q f).link.ranged := by
    intro f
    cases f with
    | accepted => exact h1.modifyStation t.station _ fun _ hst => { hst with }
    | duplicate => exact h1
    | gap => exact h1.modifyStation t.station _ fun _ hst => { hst with sequenceGaps := countUp_le _ _ }
  have h3 : ∀ (u : State) (more : Bool), u.link.ranged → (u.afterFrame t more).link.ranged := by
    intro u more hu
    unfold State.afterFrame
    split
    · exact hu.of_eq rfl rfl
    · exact State.endTurn_ranged hu
  unfold State.takeReply
  dsimp only
  split
  · exact h3 _ _ (State.takeContent_ranged (h2 _) _ _ _ _)
  · exact h3 _ _ (h2 _)

theorem State.LinkActs.ranged {s t : State} (h : s.LinkActs t) (hs : s.link.ranged) :
    t.link.ranged := by
  cases h with
  | stays => exact hs
  | round => exact hs.startRound
  | polls =>
    unfold State.nextPoll
    split
    · split
      · exact hs.of_eq rfl rfl
      · exact hs
    · split
      · exact hs
      · exact hs.of_eq rfl rfl
  | sent => exact hs.of_eq rfl rfl
  | discards => exact State.discardFrame_ranged hs
  | receives r => exact hs.of_eq rfl rfl
  | takes kind a q p =>
    rcases s.takeFrame_cases kind a q p with ⟨-, e⟩ | e | ⟨t, st, -, -, -, -, e⟩ <;> rw [e]
    · exact hs.of_eq rfl rfl
    · exact State.discardFrame_ranged hs
    · exact State.takeReply_ranged (s := s.endReception) (hs.of_eq rfl rfl) t st kind q p

theorem Station.start_ranged (role : Role) (level : Level) : (Station.start role level).ranged :=
  ⟨Nat.zero_le _, Nat.zero_le _, Nat.zero_le _, Nat.zero_le _⟩

theorem Link.reset_ranged : Link.reset.ranged :=
  ⟨by simp [show inUse Link.reset.stations = [] from inUse_replicate_none 30], by decide⟩

theorem Link.ranged.restarted {k : Link} (h : k.ranged) : k.restarted.ranged :=
  h.map Station.restarted rfl
    (fun st hst => ⟨Nat.zero_le _, Nat.zero_le _, hst.sequenceGaps, hst.protocolErrors⟩) (by decide : 0 < 32)

theorem Link.ranged.probe {k : Link} (h : k.ranged) (d : StationIx) (st : Station) :
    (k.probe d st).ranged := by
  rcases k.probe_cases d st with ⟨-, e⟩ | ⟨k', hk', e⟩ <;> rw [e]
  · exact h
  · have hk : k'.ranged := by
      rcases hk' with rfl | ⟨-, -, rfl⟩
      · exact h
      · exact h.of_eq rfl rfl
    exact hk.modifyStation d _ fun _ hst => { hst with }

theorem placeStation_ranged (acc : Vector (Option Station) 30) (a : Nat) (role : Role) (level : Level)
    (h : ∀ st ∈ inUse acc, st.ranged) : ∀ st ∈ inUse (placeStation acc a role level), st.ranged := by
  unfold placeStation
  split
  · exact h
  · split
    · exact h
    · next d hd =>
      intro st hst
      rcases (mem_inUse_set _ _ _ _ (by simpa using hd)).1 hst with rfl | hst
      · exact Station.start_ranged role level
      · exact h st hst

/-- A fold over a list keeps a property that each of its steps keeps. -/
theorem foldl_keeps {α β : Type} (P : β → Prop) (f : β → α → β) (h : ∀ b a, P b → P (f b a))
    (xs : List α) (b : β) (hb : P b) : P (xs.foldl f b) := by
  induction xs generalizing b with
  | nil => exact hb
  | cons x xs ih => exact ih _ (h b x hb)

theorem Image.stations_ranged (img : Image) : ∀ st ∈ inUse img.stations, st.ranged := by
  refine foldl_keeps (fun v : Vector (Option Station) 30 => ∀ st ∈ inUse v, st.ranged) _
    (fun v p h => placeStation_ranged v _ _ _ h) _ _ ?_
  refine foldl_keeps (fun v : Vector (Option Station) 30 => ∀ st ∈ inUse v, st.ranged) _
    (fun v i h => ?_) _ _ (by simp)
  dsimp only
  split
  · exact h
  · exact placeStation_ranged v _ _ _ h

/-! ## The rest of the part -/

/-- The ranges that `State.ranged` gives the state outside the records. -/
structure State.rangedAside (s : State) : Prop where
  link : s.link.ranged
  settings : s.settings.ranged
  resumeTimer : ∀ n, s.resumeTimer = some n → n < Config.resumeTime
  fields : s.port.result.fields.length ≤ 32 ∧ s.port.result.firstField ≤ 31

theorem Settings.reset_ranged : Settings.reset.ranged := by constructor <;> decide

theorem clamp_le (lo hi v : Nat) (h : lo ≤ hi) : clamp lo hi v ≤ hi := by
  unfold clamp; omega

theorem settingsOf_ranged (img : List Byte) : (settingsOf img).ranged := by
  constructor <;> exact clamp_le _ _ _ (by decide)

theorem judgeImage_ranged (acknowledged : Bool) (m : List Host.Cell) :
    (judgeImage acknowledged m).1.settings.ranged := by
  unfold judgeImage
  split
  · exact settingsOf_ranged _
  · constructor <;> decide

theorem State.enterLoading_ranged {s : State} (h : s.settings.ranged) :
    s.enterLoading.rangedAside := by
  obtain ⟨-, -, -, -, hset, -, -, -, -, -⟩ := s.abortStore_frame
  exact ⟨Link.reset_ranged.of_eq rfl rfl, hset ▸ h, nofun, Nat.zero_le _, Nat.zero_le _⟩

theorem State.Acts.ranged {s t : State} {b : Bool} (h : s.Acts b t) (hs : s.rangedAside) :
    t.rangedAside := by
  have plain : (∀ st, (ResultBuffer.plain st).fields.length ≤ 32 ∧
      (ResultBuffer.plain st).firstField ≤ 31) := fun _ => ⟨Nat.zero_le _, Nat.zero_le _⟩
  cases h with
  | refuses st => exact ⟨hs.link, hs.settings, hs.resumeTimer, plain st⟩
  | accepts => exact ⟨hs.link, hs.settings, hs.resumeTimer, plain .ok⟩
  | shows r h1 h2 => exact ⟨hs.link, hs.settings, hs.resumeTimer, h1, h2⟩
  | clears n r h1 h2 => exact ⟨hs.link, hs.settings, hs.resumeTimer, h1, h2⟩
  | transfers r =>
    rcases s.startTransfer_cases r with ⟨q, -, e⟩ | ⟨-, e⟩ <;> rw [e]
    · exact ⟨hs.link, hs.settings, hs.resumeTimer, plain .busy⟩
    · exact ⟨hs.link, hs.settings, hs.resumeTimer, plain .busy⟩
  | probes d st => exact ⟨hs.link.probe d st, hs.settings, hs.resumeTimer, plain .ok⟩
  | warm =>
    obtain ⟨-, -, -, hlink, hset, -, -, -, htimer, -⟩ := s.abortStore_frame
    refine ⟨?_, ?_, ?_, plain .ok⟩
    · show s.abortStore.link.restarted.ranged
      rw [hlink]; exact hs.link.restarted
    · show s.abortStore.settings.ranged
      rw [hset]; exact hs.settings
    · show ∀ n, s.abortStore.resumeTimer = some n → _
      rw [htimer]; exact hs.resumeTimer
  | cold => exact State.enterLoading_ranged hs.settings

theorem State.Events.ranged {s t : State} (h : s.Events t) (hs : s.rangedAside) :
    t.rangedAside := by
  cases h with
  | start => exact ⟨hs.link, hs.settings, hs.resumeTimer, hs.fields⟩
  | transferred a =>
    unfold State.endTransfer
    split
    · exact hs
    · dsimp only
      split
      · refine ⟨hs.link, hs.settings, hs.resumeTimer, ?_⟩
        show (storeOutcome a _).fields.length ≤ 32 ∧ (storeOutcome a _).firstField ≤ 31
        cases a <;> exact ⟨Nat.le_of_ble_eq_true rfl, Nat.zero_le _⟩
      · exact ⟨hs.link, hs.settings, hs.resumeTimer, hs.fields⟩
  | powered => exact State.enterLoading_ranged Settings.reset_ranged
  | restarted => exact State.enterLoading_ranged (s := { s with timeBase := 0 }) hs.settings
  | loads a =>
    unfold State.completeLoad
    split
    · exact ⟨⟨Image.stations_ranged _, (by decide : 0 < 32)⟩, judgeImage_ranged a s.eeprom, nofun,
        Nat.zero_le _, Nat.zero_le _⟩
    · exact hs
    · exact hs
  | falls =>
    unfold State.supplyFalls
    dsimp only
    split
    · exact ⟨hs.link.of_eq rfl rfl, hs.settings, nofun, hs.fields⟩
    · exact ⟨hs.link, hs.settings, nofun, hs.fields⟩
    · exact ⟨hs.link, hs.settings, hs.resumeTimer, hs.fields⟩
  | rises =>
    unfold State.supplyRises
    dsimp only
    split
    · exact ⟨hs.link, hs.settings, fun n hn => by obtain rfl := Option.some.inj hn; decide, hs.fields⟩
    · exact ⟨hs.link, hs.settings, hs.resumeTimer, hs.fields⟩
    · exact ⟨hs.link, hs.settings, hs.resumeTimer, hs.fields⟩
  | resumes =>
    unfold State.resume
    split
    · exact ⟨hs.link, hs.settings, nofun, hs.fields⟩
    · exact hs

theorem State.rangedAside.step {s t : State} (hs : s.rangedAside) (h : step s = .next t) :
    t.rangedAside := by
  rcases step_cases h with ⟨-, rfl⟩ | ⟨c, rest, -, hc⟩
  · refine ⟨hs.link, hs.settings, fun n hn => ?_, hs.fields⟩
    obtain ⟨m, -, rfl⟩ := Option.map_eq_some_iff.1 hn
    exact lt_of_le_of_lt (min_le_right _ _) (by decide)
  · have hs' : State.rangedAside { s with pending := rest } :=
      ⟨hs.link, hs.settings, hs.resumeTimer, hs.fields⟩
    obtain ⟨u, hu, hk⟩ := exec_rows_all { s with pending := rest } State.rangedAside
      (fun _ _ => ⟨hs.link, hs.settings, hs.resumeTimer, hs.fields⟩)
      (fun _ _ _ => ⟨hs.link, hs.settings, hs.resumeTimer, Nat.zero_le _, Nat.zero_le _⟩)
      (fun _ _ _ _ h => h.ranged ⟨hs.link, hs.settings, hs.resumeTimer, hs.fields⟩)
      (fun _ h => h.ranged hs')
      (fun t h => by
        have hk := h.sameAside
        refine ⟨h.ranged hs'.link, ?_, ?_, ?_⟩
        · rw [hk.settings]; exact hs.settings
        · rw [hk.resumeTimer]; exact hs.resumeTimer
        · rw [hk.port]; exact hs.fields) c
    obtain rfl := Host.Outcome.next.inj (hu.symm.trans hc)
    exact hk

/-- Settles O56: `ranged_kept` for the records, `State.rangedAside.step` for the rest. -/
theorem registersStayInRange : Obligations.RegistersStayInRange := by
  intro s t hk hs h
  obtain ⟨lots, lines, coils, stations, settings, roundCount, resumeTimer, fields⟩ := hs
  have hrec := (step_moves h).each ranged_kept Line.reset_ranged ((State.keysLawful_iff s).1 hk)
    ⟨lines, lots, coils⟩
  have haside := State.rangedAside.step ⟨⟨stations, roundCount⟩, settings, resumeTimer, fields⟩ h
  exact ⟨hrec.lots, hrec.lines, hrec.coils, haside.link.stations, haside.settings,
    haside.link.roundCount, haside.resumeTimer, haside.fields⟩

end Sys2Proof.Machine
end

section
namespace Sys2Proof.Machine

/-! # Host commands, each as one equation -/

/-- A record-changing command that is taken does its own part on the released state. -/
theorem exec_recordCommand {c : Instr} {r : HostRow} {s : State} (h : hostRow? c = some r)
    (ht : s.takesRecordCommands) (hl : r.args.length = r.count) :
    exec c s = .next (r.act (s.release r.code r.args)) := by
  rw [hostRow?_exec h s]
  exact congrArg _ (State.hostCommand_act _ _ _ _ _ _ ⟨by rw [ht.1]; decide, ht.2⟩ hl fun _ => ht.1)

/-- A command that changes no record and is taken does its own part on the released state. -/
theorem exec_otherCommand {c : Instr} {r : HostRow} {s : State} (h : hostRow? c = some r)
    (hr : r.changesRecords = false) (ht : s.takesCommands) (hl : r.args.length = r.count) :
    exec c s = .next (r.act (s.release r.code r.args)) := by
  rw [hostRow?_exec h s]
  exact congrArg _ (State.hostCommand_act _ _ _ _ _ _ ht hl fun e => by rw [hr] at e; cases e)

/-! ## Lots -/

/-- Settles O10: the checks of `State.lotOpen`, in its order. -/
theorem lotOpenCreatesTheRecord : Obligations.LotOpenCreatesTheRecord := by
  intro args s hl ht n sp
  rw [exec_recordCommand rfl ht hl]
  refine congrArg _ ?_
  show (s.release 0x01 args).lotOpen n sp = _
  unfold State.lotOpen
  by_cases h0 : n = 0
  · exact (if_pos h0).trans (if_pos h0).symm
  refine (if_neg h0).trans (Eq.trans ?_ (if_neg h0).symm)
  by_cases h1 : (s.works.lot? n).isSome = true
  · exact (if_pos h1).trans (if_pos h1).symm
  refine (if_neg h1).trans (Eq.trans ?_ (if_neg h1).symm)
  by_cases h2 : sp.inRange = false
  · exact (if_pos h2).trans (if_pos h2).symm
  refine (if_neg h2).trans (Eq.trans ?_ (if_neg h2).symm)
  rw [State.release_works]
  cases lowestFree s.works.lots <;> rfl

/-- Two changes of one lot, the first of which keeps its number, are one. -/
theorem Works.modifyLot_modifyLot (w : Works) (n : Nat) (f g : Lot → Lot)
    (hf : ∀ l, (f l).number = l.number) :
    (w.modifyLot n f).modifyLot n g = w.modifyLot n fun l => g (f l) := by
  unfold Works.modifyLot
  congr 1
  apply Vector.ext
  intro j hj
  rw [mapTable_get, mapTable_get, mapTable_get]
  cases w.lots[j] with
  | none => rfl
  | some l =>
    by_cases hl : l.number = n
    · simp [hl, hf]
    · simp [hl]

/-- R6, R7: a lot put CLOSING and then CLOSED when its running set is empty. -/
theorem Works.closing_closeIfEmpty (w : Works) (n : Nat) :
    (w.modifyLot n fun l => { l with state := .closing }).closeIfEmpty n =
      w.modifyLot n fun l => { l with state := if w.runningSet n = [] then .closed else .closing } := by
  unfold Works.closeIfEmpty
  have hset : (w.modifyLot n fun l => { l with state := .closing }).runningSet n = w.runningSet n := rfl
  rw [hset]
  cases hr : w.runningSet n with
  | nil =>
    refine (if_pos rfl).trans ?_
    exact Works.modifyLot_modifyLot _ n (fun l => { l with state := .closing })
      (fun l => { l with state := (match l.state with | .closing => .closed | st => st) }) fun _ => rfl
  | cons i is => simp

/-- Settles O12. -/
theorem lotCloseAndRetireFollowTheState : Obligations.LotCloseAndRetireFollowTheState := by
  intro args s hl ht n
  constructor
  · rw [exec_recordCommand rfl ht hl]
    refine congrArg _ ?_
    show (s.release 0x03 args).lotClose n = _
    unfold State.lotClose
    rw [State.release_works]
    cases s.works.lot? n with
    | none => rfl
    | some lot =>
      cases hs : lot.state with
      | opened =>
        simp only [hs, ne_eq, not_true_eq_false, if_false]
        rw [Works.closing_closeIfEmpty, State.release_accept]
      | closing => simp only [hs]; rfl
      | closed => simp only [hs]; rfl
  · rw [exec_recordCommand rfl ht hl]
    refine congrArg _ ?_
    show (s.release 0x04 args).lotRetire n = _
    unfold State.lotRetire
    rw [State.release_works]
    cases s.works.lot? n with
    | none => rfl
    | some lot =>
      cases hs : lot.state with
      | opened => simp only [hs]; rfl
      | closing => simp only [hs]; rfl
      | closed =>
        simp only [hs, ne_eq, not_true_eq_false, if_false]
        split <;> rfl

/-! ## Lanes -/

theorem lineOf_of_le {n : Nat} (h : n ≤ 15) : lineOf n = some (Fin.ofNat 16 n) := by
  unfold lineOf
  rw [dif_pos (by omega)]
  exact congrArg _ (Fin.ext (Nat.mod_eq_of_lt (by omega)).symm)

theorem lineOf_none {n : Nat} (h : 15 < n) : lineOf n = none := dif_neg (by omega)

theorem lineOf_val (i : LineIx) : lineOf i.val = some i := dif_pos i.isLt

/-- R137: the lane codes are 0 to 7, and 255 for NONE. -/
theorem laneCode_of {n : Nat} (h : ¬ (7 < n ∧ n ≠ 255)) :
    laneCode n = some (if n = 255 then none else some (Fin.ofNat 8 n)) := by
  unfold laneCode
  by_cases h1 : n = 255
  · rw [if_pos h1, if_pos h1]
  · rw [if_neg h1, if_neg h1, dif_pos (by omega)]
    exact congrArg (fun x => some (some x)) (Fin.ext (Nat.mod_eq_of_lt (by omega)).symm)

theorem laneCode_none {n : Nat} (h : 7 < n ∧ n ≠ 255) : laneCode n = none := by
  unfold laneCode
  rw [if_neg h.2, dif_neg (by omega)]

/-- Settles O16. -/
theorem laneSetReplacesTheLane : Obligations.LaneSetReplacesTheLane := by
  intro args s hl ht line lane
  by_cases hh : s.partState = .hold
  · rw [if_pos hh]
    exact holdRefusesRecordCommands (.laneSet args) _ args s rfl (by simpa [Instr.wf] using hl) rfl
      hh ht.2
  · have hready : s.partState = .ready := by
      have h1 := ht.1
      cases hp : s.partState with
      | loading => exact absurd hp h1
      | ready => rfl
      | hold => exact absurd hp hh
    rw [if_neg hh, exec_recordCommand rfl ⟨hready, ht.2⟩ hl]
    refine congrArg _ ?_
    show (s.release 0x0B args).laneSet line lane = _
    unfold State.laneSet
    by_cases h1 : 15 < line
    · rw [if_pos h1, lineOf_none h1]; rfl
    · rw [if_neg h1, lineOf_of_le (by omega)]
      by_cases h2 : 7 < lane ∧ lane ≠ 255
      · rw [if_pos h2, laneCode_none h2]; rfl
      · rw [if_neg h2, laneCode_of h2]
        dsimp only
        rw [State.release_works]
        split <;> rfl

/-! ## Stations -/

theorem stationOf_val (d : StationIx) : stationOf (d.val + 1) = some d :=
  dif_pos ⟨by omega, by omega⟩

theorem stationOf_none {a : Nat} (h : a = 0 ∨ 30 < a) : stationOf a = none := dif_neg (by omega)

theorem modifyStation_some {k : Link} {d : StationIx} {st : Station} (f : Station → Station)
    (h : k.stations[d] = some st) :
    k.modifyStation d f = { k with stations := k.stations.set d (some (f st)) } := by
  rw [Link.modifyStation, h]
  rfl

/-- R158: which probes wait for the next round. -/
theorem Station.probeWaits_iff (st : Station) (h : st.isolated = true) :
    st.probeWaits = true ↔ st.level = .one ∧ st.probeDue = false := by
  simp [Station.probeWaits, h, and_comm]

/-- Settles O26. -/
theorem stationProbeSetsProbeDue : Obligations.StationProbeSetsProbeDue := by
  intro args s hl ht a
  rw [exec_otherCommand rfl rfl ht hl]
  refine ⟨fun ha => congrArg _ ?_, fun d ha hd => congrArg _ ?_, fun d st ha hd => congrArg _ ?_⟩ <;>
    show (s.release 0x30 args).stationProbe a = _ <;> unfold State.stationProbe
  · rw [stationOf_none ha]; rfl
  · rw [ha, stationOf_val]
    simp only [State.release_link, hd]; rfl
  · rw [ha, stationOf_val]
    simp only [State.release_link, hd]
    unfold Link.probe
    by_cases hi : st.isolated = true
    · rw [if_pos hi, if_pos hi]
      rw [modifyStation_some (st := st) _ (by split <;> exact hd)]
      by_cases hw : st.level = .one ∧ st.probeDue = false
      · rw [if_pos ((st.probeWaits_iff hi).2 hw), if_pos hw]; rfl
      · rw [if_neg (mt (st.probeWaits_iff hi).1 hw), if_neg hw]; rfl
    · rw [if_neg hi, if_neg hi]; rfl

/-! ## Notices -/

/-- Settles O24. -/
theorem noticeClearClearsNamedEvents : Obligations.NoticeClearClearsNamedEvents := by
  intro args s hl ht kind index mask ns cleared
  have hexec : exec (.noticeClear args) s =
      .next ((s.release 0x21 args).noticeClear kind index mask) := by
    rw [exec_otherCommand rfl rfl ht hl]
  have taken : ∀ n, s.noStation kind index = false → ns.clearBits kind index mask = some n →
      cleared n := by
    intro n h1 h2
    refine hexec.trans (congrArg _ ?_)
    have h1' : (s.release 0x21 args).noStation kind index = false := h1
    unfold State.noticeClear
    rw [h1', State.release_works, h2]
    rfl
  have refused : s.noStation kind index = true ∨ ns.clearBits kind index mask = none →
      exec (.noticeClear args) s = .next (s.answered 0x21 args (.plain .outOfRange)) := by
    intro h
    refine hexec.trans (congrArg _ ?_)
    unfold State.noticeClear
    by_cases h1 : s.noStation kind index = true
    · exact if_pos h1
    · refine (if_neg h1).trans ?_
      rw [State.release_works, h.resolve_left h1]
      rfl
  refine ⟨fun hk hi => taken _ ?_ ?_, fun i hk hi => taken _ ?_ ?_, fun p hk hi => taken _ ?_ ?_,
    fun d hk hi hd => taken _ ?_ ?_, fun h => refused ?_, fun d hk hi hd => refused (.inl ?_)⟩
  · rw [hk]; rfl
  · rw [hk, hi]; rfl
  · rw [hk]; rfl
  · rw [hk, hi]; exact dif_pos i.isLt
  · rw [hk]; rfl
  · rw [hk, hi]; exact dif_pos p.isLt
  · rw [hk, hi]
    simpa [State.noStation, stationOf_val] using hd
  · rw [hk, hi]
    simp [Notices.clearBits, stationOf_val]
  · rcases h with h | ⟨hk, hi⟩ | ⟨hk, hi⟩ | ⟨hk, hi⟩ | ⟨hk, hi⟩
    · obtain ⟨m, hm⟩ : ∃ m, kind = m + 4 := ⟨kind - 4, by omega⟩
      exact .inr (by rw [hm]; rfl)
    · exact .inr (by rw [hk]; exact if_neg (by omega))
    · exact .inr (by rw [hk]; exact dif_neg (by omega))
    · exact .inr (by rw [hk]; exact dif_neg (by omega))
    · exact .inr (by rw [hk]; simp [Notices.clearBits, stationOf_none hi])
  · rw [hk, hi]
    simpa [State.noStation, stationOf_val] using hd

/-! ## Store requests -/

/-- Settles O27. -/
theorem storeRequestsBeginAndEnd : Obligations.StoreRequestsBeginAndEnd := by
  have starts : ∀ (s : State) (code : Byte) (args : List Byte) (r : StoreRequest),
      (s.release code args).startTransfer r =
        (if s.port.store.isSome then s.answered code args (.plain .busy)
        else
          let t := s.answered code args (.plain .busy)
          { t with port := { t.port with store := some r, storeOutcomeWanted := true } }) := by
    intro s code args r
    rcases (s.release code args).startTransfer_cases r with ⟨q, hq, e⟩ | ⟨hq, e⟩ <;> rw [e]
    · have hq' : s.port.store = some q := hq
      rw [hq']; rfl
    · have hq' : s.port.store = none := hq
      rw [hq']; rfl
  refine ⟨fun args s hl ht => ?_, fun args s hl ht => ?_, fun ack s r hr hwf => ?_, fun ack s hs => ?_⟩
  · rw [exec_otherCommand rfl rfl ht hl]
    exact congrArg _ (starts s _ args _)
  · rw [exec_otherCommand rfl rfl ht hl]
    exact congrArg _ (starts s _ args _)
  · have hread : ∀ a, Memory.read (s.storeWritten r ack) a =
        match r.data with
        | some b => if ack = true ∧ a = r.address then b else Memory.read s.eeprom a
        | none => Memory.read s.eeprom a := by
      intro a
      unfold State.storeWritten
      cases hd : r.data with
      | none => rfl
      | some b =>
        cases ack with
        | false => simp
        | true =>
          by_cases ha : a = r.address
          · subst ha; simp [Memory.read_write_same s.eeprom r.address b hwf]
          · simp [ha, Memory.read_write_other s.eeprom r.address a b ha]
    have hout : storeOutcome ack (s.storeReadByte r) =
        { status := .ok,
          aux := if ack = true ∧ r.data = none then Memory.read s.eeprom r.address else 0,
          fields := [if ack then 0 else 1], firstField := 0, mode := .run32 } := by
      unfold storeOutcome State.storeReadByte
      cases ack <;> cases hd : r.data <;> simp [ResultBuffer.plain]
    refine ⟨s.endTransfer ack, rfl, ?_, ?_, ?_⟩
    all_goals unfold State.endTransfer; simp only [hr]
    · split
      · rw [← hout]; rfl
      · rfl
    · intro a
      split <;> exact hread a
    · split <;> rfl
  · show Host.Outcome.next (s.endTransfer ack) = _
    unfold State.endTransfer
    rw [hs]

/-! ## Restarts -/

/-- R167: an aborted read leaves the EEPROM. -/
theorem State.abortStore_eeprom_of_read (s : State)
    (h : ∀ r, s.port.store = some r → r.data = none) : s.abortStore.eeprom = s.eeprom := by
  rcases s.abortStore_eeprom_cases with e | ⟨r, b, hr, hb, -⟩
  · exact e
  · rw [h r hr] at hb; cases hb

/-- Settles O28. -/
theorem restartWarmKeepsTheRecords : Obligations.RestartWarmKeepsTheRecords := by
  intro s ht
  obtain ⟨h1, -, h3, h4, h5, h6, -, h8, h9, h10⟩ := (s.release 0x3E []).abortStore_frame
  refine ⟨(s.release 0x3E []).warmRestart, by rw [exec_otherCommand rfl rfl ht rfl], ?_, ?_, rfl, h1, rfl, ?_,
    h6, h9, h10, h8, h5, fun h => ?_⟩
  · show (s.release 0x3E []).abortStore.works.resumeLines.clearEvents = _
    rw [h3]; rfl
  · show (s.release 0x3E []).abortStore.link.restarted = _
    rw [h4]; rfl
  · exact State.Acts.transaction (s := s.release 0x3E []) .warm rfl
  · exact (s.release 0x3E []).abortStore_eeprom_of_read h

/-- R174: what the entry into LOADING leaves, from any state. -/
theorem State.enterLoading_facts (s : State) :
    let t := s.enterLoading
    t.partState = .loading ∧ t.resumeTimer = none ∧ t.timeBase = s.timeBase ∧
      t.supplyOk = s.supplyOk ∧
      inUse t.works.lots = [] ∧ inUse t.works.coils = [] ∧ t.works.waitList = [] ∧
      t.works.freeCoils = 96 ∧
      (∀ p : PackerIx, t.works.queues[p] = [] ∧ t.works.held[p] = [] ∧
        t.works.reservations p = []) ∧
      t.works.notices = Notices.clear ∧ t.port.store = none ∧
      t.port.result = { status := .busy, aux := 0, fields := [], firstField := 0, mode := .run32 } ∧
      (∀ x, t.port.transaction = some x → x.discarded = true) ∧ t.lkde = false ∧
      (∀ i, let l := t.works.line i
        l.state = .idle ∧ l.suspended = false ∧ l.lot = none ∧ l.coil = none ∧ l.position = 0 ∧
        l.remainder = 0 ∧ l.baselinesValid = false ∧ l.baselines = ⟨0, 0, 0, 0⟩ ∧
        l.cut = .noCut ∧ l.reserved = none ∧ l.order = .halt) := by
  obtain ⟨-, -, -, -, -, -, -, h8, -, h10⟩ := s.abortStore_frame
  dsimp only
  rw [State.enterLoading_works]
  refine ⟨rfl, rfl, h8, h10, (Works.cleared_tables _).1, (Works.cleared_tables _).2, rfl, ?_,
    fun p => ⟨replicate_getFin _ p, replicate_getFin _ p, ?_⟩, rfl, rfl, rfl, fun x hx => ?_, rfl,
    fun i => ?_⟩
  · show Works.reset.freeCoils = 96
    decide
  · simp [Works.reservations, Line.cleared, Line.reset]
  · obtain ⟨y, -, rfl⟩ := Option.map_eq_some_iff.1 hx
    rfl
  · rw [Works.line_cleared]
    exact ⟨rfl, rfl, rfl, rfl, rfl, rfl, rfl, rfl, rfl, rfl, rfl⟩

/-- Settles O29: the three rows come to `State.enterLoading`. -/
theorem enteringLoadingClearsTheTables : Obligations.EnteringLoadingClearsTheTables := by
  intro c s h
  have hu : ∃ u : State, exec c s = .next u.enterLoading ∧ u.supplyOk = s.supplyOk ∧
      u.eeprom = s.eeprom ∧ u.port.store = s.port.store ∧
      u.timeBase = (if c = .restartCold [] then s.timeBase else 0) := by
    rcases h with ⟨rfl, ht⟩ | rfl | rfl
    · exact ⟨s.release 0x3F [], by rw [exec_otherCommand rfl rfl ht rfl], rfl, rfl, rfl, rfl⟩
    · exact ⟨_, rfl, rfl, rfl, rfl, rfl⟩
    · exact ⟨{ s with timeBase := 0 }, rfl, rfl, rfl, rfl, rfl⟩
  obtain ⟨u, he, h1, h2, h3, h4⟩ := hu
  obtain ⟨f1, f2, f3, f4, f5, f6, f7, f8, f9, f10, f11, f12, f13, f14, f15⟩ := u.enterLoading_facts
  exact ⟨u.enterLoading, he, f1, f2, f3.trans h4, f4.trans h1, f5, f6, f7, f8, f9, f10, f11, f12, f13,
    f14, f15, fun hr => (u.abortStore_eeprom_of_read (by rw [h3]; exact hr)).trans h2⟩

end Sys2Proof.Machine
end

section
namespace Sys2Proof.Machine

/-! # Supply, rounds, polls, reception, grades and encodings -/

/-- Settles O31. -/
theorem supplyMovesThePartState : Obligations.SupplyMovesThePartState := by
  refine ⟨fun s h => ?_, fun s h => ⟨?_, ?_⟩, fun s h => ⟨?_, ?_⟩, fun s n h hn hs => ?_⟩
  · show Host.Outcome.next s.supplyFalls = _
    simp only [State.supplyFalls, h]
    rfl
  · show Host.Outcome.next s.supplyFalls = _
    simp only [State.supplyFalls, h]
  · show Host.Outcome.next s.supplyRises = _
    simp only [State.supplyRises, h]
  · show Host.Outcome.next s.supplyFalls = _
    simp only [State.supplyFalls, h]
  · show Host.Outcome.next s.supplyRises = _
    simp only [State.supplyRises, h]
  · show Host.Outcome.next s.resume = _
    rw [State.resume, if_pos ⟨h, by rw [hn]; rfl, hs⟩]

/-! ## Rounds (R154) -/

/-- R154: a round with a turn left goes on. -/
theorem Link.closeRound_of_turn (k : Link) (pos : RoundPosition) (ht : k.turn = none)
    (hr : k.round = some pos) (h : (k.nextTurn? pos).isSome = true) : k.closeRound = k := by
  have hn : ¬ (k.nextTurn? pos).isNone = true := by
    rw [← Option.not_isSome]; simp [h]
  unfold Link.closeRound
  rw [ht, hr]
  exact if_neg hn

theorem Link.closeRound_frame (k : Link) :
    k.closeRound = { k with round := k.closeRound.round } := by
  unfold Link.closeRound
  split
  · split <;> rfl
  · rfl

theorem Link.takesLevelOne_eq {k : Link} {d : StationIx} {st : Station} (pos : RoundPosition)
    (hd : k.stations[d] = some st) : k.takesLevelOne pos d =
      (decide (st.level = .one) && (!st.isolated || (st.probeDue && !pos.late.contains d))) := by
  rw [Link.takesLevelOne, hd]
  rfl

theorem Link.takesLevelTwo_eq {k : Link} {d : StationIx} {st : Station}
    (hd : k.stations[d] = some st) :
    k.takesLevelTwo d = (decide (st.level = .two) && (!st.isolated || st.probeDue)) := by
  rw [Link.takesLevelTwo, hd]
  rfl

/-- R154: an ACTIVE station that has not had its place gives the round a turn. -/
theorem Link.nextTurn?_isSome_of_active (k : Link) (pos : RoundPosition) (d : StationIx)
    (st : Station) (hd : k.stations[d] = some st) (hi : st.isolated = false)
    (h1 : pos.levelOneAfter = 0) (h2 : pos.levelTwoDone = false) : (k.nextTurn? pos).isSome = true := by
  have hmem : ∀ r : StationIx, d ∈ ((List.finRange 30).filter fun d => decide (r < d)) ++
      ((List.finRange 30).filter fun d => decide (d ≤ r)) := by
    intro r
    rcases lt_or_ge r d with h | h <;> simp [h]
  have horder : d ∈ k.levelTwoOrder := by
    unfold Link.levelTwoOrder
    split
    · exact List.mem_finRange d
    · exact hmem _
  cases hlev : st.level with
  | one =>
    have hfind : ((List.finRange 30).find? fun d =>
        decide (pos.levelOneAfter < d.val + 1) && k.takesLevelOne pos d).isSome = true := by
      rw [List.find?_isSome]
      exact ⟨d, List.mem_finRange d, by simp [h1, Link.takesLevelOne_eq pos hd, hlev, hi]⟩
    unfold Link.nextTurn?
    split
    · rfl
    · next hn => rw [hn] at hfind; cases hfind
  | two =>
    have hfind : (k.levelTwoOrder.find? fun d => k.takesLevelTwo d).isSome = true := by
      rw [List.find?_isSome]
      exact ⟨d, horder, by simp [Link.takesLevelTwo_eq hd, hlev, hi]⟩
    unfold Link.nextTurn?
    split
    · rfl
    · rw [h2, if_neg (by simp), Option.isSome_map]; exact hfind

theorem Link.startRound_frame (k : Link) :
    k.startRound = { k with
      stations := mapTable (Option.map Station.countRound) k.stations,
      roundCount := (k.roundCount + 1) % 32, round := k.startRound.round } :=
  Link.closeRound_frame _

theorem Station.countRound_isolated (st : Station) : st.countRound.isolated = st.isolated := by
  unfold Station.countRound
  split <;> rfl

/-- R154: a round that an ACTIVE station makes a turn in begins before its first turn. -/
theorem Link.startRound_round (k : Link) (d : StationIx) (st : Station) (ht : k.turn = none)
    (hd : k.stations[d] = some st) (hi : st.isolated = false) :
    k.startRound.round = some { levelOneAfter := 0, levelTwoDone := false } := by
  have hd' : (mapTable (Option.map Station.countRound) k.stations)[d] = some st.countRound := by
    rw [mapTable_getFin, hd]; rfl
  exact congrArg Link.round (Link.closeRound_of_turn
    { k with
      stations := mapTable (Option.map Station.countRound) k.stations,
      roundCount := (k.roundCount + 1) % 32,
      round := some { levelOneAfter := 0, levelTwoDone := false } } _ ht rfl
    (Link.nextTurn?_isSome_of_active _ _ d st.countRound hd'
      ((Station.countRound_isolated st).trans hi) rfl rfl))

/-- Settles O32. -/
theorem roundStartCountsTheRound : Obligations.RoundStartCountsTheRound := by
  intro s hp ht hr
  have hended : s.link.roundEnded = true := by simp [Link.roundEnded, ht, hr]
  refine ⟨s.link.startRound, ?_, ?_, ?_, ?_, ?_, ?_, fun d st hd hi => ?_⟩
  · show Host.Outcome.next (if _ then _ else _) = _
    rw [if_pos ⟨hp, hended⟩]
  · exact (Link.closeRound_eq _).2
  · refine (Link.closeRound_eq _).1.trans ?_
    have hf : Station.countRound = fun st : Station =>
        if st.isolated then
          { st with
            roundsSinceProbe := min 32 (st.roundsSinceProbe + 1),
            probeDue := st.probeDue || decide (32 ≤ st.roundsSinceProbe + 1) }
        else st := by
      funext st
      have hmin : decide (min Config.probeRounds (st.roundsSinceProbe + 1) = Config.probeRounds) =
          decide (32 ≤ st.roundsSinceProbe + 1) := by
        have h32 : Config.probeRounds = 32 := rfl
        rw [decide_eq_decide]; omega
      unfold Station.countRound
      dsimp only
      rw [hmin]
      rfl
    show mapTable (Option.map Station.countRound) s.link.stations = _
    rw [hf]
  · rw [s.link.startRound_frame]
  · rw [s.link.startRound_frame]; exact ht
  · rw [s.link.startRound_frame]
  · exact Link.startRound_round _ d st ht hd hi

/-! ## Polls (R155) -/

/-- Settles O34. -/
theorem pollCarriesOrderAndAnswer : Obligations.PollCarriesOrderAndAnswer := by
  constructor
  · intro l
    refine ⟨?_, ?_, ?_, ?_, ?_, ?_, ?_, ?_⟩ <;> intros <;> simp_all [Line.order]
  · intro s d st hd flags answer poll
    have hpoll : s.pollFor d = pollBytes (d.val + 1) st.repeatOwed (s.works.pollOrder st.role)
        st.pending := by
      simp only [State.pollFor, hd]
    have hflags : ∀ order : Bool, pollFlags st.repeatOwed order st.pending.isSome =
        flags (if order then 2 else 0) := by
      intro order
      simp only [pollFlags, flagAt, flags]
      cases order <;> rfl
    have none_ : s.works.pollOrder st.role = none → poll 0 [] := by
      intro h
      show s.pollFor d = _
      rw [hpoll, h, pollBytes, Option.isSome_none, hflags]
      rfl
    refine ⟨fun p hp => none_ (by rw [hp]; rfl), fun i hi => ⟨fun hs => none_ ?_, fun hs => ?_⟩⟩
    · rw [hi, Works.pollOrder, if_pos hs]
    · have some_ : ∀ block, (s.works.line i).orderBlock = block → poll 2 block := by
        intro block hb
        have ho : s.works.pollOrder st.role = some (s.works.line i) := by
          rw [hi, Works.pollOrder, if_neg (by rw [hs]; decide)]
        show s.pollFor d = _
        rw [hpoll, ho, pollBytes, Option.isSome_some, hflags, Option.map_some, hb]
        rfl
      refine ⟨fun h => some_ _ ?_, fun h => some_ _ ?_, fun h => some_ _ ?_⟩ <;>
        simp only [Line.orderBlock, Line.remaining, h] <;> rfl

/-! ## Reception (R152) -/

/-- The outstanding exchange. -/
theorem Link.outstanding?_some {k : Link} {t : Turn} (h : k.turn = some t) (hp : t.phase ≠ .due) :
    k.outstanding? = some t := by
  simp [Link.outstanding?, h, hp]

theorem Link.outstanding?_none {k : Link}
    (h : k.turn = none ∨ ∃ t, k.turn = some t ∧ t.phase = .due) : k.outstanding? = none := by
  rcases h with h | ⟨t, h, hp⟩
  · simp [Link.outstanding?, h]
  · simp [Link.outstanding?, h, hp]

/-- R152, R156: a discard without an exchange ends the reception alone. -/
theorem State.discardFrame_none {s : State}
    (h : s.link.turn = none ∨ ∃ t, s.link.turn = some t ∧ t.phase = .due) :
    s.discardFrame = { s with link := { s.link with reception := none } } := by
  unfold State.discardFrame
  rw [Link.outstanding?_none h]
  rfl

/-- R152, R156: a discard fails the exchange that is outstanding. -/
theorem State.discardFrame_some {s : State} {t : Turn} (h : s.link.turn = some t)
    (hp : t.phase ≠ .due) : s.discardFrame = s.endReception.failExchange t := by
  unfold State.discardFrame
  rw [Link.outstanding?_some h hp]

/-- R156: while tries remain, a failed exchange owes a repeat and a retry. -/
theorem State.failExchange_retry {s : State} {t : Turn} {st : Station}
    (hst : s.link.stations[t.station] = some st) (hp : s.partState = .ready) (hb : t.probe = false)
    (ht : t.tries ≤ s.settings.retryLimit) :
    s.failExchange t = { s with
      link := { s.link with
        stations := s.link.stations.set t.station (some { st with repeatOwed := true }),
        turn := some { t with phase := .due } } } := by
  unfold State.failExchange
  simp only [State.modifyStation, modifyStation_some _ hst]
  simp [hp, hb, ht]

/-- Settles O36. -/
theorem characterReceivedCollectsAFrame : Obligations.CharacterReceivedCollectsAFrame := by
  refine ⟨fun s hr => ?_, fun c s hr hc => ?_, fun c s bs hr hl => ?_,
    fun c s bs t st hr hl hc hp ht hd hb htr hst => ?_⟩
  · show Host.Outcome.next (s.receive 0xA5) = _
    simp only [State.receive, hr, if_true]
  · show Host.Outcome.next (s.receive c) = _
    simp only [State.receive, hr, if_neg hc]
  · show Host.Outcome.next (s.receive c) = _
    simp only [State.receive, hr]
    rw [if_neg (by simp only [List.length_append, List.length_singleton]; omega),
      if_neg (by simp only [List.length_append, List.length_singleton]; omega)]
  · show Host.Outcome.next (s.receive c) = _
    have hget : (bs ++ [c]).getD 3 0 = c := by simp [List.getD, hl]
    simp only [State.receive, hr, hget]
    rw [if_pos ⟨by simp [hl], hc⟩, State.discardFrame_some ht hd,
      State.failExchange_retry (s := s.endReception) (st := st) hst hp hb htr]
    rfl

/-! ## Grades (R111, R112) -/

/-- Settles O52. -/
theorem gradeFollowsReasonsAndShare : Obligations.GradeFollowsReasonsAndShare := by
  intro c len share reject second
  have hshare : zoneShare c.zones len = share := by
    show min 1000 (_ / len) = if len = 0 then 0 else min 1000 (_ / len)
    split
    · next h => rw [h, Nat.div_zero]; rfl
    · rfl
  have hreject : (c.reasons.contains .zoneOverflow || c.reasons.contains .jointsOver ||
      c.reasons.contains .short || c.reasons.contains .density ||
      decide (c.limits.rejectShare < zoneShare c.zones len)) = true ↔ reject := by
    rw [hshare]
    simp only [Bool.or_eq_true, List.contains_iff_mem, decide_eq_true_eq, or_assoc, reject]
  have hsecond : (c.reasons.contains .zones || c.reasons.contains .lengthUncertain ||
      c.reasons.contains .overlength || c.reasons.contains .unplannedCut) = true ↔ second := by
    simp only [Bool.or_eq_true, List.contains_iff_mem, or_assoc, second]
  unfold Coil.gradeAt
  by_cases h1 : reject
  · rw [if_pos (hreject.2 h1)]; simp [h1]
  · rw [if_neg (mt hreject.1 h1)]
    by_cases h2 : second
    · rw [if_pos (hsecond.2 h2)]; simp [h1, h2]
    · rw [if_neg (mt hsecond.1 h2)]; simp [h1, h2]

/-! ## Encodings (8.1, 9.1) -/

/-- The number at an offset behind the bytes of another. -/
theorem bytesAt_toBytes_skip (m v : Nat) (rest : List Byte) (at0 n : Nat) (h : m ≤ at0) :
    bytesAt (toBytes m v ++ rest) at0 n = bytesAt rest (at0 - m) n := by
  rw [bytesAt_append_right _ _ _ _ (by rwa [toBytes_length]), toBytes_length]

/-- The number that its bytes spell. -/
theorem bytesAt_toBytes (n v : Nat) (h : v < 256 ^ n) : bytesAt (toBytes n v) 0 n = v := by
  simpa using bytesAt_toBytes_append n v [] h

/-- Settles O53: each field is the number of its own bytes, the ones before it skipped. -/
theorem specificationBlockRoundTrips : Obligations.SpecificationBlockRoundTrips := by
  intro sp hkind h1 h2 h3 h4 h5 h6 h7 h8 h9 h10 h11 h12 h13 h14 h15 h16 h17 h18
  have hcode : sp.kind.code < 256 ∧ ProductKind.ofCode sp.kind.code = sp.kind := by
    rcases hkind with h | h <;> rw [h] <;> decide
  refine ⟨by simp [Spec.bytes, Spec.tailBytes], ?_, fun revision => ⟨?_, ?_⟩⟩
  · obtain ⟨kind, _, _, _, _, _, _, _, _, _, _, _, _, _, _, _, _, _, _⟩ := sp
    simp only at *
    simp [specOf, Spec.bytes, Spec.tailBytes, bytesAt_toBytes_skip, bytesAt_toBytes_append,
      bytesAt_toBytes, *]
  · simp [Spec.contentBytes, Spec.tailBytes]
  · simp [Spec.contentBytes, Spec.bytes, toBytes]

end Sys2Proof.Machine
end

section
namespace Sys2Proof.Machine

/-! # The order of turns (R154) and the frames' forms (8.1) -/

/-- The first of a list in the order of `f` that has a property: the one with the property that none
before it in the order has. -/
theorem find?_of_sorted {α : Type} (f : α → Nat) (p : α → Bool) (xs : List α)
    (hs : xs.Pairwise fun a b => f a < f b) (d : α) (hd : d ∈ xs) (hp : p d = true)
    (hfirst : ∀ e, f e < f d → p e = false) : xs.find? p = some d := by
  induction xs with
  | nil => cases hd
  | cons x xs ih =>
    rw [List.pairwise_cons] at hs
    rcases List.mem_cons.1 hd with rfl | hd
    · exact List.find?_cons_of_pos hp
    · rw [List.find?_cons_of_neg (by rw [hfirst x (hs.1 d hd)]; decide)]
      exact ih hs.2 hd

/-- R154: where an address stands in the order of the level-two slot. -/
def levelTwoPlace (rotation : Option StationIx) (e : StationIx) : Nat :=
  match rotation with
  | none => e.val
  | some r => (e.val + 29 - r.val) % 30

theorem Link.mem_levelTwoOrder (k : Link) (d : StationIx) : d ∈ k.levelTwoOrder := by
  unfold Link.levelTwoOrder
  split
  · exact List.mem_finRange d
  · next r _ => rcases lt_or_ge r d with h | h <;> simp [h]

/-- R154: the order runs through the addresses from after the rotation point on. -/
theorem Link.levelTwoOrder_sorted (k : Link) :
    k.levelTwoOrder.Pairwise fun a b => levelTwoPlace k.rotation a < levelTwoPlace k.rotation b := by
  unfold Link.levelTwoOrder levelTwoPlace
  cases k.rotation with
  | none => exact List.pairwise_lt_finRange 30
  | some r =>
    dsimp only
    have hsort := List.pairwise_lt_finRange 30
    refine List.pairwise_append.2 ⟨?_, ?_, fun a ha b hb => ?_⟩
    · refine (hsort.filter _).imp_of_mem fun {a b} ha hb hab => ?_
      simp only [List.mem_filter, decide_eq_true_eq, Fin.lt_def] at ha hb hab
      omega
    · refine (hsort.filter _).imp_of_mem fun {a b} ha hb hab => ?_
      simp only [List.mem_filter, decide_eq_true_eq, Fin.le_def, Fin.lt_def] at ha hb hab
      omega
    · simp only [List.mem_filter, decide_eq_true_eq, Fin.le_def, Fin.lt_def] at ha hb
      omega

/-- R154: no level-one station is left for the round. -/
theorem Link.noLevelOne {k : Link} {pos : RoundPosition}
    (h : ∀ (e : StationIx) (u : Station), pos.levelOneAfter ≤ e.val → k.stations[e] = some u →
      u.level = .one → ¬ (u.isolated = false ∨ (u.probeDue = true ∧ e ∉ pos.late))) :
    ((List.finRange 30).find? fun d =>
      decide (pos.levelOneAfter < d.val + 1) && k.takesLevelOne pos d) = none := by
  rw [List.find?_eq_none]
  intro e _ he
  obtain ⟨hle, htake⟩ := Bool.and_eq_true_iff.1 he
  cases hu : k.stations[e] with
  | none => rw [Link.takesLevelOne, hu] at htake; cases htake
  | some u =>
    rw [Link.takesLevelOne_eq pos hu] at htake
    simp only [Bool.and_eq_true, decide_eq_true_eq, Bool.or_eq_true, Bool.not_eq_true',
      List.contains_eq_mem, decide_eq_false_iff_not] at htake
    exact h e u (by have := of_decide_eq_true hle; omega) hu htake.1 htake.2

/-- R154: the next turn is the first level-one station's, in address order. -/
theorem Link.nextTurn?_levelOne {k : Link} {pos : RoundPosition} {d : StationIx} {st : Station}
    (hle : pos.levelOneAfter ≤ d.val) (hd : k.stations[d] = some st) (hlev : st.level = .one)
    (hs : st.isolated = false ∨ (st.probeDue = true ∧ d ∉ pos.late))
    (hfirst : ∀ (e : StationIx) (u : Station), pos.levelOneAfter ≤ e.val → e < d →
      k.stations[e] = some u → u.level = .one →
      ¬ (u.isolated = false ∨ (u.probeDue = true ∧ e ∉ pos.late))) :
    k.nextTurn? pos = some (d, { pos with levelOneAfter := d.val + 1 }, k.rotation) := by
  have hfind : ((List.finRange 30).find? fun d =>
      decide (pos.levelOneAfter < d.val + 1) && k.takesLevelOne pos d) = some d := by
    refine find?_of_sorted (fun d : StationIx => d.val) _ _ (List.pairwise_lt_finRange 30) d
      (List.mem_finRange d) ?_ fun e he => ?_
    · rw [Link.takesLevelOne_eq pos hd]
      simp only [Bool.and_eq_true, decide_eq_true_eq, Bool.or_eq_true, Bool.not_eq_true',
        List.contains_eq_mem, decide_eq_false_iff_not]
      exact ⟨by omega, hlev, hs⟩
    · by_contra hn
      obtain ⟨h1, htake⟩ := Bool.and_eq_true_iff.1 (Bool.not_eq_false _ ▸ hn)
      cases hu : k.stations[e] with
      | none => rw [Link.takesLevelOne, hu] at htake; cases htake
      | some u =>
        rw [Link.takesLevelOne_eq pos hu] at htake
        simp only [Bool.and_eq_true, decide_eq_true_eq, Bool.or_eq_true, Bool.not_eq_true',
          List.contains_eq_mem, decide_eq_false_iff_not] at htake
        exact hfirst e u (by have := of_decide_eq_true h1; omega) he hu htake.1 htake.2
  unfold Link.nextTurn?
  rw [hfind]

/-- R154: with no level-one station left, the slot of level two is looked at, once. -/
theorem Link.nextTurn?_levelTwo {k : Link} {pos : RoundPosition}
    (h : ∀ (e : StationIx) (u : Station), pos.levelOneAfter ≤ e.val → k.stations[e] = some u →
      u.level = .one → ¬ (u.isolated = false ∨ (u.probeDue = true ∧ e ∉ pos.late))) :
    k.nextTurn? pos = if pos.levelTwoDone then none else
      (k.levelTwoOrder.find? fun d => k.takesLevelTwo d).map fun d =>
        (d, { pos with levelOneAfter := 30, levelTwoDone := true }, some d) := by
  unfold Link.nextTurn?
  rw [Link.noLevelOne h]

/-- R154, R155: a round's next turn, as POLL_SEND begins it. -/
theorem State.nextPoll_turn {s : State} {pos pos' : RoundPosition} {d : StationIx} {st : Station}
    {rot : Option StationIx} (ht : s.link.turn = none) (hr : s.link.round = some pos)
    (hd : s.link.stations[d] = some st) (hn : s.link.nextTurn? pos = some (d, pos', rot)) :
    s.nextPoll = { s with
      link := { s.link with
        round := some pos', rotation := rot,
        turn := some
          { station := d, probe := st.isolated, tries := 1, extras := 0, phase := .sending },
        reception := none, lastPoll := s.pollFor d } } := by
  unfold State.nextPoll
  rw [ht, hr, Option.bind_some, hn]
  dsimp only
  rw [hd]
  rfl

/-- Settles O33. -/
theorem pollSendSendsTheNextPoll : Obligations.PollSendSendsTheNextPoll := by
  unfold Obligations.PollSendSendsTheNextPoll
  intro serves levelOneDone first
  have ready : ∀ s : State, s.partState = .ready → exec .pollSend s = .next s.nextPoll := by
    intro s hp
    show Host.Outcome.next (if s.partState = .ready then s.nextPoll else s) = _
    rw [if_pos hp]
  refine ⟨fun s t hp ht hd => ?_, fun s pos d st hp ht hr hle hd hlev hs hfirst => ?_,
    ?_, fun s h => ?_,
    fun s t ht hph => ⟨?_, ?_, ?_⟩⟩
  · rw [ready s hp, State.nextPoll, ht]
    dsimp only
    rw [if_pos hd]
    rfl
  · refine (ready s hp).trans (congrArg _ ?_)
    exact State.nextPoll_turn ht hr hd (Link.nextTurn?_levelOne hle hd hlev hs hfirst)
  · intro s pos d st hp ht hr hone htwo hd hlev hs place hfirst
    refine (ready s hp).trans (congrArg _ ?_)
    refine State.nextPoll_turn ht hr hd ?_
    rw [Link.nextTurn?_levelTwo hone, htwo, if_neg (by decide)]
    have hfind : (s.link.levelTwoOrder.find? fun d => s.link.takesLevelTwo d) = some d := by
      refine find?_of_sorted (levelTwoPlace s.link.rotation) _ _ s.link.levelTwoOrder_sorted d
        (s.link.mem_levelTwoOrder d) ?_ fun e he => ?_
      · rw [Link.takesLevelTwo_eq hd, hlev]
        rcases hs with h | h <;> simp [h]
      · cases hu : s.link.stations[e] with
        | none => rw [Link.takesLevelTwo, hu]; rfl
        | some u =>
          rw [Link.takesLevelTwo_eq hu]
          by_cases hl : u.level = .two
          · obtain ⟨h1, h2⟩ := hfirst e u he hu hl
            simp [h1, h2]
          · simp [hl]
    rw [hfind]
    rfl
  · by_cases hp : s.partState = .ready
    · refine (ready s hp).trans (congrArg _ ?_)
      unfold State.nextPoll
      rcases h with h | ⟨t, ht, hd⟩ | ⟨ht, hr⟩
      · exact absurd hp h
      · rw [ht]
        exact if_neg hd
      · rw [ht]
        rcases hr with hr | ⟨pos, hr, hone, htwo⟩
        · rw [hr]; rfl
        · have hn : s.link.nextTurn? pos = none := by
            rw [Link.nextTurn?_levelTwo hone]
            rcases htwo with h2 | h2
            · rw [if_pos h2]
            · have : (s.link.levelTwoOrder.find? fun d => s.link.takesLevelTwo d) = none := by
                rw [List.find?_eq_none]
                intro e _ he
                cases hu : s.link.stations[e] with
                | none => rw [Link.takesLevelTwo, hu] at he; cases he
                | some u =>
                  rw [Link.takesLevelTwo_eq hu] at he
                  by_cases hl : u.level = .two
                  · obtain ⟨h1, h2⟩ := h2 e u hu hl
                    simp [h1, h2] at he
                  · simp [hl] at he
              rw [this]
              split <;> rfl
          rw [hr, Option.bind_some, hn]
    · show Host.Outcome.next (if s.partState = .ready then s.nextPoll else s) = _
      rw [if_neg hp]
  · rw [State.lkde, ht]
    simp [hph]
  · show Host.Outcome.next s.pollSent = _
    simp only [State.pollSent, ht, Option.map_some, hph]
  · simp [State.lkde]

/-! ## Payloads (8.1) -/

/-- Two bytes spell a number below 65,536. -/
theorem two_bytes (v : Nat) (h : v < 65536) :
    (BitVec.ofNat 8 (v / 256 ^ 1)).toNat * 256 + (BitVec.ofNat 8 (v / 256 ^ 0)).toNat = v := by
  simp only [BitVec.toNat_ofNat, pow_one, pow_zero, Nat.div_one]
  omega

theorem entriesOf_flatMap (es : List FaultEntry) (h : ∀ e ∈ es, e.tied < 65536) :
    entriesOf (es.flatMap FaultEntry.bytes) = es := by
  induction es with
  | nil => rfl
  | cons e es ih =>
    obtain ⟨low, tied⟩ := e
    have ht : tied < 65536 := h _ (List.mem_cons_self ..)
    rw [List.flatMap_cons]
    show entriesOf (low :: BitVec.ofNat 8 (tied / 256 ^ 1) :: BitVec.ofNat 8 (tied / 256 ^ 0) ::
      es.flatMap FaultEntry.bytes) = _
    rw [entriesOf, two_bytes tied ht, ih fun e he => h e (List.mem_cons_of_mem _ he)]

theorem flatMap_entries_length (es : List FaultEntry) :
    (es.flatMap FaultEntry.bytes).length = 3 * es.length := by
  induction es with
  | nil => rfl
  | cons e es ih =>
    rw [List.flatMap_cons, List.length_append, ih]
    simp only [FaultEntry.bytes, List.length_cons, toBytes_length]
    omega

@[simp] theorem Counts.bytes_length (c : Counts) : c.bytes.length = 8 := by simp [Counts.bytes]

@[simp] theorem CoilKey.bytes_length (k : CoilKey) : k.bytes.length = 4 := by simp [CoilKey.bytes]

/-- The number of a 16-bit counter's bytes. -/
theorem bytesAt_half (x : Half) (rest : List Byte) :
    BitVec.ofNat 16 (bytesAt (toBytes 2 x.toNat ++ rest) 0 2) = x := by
  rw [bytesAt_toBytes_append 2 x.toNat rest x.isLt]
  simp

theorem countsAt_zero (c : Counts) (rest : List Byte) : countsAt (c.bytes ++ rest) 0 = c := by
  obtain ⟨a, b, d, e⟩ := c
  simp only [Counts.bytes, List.append_assoc, countsAt]
  simp only [Nat.zero_add, bytesAt_toBytes_skip _ _ _ _ _ (show 2 ≤ 2 from le_rfl),
    bytesAt_toBytes_skip _ _ _ _ _ (show 2 ≤ 4 by decide),
    bytesAt_toBytes_skip _ _ _ _ _ (show 2 ≤ 6 by decide), Nat.reduceSub, bytesAt_half]

theorem keyAt_zero (k : CoilKey) (rest : List Byte) (h1 : k.lot < 65536) (h2 : k.sequence < 65536) :
    keyAt (k.bytes ++ rest) 0 = k := by
  obtain ⟨a, b⟩ := k
  simp only [CoilKey.bytes, List.append_assoc, keyAt]
  simp only [Nat.zero_add, bytesAt_toBytes_append 2 a _ h1,
    bytesAt_toBytes_skip _ _ _ _ _ (show 2 ≤ 2 from le_rfl), Nat.reduceSub,
    bytesAt_toBytes_append 2 b _ h2]

/-- Settles O54: a payload is its status byte, a code for MARK and ASK, and the parts read back by
the lemmas above. -/
theorem stationPayloadsRoundTrip : Obligations.StationPayloadsRoundTrip := by
  intro status counts es k weight hlen hes hlot hseq hw frame
  have hcounts : ∀ pre : List Byte, ∀ rest, countsAt (pre ++ (counts.bytes ++ rest)) pre.length =
      counts := by
    intro pre rest
    have h : ∀ n m, bytesAt (pre ++ (counts.bytes ++ rest)) (pre.length + m) n =
        bytesAt (counts.bytes ++ rest) m n := by
      intro n m
      rw [bytesAt_append_right _ _ _ _ (Nat.le_add_right _ _), Nat.add_sub_cancel_left]
    have h0 := h 2 0
    rw [Nat.add_zero] at h0
    refine Eq.trans ?_ (countsAt_zero counts rest)
    simp only [countsAt, h0, h, Nat.zero_add]
  have hkey : ∀ pre : List Byte, ∀ rest, keyAt (pre ++ (k.bytes ++ rest)) pre.length = k := by
    intro pre rest
    have h : ∀ n m, bytesAt (pre ++ (k.bytes ++ rest)) (pre.length + m) n =
        bytesAt (k.bytes ++ rest) m n := by
      intro n m
      rw [bytesAt_append_right _ _ _ _ (Nat.le_add_right _ _), Nat.add_sub_cancel_left]
    have h0 := h 2 0
    rw [Nat.add_zero] at h0
    refine Eq.trans ?_ (keyAt_zero k rest hlot hseq)
    simp only [keyAt, h0, h, Nat.zero_add]
  refine ⟨rfl, ?_, fun m => ?_, ?_, rfl, rfl, ?_, ?_, ?_⟩
  · have hl : (tallyPayload status counts es).length = 9 + 3 * es.length := by
      simp only [tallyPayload, List.length_cons, List.length_append, Counts.bytes_length,
        flatMap_entries_length]
      omega
    have hdrop : (tallyPayload status counts es).drop 9 = es.flatMap FaultEntry.bytes := by
      show (counts.bytes ++ es.flatMap FaultEntry.bytes).drop 8 = _
      rw [List.drop_append_of_le_length (by simp), List.drop_of_length_le (by simp)]
      rfl
    show tallyOf _ = _
    rw [tallyOf, if_pos (by rw [hl]; omega), hdrop, entriesOf_flatMap es hes, countFrameOf,
      show countsAt (tallyPayload status counts es) 1 = counts from hcounts [status] _]
    rfl
  · have hc : countsAt (markPayload status m counts) 2 = counts := by
      have := hcounts [status, m.code] []
      rwa [List.append_nil] at this
    have hl : (markPayload status m counts).length = 10 := by simp [markPayload]
    show markOf _ = _
    rw [markOf, if_pos hl, countFrameOf, hc]
    cases m <;> rfl
  · have hc : countsAt (cutDonePayload status counts) 1 = counts := by
      have := hcounts [status] []
      rwa [List.append_nil] at this
    have hl : (cutDonePayload status counts).length = 9 := by simp [cutDonePayload]
    show cutDoneOf _ = _
    rw [cutDoneOf, if_pos hl, countFrameOf, hc]
    rfl
  · have hk : keyAt (askCoilPayload status k) 2 = k := by
      have := hkey [status, 3] []
      rwa [List.append_nil] at this
    have hl : (askCoilPayload status k).length = 6 := by simp [askCoilPayload]
    have hc : ∀ p, contentOf 0x14 p = askOf p := fun _ => rfl
    rw [hc]
    unfold askOf
    rw [hl, hk]
    rfl
  · have hk : keyAt (takenPayload status k) 1 = k := by
      have := hkey [status] []
      rwa [List.append_nil] at this
    have hl : (takenPayload status k).length = 5 := by simp [takenPayload]
    have hc : ∀ p, contentOf 0x15 p = if p.length = 5 then some (.taken (keyAt p 1)) else none :=
      fun _ => rfl
    rw [hc, if_pos hl, hk]
  · have hk : keyAt (sealedPayload status k weight) 1 = k := hkey [status] (toBytes 4 weight)
    have hl : (sealedPayload status k weight).length = 9 := by simp [sealedPayload]
    have hb : bytesAt (sealedPayload status k weight) 5 4 = weight := by
      show bytesAt (k.bytes ++ toBytes 4 weight) 4 4 = weight
      rw [bytesAt_append_right _ _ _ _ (by simp)]
      simp only [CoilKey.bytes_length, Nat.sub_self]
      exact bytesAt_toBytes 4 weight hw
    show sealedOf _ = _
    rw [sealedOf, if_pos hl, hk, hb]

end Sys2Proof.Machine
end

section
namespace Sys2Proof.Machine

/-! # Key lists and notices (R166, R169 to R171) -/

/-! ## LIST_KEYS -/

/-- In a list whose numbers rise, the m-th number is at least m. -/
theorem le_of_sorted_getElem? (keys : List (Nat × Nat)) (hs : keys.Pairwise fun a b => a.1 < b.1)
    (m : Nat) (k : Nat × Nat) (h : keys[m]? = some k) : m ≤ k.1 := by
  induction m generalizing k with
  | zero => exact Nat.zero_le _
  | succ m ih =>
    obtain ⟨hm, rfl⟩ := List.getElem?_eq_some_iff.1 h
    have hlt := List.pairwise_iff_getElem.1 hs m (m + 1) (by omega) hm (by omega)
    have := ih keys[m] (List.getElem?_eq_getElem (by omega))
    omega

theorem keysFrom_sorted {α : Type} {n : Nat} (v : Vector (Option α) n) (start : Nat) (key : α → Nat) :
    (keysFrom v start key).Pairwise fun a b => a.1 < b.1 := by
  refine List.Pairwise.filterMap _ (fun a a' haa' b hb b' hb' => ?_) (List.pairwise_lt_finRange n)
  have fst : ∀ (i : Fin n) (x : Nat × Nat),
      (if start ≤ i.val then v[i].map fun r => (i.val, key r) else none) = some x → x.1 = i.val := by
    intro i x hx
    split at hx
    · obtain ⟨r, -, rfl⟩ := Option.map_eq_some_iff.1 hx
      rfl
    · cases hx
  rw [fst a b hb, fst a' b' hb']
  exact haa'

/-- R166: a walk that placed fewer than 32 keys has come to the end. -/
theorem listPage_short (keys : List (Nat × Nat)) (size : Nat) (h : keys.length < 32) :
    listPage keys size = ((keys.take 32).map fun k => BitVec.ofNat 32 k.2, 255) := by
  have hl : ¬ (keys.take 32).length = 32 := by rw [List.length_take]; omega
  unfold listPage
  dsimp only
  split
  · rfl
  · rw [if_neg fun hk => hl hk.1]
    rfl

/-- R166: a full page goes on after its last entry, unless that is the table's last. -/
theorem listPage_full (keys : List (Nat × Nat)) (size : Nat) (k : Nat × Nat)
    (h : keys[31]? = some k) :
    listPage keys size = ((keys.take 32).map fun k => BitVec.ofNat 32 k.2,
      BitVec.ofNat 8 (if k.1 + 1 < size then k.1 + 1 else 255)) := by
  obtain ⟨hlen, hk⟩ := List.getElem?_eq_some_iff.1 h
  have hl : (keys.take 32).length = 32 := by rw [List.length_take]; omega
  have hlast : (keys.take 32).getLast? = some k := by
    rw [List.getLast?_eq_getElem?, hl, List.getElem?_take_of_lt (by omega), h]
  unfold listPage
  dsimp only
  rw [hlast]
  simp only [hl, true_and]

theorem coilKeyWord_eq (c : Coil) :
    coilKeyWord c = c.key.lot % 65536 * 65536 + c.key.sequence % 65536 := by
  simp [coilKeyWord, bitsAt]

theorem State.listKeys_refused (s : State) (table start : Nat)
    (h : (table ≠ 1 ∧ table ≠ 2) ∨ (table = 1 ∧ 32 ≤ start) ∨ (table = 2 ∧ 96 ≤ start)) :
    s.listKeys table start = s.respond .outOfRange := by
  unfold State.listKeys
  split
  · exact if_pos (by omega)
  · exact if_pos (by omega)
  · rfl

/-- Settles O22. -/
theorem listKeysWalksTheTables : Obligations.ListKeysWalksTheTables := by
  intro args s hl ht table start lots coils page
  have hexec : exec (.listKeys args) s = .next ((s.release 0x19 args).listKeys table start) := by
    rw [exec_otherCommand rfl rfl ht hl]
  have hlots : keysFrom s.works.lots start lotKeyWord = lots := rfl
  have hcoils : keysFrom s.works.coils start coilKeyWord = coils := by
    simp only [keysFrom, coilKeyWord_eq]
    rfl
  have first : table = 1 → start < 32 → exec (.listKeys args) s =
      .next (s.answered 0x19 args (listResult (listPage lots 32))) := by
    intro h1 h2
    rw [hexec, h1, State.listKeys, if_neg (by omega), ← hlots]
    rfl
  have second : table = 2 → start < 96 → exec (.listKeys args) s =
      .next (s.answered 0x19 args (listResult (listPage coils 96))) := by
    intro h1 h2
    rw [hexec, h1, State.listKeys, if_neg (by omega), ← hcoils]
    rfl
  refine ⟨fun h => ?_, fun h1 h2 => ?_, fun h1 h2 h3 => ?_, fun k h1 h2 h3 => ?_⟩
  · rw [hexec, State.listKeys_refused _ table start h]
    rfl
  · refine (first h1 h2).trans ?_
    have hp : (listPage lots 32) = ((lots.take 32).map fun k => BitVec.ofNat 32 k.2, 255) := by
      cases h : lots[31]? with
      | none => exact listPage_short lots 32 (by have := List.getElem?_eq_none_iff.1 h; omega)
      | some k =>
        have hge : 31 ≤ k.1 := le_of_sorted_getElem? lots (keysFrom_sorted _ _ _) 31 k h
        rw [listPage_full lots 32 k h, if_neg (by omega)]
        rfl
    rw [hp]
    rfl
  · refine (second h1 h2).trans ?_
    rw [listPage_short coils 96 h3]
    rfl
  · refine (second h1 h2).trans ?_
    rw [listPage_full coils 96 k h3]
    by_cases hk : k.1 < 95
    · rw [if_pos (by omega), if_pos hk]; rfl
    · rw [if_neg (by omega), if_neg hk]; rfl

/-! ## The notice sets and the pins -/

/-- R171: an enabled bit of a set is set. -/
theorem enabled_ne_zero_iff (x : Half) (en : Word) (lo : Nat) (mask : Half) (k : Nat) (hk : k ≤ 16)
    (hm : ∀ n, n < 16 → mask.getLsbD n = decide (n < k)) :
    x &&& enablesAt en lo mask ≠ 0 ↔ ∃ n, n < k ∧ en.getLsbD (lo + n) = true ∧ x.getLsbD n = true := by
  have hbit : ∀ n, n < 16 → (x &&& enablesAt en lo mask).getLsbD n =
      (x.getLsbD n && (en.getLsbD (lo + n) && decide (n < k))) := by
    intro n hn
    rw [enablesAt, BitVec.getLsbD_and, BitVec.getLsbD_and, hm n hn, BitVec.getLsbD_setWidth,
      BitVec.getLsbD_ushiftRight, decide_eq_true hn, Bool.true_and]
  have hzero : ∀ n, BitVec.getLsbD (0 : Half) n = false := fun n => by simp
  constructor
  · intro hne
    by_contra hno
    refine hne (BitVec.eq_of_getLsbD_eq fun n hn => ?_)
    rw [hbit n hn, hzero]
    by_contra hb
    have hb' := Bool.not_eq_false _ ▸ hb
    simp only [Bool.and_eq_true, decide_eq_true_eq] at hb'
    exact hno ⟨n, hb'.2.2, hb'.2.1, hb'.1⟩
  · rintro ⟨n, hn, he, hx⟩ h0
    have := hbit n (by omega)
    rw [h0, hzero, hx, he] at this
    simp [hn] at this

theorem State.attn_iff (s : State) : s.attn = true ↔
    (∃ n, n < 4 ∧ s.settings.enables.getLsbD n = true ∧ s.globalNotices.getLsbD n = true) ∨
    (∃ (i : LineIx) (n : Nat), n < 10 ∧ s.settings.enables.getLsbD (4 + n) = true ∧
      (s.lineNotices i).getLsbD n = true) ∨
    (∃ (p : PackerIx) (n : Nat), n < 3 ∧ s.settings.enables.getLsbD (14 + n) = true ∧
      (s.packerNotices p).getLsbD n = true) ∨
    (∃ (d : StationIx) (n : Nat), n < 4 ∧ s.settings.enables.getLsbD (17 + n) = true ∧
      (s.stationNotices d).getLsbD n = true) := by
  have hg := enabled_ne_zero_iff s.globalNotices s.settings.enables 0 0xF 4 (by decide) (by decide)
  simp only [Nat.zero_add] at hg
  have hl := fun i => enabled_ne_zero_iff (s.lineNotices i) s.settings.enables 4 0x3FF 10 (by decide)
    (by decide)
  have hp := fun p => enabled_ne_zero_iff (s.packerNotices p) s.settings.enables 14 0x7 3 (by decide)
    (by decide)
  have hd := fun d => enabled_ne_zero_iff (s.stationNotices d) s.settings.enables 17 0xF 4 (by decide)
    (by decide)
  simp only [State.attn, Bool.or_eq_true, List.any_eq_true, List.mem_finRange, true_and,
    decide_eq_true_eq, hg, hl, hp, hd, or_assoc]

theorem Coil.monitorZoneOpen_iff (c : Coil) : c.monitorZoneOpen = true ↔
    (∃ z ∈ c.zones, z.stop = none ∧ (z.cause = .twist ∨ z.cause = .knot)) ∨
      Cause.twist ∈ c.unlistedOpen ∨ Cause.knot ∈ c.unlistedOpen := by
  simp only [Coil.monitorZoneOpen, Bool.or_eq_true, List.any_eq_true, Bool.and_eq_true,
    Option.isNone_iff_eq_none, decide_eq_true_eq]
  refine or_congr Iff.rfl ⟨?_, ?_⟩
  · rintro ⟨q, hq, rfl | rfl⟩
    · exact .inl hq
    · exact .inr hq
  · rintro (h | h)
    · exact ⟨_, h, .inl rfl⟩
    · exact ⟨_, h, .inr rfl⟩

theorem State.lampCondition_iff (s : State) : s.lampCondition = true ↔
    (s.settings.lampCondition = 0 ∧ ∃ i, (s.works.line i).state = .starved) ∨
    (s.settings.lampCondition = 1 ∧
      ∃ i, (s.works.line i).cut = .held ∨ (s.works.line i).halted = true) ∨
    (s.settings.lampCondition = 2 ∧ ∃ p, s.works.placesInUse p = 6) ∨
    (s.settings.lampCondition = 3 ∧
      ∃ (d : StationIx) (st : Station), s.link.stations[d] = some st ∧ st.isolated = true) ∨
    (s.settings.lampCondition = 4 ∧ s.partState = .hold) ∨
    (s.settings.lampCondition = 5 ∧ ∃ c ∈ inUse s.works.coils, c.state = .opened ∧
      ((∃ z ∈ c.zones, z.stop = none ∧ (z.cause = .twist ∨ z.cause = .knot)) ∨
        Cause.twist ∈ c.unlistedOpen ∨ Cause.knot ∈ c.unlistedOpen)) := by
  have hst : (∃ st ∈ inUse s.link.stations, st.isolated = true) ↔
      ∃ (d : StationIx) (st : Station), s.link.stations[d] = some st ∧ st.isolated = true := by
    constructor
    · rintro ⟨st, hst, hi⟩
      obtain ⟨d, hd⟩ := (mem_inUse _ _).1 hst
      exact ⟨d, st, hd, hi⟩
    · rintro ⟨d, st, hd, hi⟩
      exact ⟨st, (mem_inUse _ _).2 ⟨d, hd⟩, hi⟩
  have hfull : (∃ p, s.works.placesInUse p = Config.packerPlaces) ↔
      ∃ p, s.works.placesInUse p = 6 := Iff.rfl
  unfold State.lampCondition
  split
  · next h => simp [h]
  · next h => simp [h]
  · next h => simp [h, hfull]
  · next h => simp [h, hst]
  · next h => simp [h]
  · next h => simp [h, Coil.monitorZoneOpen_iff]
  · next h0 h1 h2 h3 h4 h5 =>
    refine ⟨nofun, ?_⟩
    rintro (⟨h, -⟩ | ⟨h, -⟩ | ⟨h, -⟩ | ⟨h, -⟩ | ⟨h, -⟩ | ⟨h, -⟩)
    exacts [(h0 h).elim, (h1 h).elim, (h2 h).elim, (h3 h).elim, (h4 h).elim, (h5 h).elim]

theorem State.lampHigh_iff (s : State) :
    s.lampHigh = s.settings.lampActiveHigh ↔ s.partState ≠ .loading ∧ s.lampCondition = true := by
  unfold State.lampHigh
  split
  · next h => simpa using h
  · next h =>
    have h' : ¬ (s.partState ≠ .loading ∧ s.lampCondition = true) := by simpa using h
    exact ⟨fun e => by simp at e, fun e => (h' e).elim⟩

/-! ## NOTICE_READ (R170) -/

/-- The first `n` values of four bits each in one number, the first in the lowest. -/
def packed (n : Nat) (f : Nat → Nat) : Nat := ((List.range n).map fun m => f m * 2 ^ (4 * m)).sum

theorem packed_succ (n : Nat) (f : Nat → Nat) :
    packed (n + 1) f = packed n f + f n * 2 ^ (4 * n) := by
  simp [packed, List.range_succ]

theorem packed_succ_zero (n : Nat) (f : Nat → Nat) (h : f n = 0) :
    packed (n + 1) f = packed n f := by
  rw [packed_succ, h, Nat.zero_mul, Nat.add_zero]

theorem packed_lt (f : Nat → Nat) (h : ∀ m, f m < 16) (n : Nat) : packed n f < 2 ^ (4 * n) := by
  induction n with
  | zero => simp [packed]
  | succ n ih =>
    have hle : f n * 2 ^ (4 * n) ≤ 15 * 2 ^ (4 * n) :=
      Nat.mul_le_mul_right _ (by have := h n; omega)
    rw [packed_succ, Nat.mul_succ, pow_add]
    omega

theorem packed_digit (f : Nat → Nat) (h : ∀ m, f m < 16) (n p : Nat) (hp : p < n) :
    packed n f / 2 ^ (4 * p) % 16 = f p := by
  induction n with
  | zero => omega
  | succ n ih =>
    have hpos : 0 < 2 ^ (4 * p) := Nat.two_pow_pos _
    rw [packed_succ]
    rcases Nat.lt_succ_iff_lt_or_eq.1 hp with hlt | rfl
    · obtain ⟨k, rfl⟩ : ∃ k, n = p + 1 + k := ⟨n - (p + 1), by omega⟩
      have hsplit : f (p + 1 + k) * 2 ^ (4 * (p + 1 + k)) =
          16 * (f (p + 1 + k) * 2 ^ (4 * k)) * 2 ^ (4 * p) := by
        rw [show 4 * (p + 1 + k) = 4 * k + 4 + 4 * p by omega, pow_add, pow_add]
        ring
      rw [hsplit, Nat.add_mul_div_right _ _ hpos, Nat.add_mul_mod_self_left]
      exact ih hlt
    · rw [Nat.add_mul_div_right _ _ hpos, Nat.div_eq_of_lt (packed_lt f h p), Nat.zero_add,
        Nat.mod_eq_of_lt (h p)]

/-- R170: three bits of a place of a packed field show its low three bits, and the fourth the
fourth. -/
theorem shows_packed (view : List Word) (n p : Nat) (f : Nat → Nat) (h : ∀ m, f m < 16) (hp : p < 8)
    (hv : view.getD n 0 = BitVec.ofNat 32 (packed 8 f)) :
    shows view n (4 * p + 2) (4 * p) (f p) ∧ shows view n (4 * p + 3) (4 * p) (f p) ∧
    shows view n (4 * p + 3) (4 * p + 3) (f p / 8) := by
  have hd := packed_digit f h 8 p hp
  have hlt := h p
  have hn : (view.getD n 0).toNat = packed 8 f := by
    rw [hv, BitVec.toNat_ofNat, Nat.mod_eq_of_lt (packed_lt f h 8)]
  have h2 : 4 * p + 2 - 4 * p + 1 = 3 := by omega
  have h3 : 4 * p + 3 - 4 * p + 1 = 4 := by omega
  have h0 : 4 * p + 3 - (4 * p + 3) + 1 = 1 := by omega
  unfold shows
  rw [hn, h2, h3, h0, pow_add, ← Nat.div_div_eq_div_mul]
  generalize packed 8 f / 2 ^ (4 * p) = x at hd ⊢
  omega

/-- R170: a packed field of six places holds 0 in its top byte. -/
theorem shows_top_byte (view : List Word) (n : Nat) (f : Nat → Nat) (h : ∀ m, f m < 16)
    (h6 : f 6 = 0) (h7 : f 7 = 0) (hv : view.getD n 0 = BitVec.ofNat 32 (packed 8 f)) :
    shows view n 31 24 0 := by
  have hsix : packed 8 f = packed 6 f :=
    (packed_succ_zero 7 f h7).trans (packed_succ_zero 6 f h6)
  have hlt := packed_lt f h 6
  have hn : (view.getD n 0).toNat = packed 6 f := by
    rw [hv, BitVec.toNat_ofNat, Nat.mod_eq_of_lt (packed_lt f h 8), hsix]
  have h24 : 4 * 6 = 24 := by decide
  rw [h24] at hlt
  rw [shows, hn, Nat.div_eq_of_lt hlt]

/-- R170: the field of the packers. -/
def State.packerBits (s : State) (n : Nat) : Nat :=
  if h : n < 8 then (s.packerNotices ⟨n, h⟩).toNat % 8 else 0

/-- R170: the bits of the stations. -/
def State.stationBits (s : State) (n : Nat) : Nat :=
  if h : n < 30 then (s.stationNotices ⟨n, h⟩).toNat % 16 else 0

theorem State.packerBits_lt (s : State) (n : Nat) : s.packerBits n < 16 := by
  unfold State.packerBits; split <;> omega

theorem State.stationBits_lt (s : State) (n : Nat) : s.stationBits n < 16 := by
  unfold State.stationBits; split <;> omega

theorem State.noticeFields_global (s : State) :
    s.noticeFields.getD 0 0 = s.globalNotices.setWidth 32 := by
  show BitVec.ofNat 32 s.globalNotices.toNat = _
  simp

theorem State.noticeFields_line (s : State) (j : Nat) (hj : j < 8) :
    s.noticeFields.getD (1 + j) 0 =
      (s.lineNotices ⟨2 * j, by omega⟩).setWidth 32 * 65536 +
        (s.lineNotices ⟨2 * j + 1, by omega⟩).setWidth 32 := by
  have hfield : ∀ a b : Half, BitVec.ofNat 32 (bitsAt a.toNat 31 16 + bitsAt b.toNat 15 0) =
      a.setWidth 32 * 65536 + b.setWidth 32 := by
    intro a b
    apply BitVec.eq_of_toNat_eq
    have ha := a.isLt
    have hb := b.isLt
    simp [bitsAt]
    omega
  have hget : s.noticeFields.getD (1 + j) 0 = BitVec.ofNat 32
      (bitsAt (s.lineNotices ⟨2 * j, by omega⟩).toNat 31 16 +
        bitsAt (s.lineNotices ⟨2 * j + 1, by omega⟩).toNat 15 0) := by
    interval_cases j <;> rfl
  rw [hget, hfield]

theorem State.noticeFields_packers (s : State) :
    s.noticeFields.getD 9 0 = BitVec.ofNat 32 (packed 8 s.packerBits) := rfl

theorem State.noticeFields_stations (s : State) (g : Nat) (hg : g < 4) :
    s.noticeFields.getD (10 + g) 0 =
      BitVec.ofNat 32 (packed 8 fun m => s.stationBits (8 * g + m)) := by
  interval_cases g <;> rfl

/-- Settles O23: the sets, ATTN and LAMP by the equivalences above, and the fields by their digits. -/
theorem noticeReadShowsTheSets : Obligations.NoticeReadShowsTheSets := by
  intro s on enabled
  refine ⟨?_, fun i => ?_, fun p => rfl, fun d => ?_, s.attn_iff, ?_, fun ht => ?_⟩
  · exact (BitVec.or_assoc _ _ _).symm
  · show _ ||| (_ ||| _ ||| _ ||| _) = _ ||| _ ||| _ ||| _ ||| _
    simp only [BitVec.or_assoc]
    rfl
  · unfold State.stationNotices Link.stationConditions
    cases s.link.stations[d] <;> rfl
  · rw [s.lampHigh_iff, s.lampCondition_iff]
  · refine ⟨s.noticeFields, ?_, s.noticeFields_length, s.noticeFields_global, s.noticeFields_line,
      fun p => ?_, fun d => ?_, ?_⟩
    · rw [exec_otherCommand rfl rfl ht rfl]
      refine congrArg _ ?_
      show (s.release 0x20 []).noticeRead = _
      unfold State.noticeRead
      dsimp only
      cases hm : s.settings.writeOneClears
      · rw [if_neg (by simp [hm])]; rfl
      · rw [if_pos (by simp [hm])]; rfl
    · obtain ⟨h2, -, h0⟩ := shows_packed _ 9 p s.packerBits s.packerBits_lt p.isLt
        s.noticeFields_packers
      have hp : s.packerBits p = (s.packerNotices p).toNat % 8 := dif_pos p.isLt
      rw [hp] at h2 h0
      have e3 : 4 * p.val + 2 - 4 * p.val + 1 = 3 := by omega
      refine ⟨?_, ?_⟩
      · unfold shows at h2 ⊢
        rw [e3] at h2 ⊢
        omega
      · rwa [Nat.div_eq_of_lt (Nat.mod_lt _ (by decide))] at h0
    · obtain ⟨-, h3, -⟩ := shows_packed _ _ (d.val % 8) (fun m => s.stationBits (8 * (d.val / 8) + m))
        (fun m => s.stationBits_lt _) (by omega)
        (s.noticeFields_stations (d.val / 8) (by omega))
      have hd : s.stationBits (8 * (d.val / 8) + d.val % 8) = (s.stationNotices d).toNat % 16 := by
        rw [Nat.div_add_mod]; exact dif_pos d.isLt
      rw [hd] at h3
      have e4 : 4 * (d.val % 8) + 3 - 4 * (d.val % 8) + 1 = 4 := by omega
      unfold shows at h3 ⊢
      rw [e4] at h3 ⊢
      omega
    · have h6 : s.stationBits (8 * 3 + 6) = 0 := dif_neg (by decide)
      have h7 : s.stationBits (8 * 3 + 7) = 0 := dif_neg (by decide)
      exact shows_top_byte _ _ _ (fun m => s.stationBits_lt (8 * 3 + m)) h6 h7
        (s.noticeFields_stations 3 (by decide))

end Sys2Proof.Machine
end

section
namespace Sys2Proof.Machine

/-! # Exchanges on the link: frames, protocol errors and failed exchanges (R151 to R161) -/

/-! ## Rows that are frames -/

/-- R152: a frame row is its frame. -/
theorem exec_frame {c : Instr} {kind a q : Byte} {payload : List Byte}
    (h : c.frame? = some (kind, a, q, payload)) (s : State) :
    exec c s = .next (s.takeFrame kind a q payload) := by
  cases c <;> first | (cases h; rfl) | exact nomatch h

theorem contentOf_none_of_kind {kind : Byte} (h : stationKinds.contains kind = false)
    (payload : List Byte) : contentOf kind payload = none := by
  have hne : ∀ n, n ∈ [0x10, 0x11, 0x12, 0x13, 0x14, 0x15, 0x16] → kind.toNat ≠ n := by
    intro n hn e
    have hk : kind = BitVec.ofNat 8 n := by rw [← e]; simp
    rw [hk] at h
    fin_cases hn <;> exact absurd h (by decide)
  unfold contentOf
  split <;> first | rfl | exact absurd (by assumption) (hne _ (by decide))

theorem askOf_some {payload : List Byte} {x : Content} (h : askOf payload = some x) :
    (payload.length = 2 ∧ payload.getD 1 0 = 1 ∧ x = .askSpec) ∨
    (payload.length = 2 ∧ payload.getD 1 0 = 2 ∧ x = .askNext) ∨
    (payload.length = 6 ∧ payload.getD 1 0 = 3 ∧ x = .askCoil (keyAt payload 2)) := by
  unfold askOf at h
  split at h
  · next hb hl => exact .inl ⟨hl, BitVec.eq_of_toNat_eq hb, by simpa using h.symm⟩
  · next hb hl => exact .inr (.inl ⟨hl, BitVec.eq_of_toNat_eq hb, by simpa using h.symm⟩)
  · next hb hl => exact .inr (.inr ⟨hl, BitVec.eq_of_toNat_eq hb, by simpa using h.symm⟩)
  · exact nomatch h

theorem markKindOf_some {b : Byte} {k : MarkKind} (h : markKindOf b = some k) :
    ([1, 2, 3] : List Byte).contains b = true := by
  unfold markKindOf at h
  have hb : ∀ n, b.toNat = n → b = BitVec.ofNat 8 n := fun n e => by rw [← e]; simp
  split at h
  · next e => rw [hb _ e]; decide
  · next e => rw [hb _ e]; decide
  · next e => rw [hb _ e]; decide
  · exact nomatch h

/-- R160: a payload that has a content is that of a well-formed row. -/
theorem exists_wf_of_contentOf {kind : Byte} {payload : List Byte} {x : Content}
    (h : contentOf kind payload = some x) (a q : Byte) (ha : addressOk a = true) :
    ∃ c : Instr, c.frame? = some (kind, a, q, payload) ∧ c.wf = true := by
  have hb : ∀ n, kind.toNat = n → kind = BitVec.ofNat 8 n := fun n e => by rw [← e]; simp
  unfold contentOf at h
  split at h
  · next e =>
    rw [hb _ e]
    exact ⟨.idle a q payload, rfl, by split at h <;> simp_all [Instr.wf]⟩
  · next e =>
    rw [hb _ e]
    unfold tallyOf at h
    exact ⟨.tally a q payload, rfl, by split at h <;> simp_all [Instr.wf, tallyLengthOk]⟩
  · next e =>
    rw [hb _ e]
    unfold markOf at h
    split at h
    · next hl =>
      obtain ⟨k, hk, -⟩ := Option.map_eq_some_iff.1 h
      have hm := markKindOf_some hk
      exact ⟨.mark a q payload, rfl, by rw [Instr.wf, ha, hm, hl]; rfl⟩
    · exact nomatch h
  · next e =>
    rw [hb _ e]
    unfold cutDoneOf at h
    exact ⟨.cutDone a q payload, rfl, by split at h <;> simp_all [Instr.wf]⟩
  · next e =>
    rw [hb _ e]
    rcases askOf_some h with ⟨hl, hk, -⟩ | ⟨hl, hk, -⟩ | ⟨hl, hk, -⟩
    · exact ⟨.askSpec a q payload, rfl, by rw [Instr.wf, ha, hl, hk]; rfl⟩
    · exact ⟨.askNext a q payload, rfl, by rw [Instr.wf, ha, hl, hk]; rfl⟩
    · exact ⟨.askCoil a q payload, rfl, by rw [Instr.wf, ha, hl, hk]; rfl⟩
  · next e =>
    rw [hb _ e]
    exact ⟨.taken a q payload, rfl, by split at h <;> simp_all [Instr.wf]⟩
  · next e =>
    rw [hb _ e]
    unfold sealedOf at h
    exact ⟨.sealed a q payload, rfl, by split at h <;> simp_all [Instr.wf]⟩
  · exact nomatch h

/-! ## Protocol errors (R160) -/

/-- R160: a frame that is due, discarded as a protocol error with a pending answer or none. -/
def State.discards (s : State) (d : StationIx) (q : Byte) (answer : Option Answer) (t : State) :
    Prop :=
  t.works = s.works.raiseStation d 0x8 ∧
  t.link.stations = s.link.stations.set d (s.link.stations[d].map fun st =>
    { st.taken q with
      protocolErrors := min 65535 (st.protocolErrors + 1), pending := answer }) ∧
  t.link.turn = none ∧ t = { s with works := t.works, link := t.link }

theorem State.expects.discards_protocol {s : State} {d : StationIx} {role : Role} {a q kind : Byte}
    {payload : List Byte} (h : s.expects d role a q payload) (hc : contentOf kind payload = none) :
    s.discards d q none (s.takeFrame kind a q payload) := by
  have he : s.takeFrame kind a q payload = ((s.inSequence d q).protocolError d).endTurn := by
    rw [h.takeFrame_eq, State.takeContent, hc]
  rw [he]
  refine ⟨rfl, ?_, (congrArg Link.turn (Link.closeRound_frame _) :), rfl⟩
  refine (Link.closeRound_eq _).1.trans ?_
  simp [State.protocolError, State.modifyStation, Link.modifyStation, State.inSequence,
    Function.comp_def, Station.taken, countUp]
  rfl

theorem State.expects.discards_wrongRole {s : State} {d : StationIx} {role : Role} {a q kind : Byte}
    {payload : List Byte} {x : Content} (h : s.expects d role a q payload)
    (hc : contentOf kind payload = some x) (hx : x.allowed role = false) :
    s.discards d q (some (.refuse .wrongRole)) (s.takeFrame kind a q payload) := by
  have he : s.takeFrame kind a q payload =
      (((s.inSequence d q).protocolError d).answer d (.refuse .wrongRole)).endTurn := by
    rw [h.takeFrame_eq, State.takeContent, hc]
    exact congrArg State.endTurn (if_neg (by simp [hx]))
  rw [he]
  refine ⟨rfl, ?_, (congrArg Link.turn (Link.closeRound_frame _) :), rfl⟩
  refine (Link.closeRound_eq _).1.trans ?_
  simp [State.protocolError, State.answer, State.modifyStation, Link.modifyStation,
    State.inSequence, Function.comp_def, Station.taken, countUp]
  rfl

theorem State.expects.addressOk {s : State} {d : StationIx} {role : Role} {a q : Byte}
    {payload : List Byte} (h : s.expects d role a q payload) : addressOk a = true := by
  have := h.own
  have := d.isLt
  simp only [Sys2Proof.addressOk, decide_eq_true_eq]
  omega

/-- Settles O47: the content of the frame is none, or is not for the station's role. -/
theorem invalidKindIsAProtocolError : Obligations.InvalidKindIsAProtocolError := by
  intro s d role a q payload h discarded
  have protocol : ∀ (c : Instr) (kind : Byte), c.frame? = some (kind, a, q, payload) →
      contentOf kind payload = none → discarded c none :=
    fun c kind hf hc => ⟨_, exec_frame hf s, h.discards_protocol hc⟩
  have wrongRole : ∀ (c : Instr) (kind : Byte) (x : Content),
      c.frame? = some (kind, a, q, payload) → contentOf kind payload = some x →
      x.allowed role = false → discarded c (some (.refuse .wrongRole)) :=
    fun c kind x hf hc hx => ⟨_, exec_frame hf s, h.discards_wrongRole hc hx⟩
  have hask : contentOf 0x14 payload = askOf payload := rfl
  refine ⟨fun kind hk => protocol _ kind rfl (contentOf_none_of_kind hk _), fun c kind hf _ hwf => ?_,
    ?_, ?_⟩
  · refine protocol c kind hf ?_
    cases hc : contentOf kind payload with
    | none => rfl
    | some x =>
      obtain ⟨c', hf', hw⟩ := exists_wf_of_contentOf hc a q h.addressOk
      exact absurd hw (by rw [hwf c' hf']; decide)
  · rintro p rfl
    refine ⟨fun hl => ?_, fun hl hb => ?_, fun hl => ?_, fun hl hb => ?_⟩
    · have hl' : 9 ≤ payload.length ∧ payload.length ≤ 33 ∧ (payload.length - 9) % 3 = 0 := by
        simpa [tallyLengthOk] using hl
      exact wrongRole _ 0x11 _ rfl (if_pos hl') rfl
    · obtain ⟨k, hk⟩ : ∃ k, markKindOf (payload.getD 1 0) = some k := by
        rcases hb with e | e | e <;> rw [e] <;> exact ⟨_, rfl⟩
      refine wrongRole _ 0x12 (.mark k (countFrameOf payload 2 [] false)) rfl ((if_pos hl).trans ?_) rfl
      rw [hk]
      rfl
    · exact wrongRole _ 0x13 _ rfl (if_pos hl) rfl
    · exact wrongRole _ 0x14 .askSpec rfl (by rw [hask, askOf, hb, hl]; rfl) rfl
  · rintro i rfl
    refine ⟨fun hl hb => ?_, fun hl => ?_, fun hl => ?_⟩
    · exact wrongRole _ 0x14 .askNext rfl (by rw [hask, askOf, hb, hl]; rfl) rfl
    · exact wrongRole _ 0x15 _ rfl (if_pos hl) rfl
    · exact wrongRole _ 0x16 _ rfl (if_pos hl) rfl

/-! ## Failed exchanges (R156, R158, R161) -/

/-- R156, R157: the end of a turn, and of a round that has no turn left. -/
theorem State.endTurn_eq (s : State) : ∃ r, (r = s.link.round ∨ r = none) ∧
    s.endTurn = { s with link := { s.link with turn := none, round := r } } := by
  refine ⟨{ s.link with turn := none }.closeRound.round, ?_,
    congrArg (fun k => { s with link := k }) (Link.closeRound_frame _)⟩
  unfold Link.closeRound
  split
  · split
    · exact .inr rfl
    · exact .inl rfl
  · exact .inl rfl

theorem State.failExchange_hold {s : State} {t : Turn} {st : Station}
    (hst : s.link.stations[t.station] = some st) (hp : s.partState = .hold) :
    s.failExchange t = { s with link := { s.link with
      stations := s.link.stations.set t.station (some { st with repeatOwed := true }) } }.endTurn := by
  unfold State.failExchange
  simp only [State.modifyStation, modifyStation_some _ hst]
  simp [hp]

theorem State.failExchange_probe {s : State} {t : Turn} {st : Station}
    (hst : s.link.stations[t.station] = some st) (hp : s.partState = .ready)
    (hb : t.probe = true) :
    s.failExchange t = { s with link := { s.link with
      stations := s.link.stations.set t.station
        (some { st with repeatOwed := true, roundsSinceProbe := 0, probeDue := false }) } }.endTurn := by
  unfold State.failExchange
  simp only [State.modifyStation, modifyStation_some _ hst]
  simp [hp, hb, State.failedProbe, State.modifyStation, Link.modifyStation]

/-- R158: the last try of a turn counts a failure, which may isolate the station. -/
theorem State.failExchange_turn {s : State} {t : Turn} {st : Station}
    (hst : s.link.stations[t.station] = some st) (hp : s.partState = .ready)
    (hb : t.probe = false) (ht : s.settings.retryLimit < t.tries) :
    s.failExchange t =
      if isolates s.settings.isolationThreshold (min 255 (st.failures + 1)) then
        { s with
          works := s.works.ownerIsolated st.role,
          link := { s.link with
            stations := s.link.stations.set t.station (some
              { st with repeatOwed := true, failures := min 255 (st.failures + 1) }.isolate) } }.endTurn
      else { s with
        link := { s.link with
          stations := s.link.stations.set t.station (some
            { st with repeatOwed := true, failures := min 255 (st.failures + 1) }) } }.endTurn := by
  unfold State.failExchange
  simp only [State.modifyStation, modifyStation_some _ hst]
  simp [hp, hb, not_le.2 ht, State.failedTurn, State.modifyStation, Link.modifyStation,
    Config.byteLimit]

theorem isolates_iff (threshold n : Nat) :
    isolates threshold n = true ↔ 0 < threshold ∧ threshold ≤ n := by
  simp [isolates, Nat.pos_iff_ne_zero]

/-- R17, R158: an isolation suspends a line, unless it is IDLE. -/
theorem Works.suspendLine_eq (w : Works) (i : LineIx) : w.suspendLine i =
    w.modifyLine i fun l => if l.state = .idle then l else { l with suspended := true } := by
  refine congrArg (w.modifyLine i) (funext fun l => ?_)
  cases l.state <;> rfl

/-- R152, R156: the rows of a failed reception discard the frame. -/
theorem exec_discards {c : Instr} {s : State}
    (h : (c = .replyTimeout ∧ s.link.reception = none) ∨ c = .characterTimeout ∨
      (∃ x, c = .frameNotIntact x) ∨ c = .frameWrongAddress) :
    exec c s = .next s.discardFrame := by
  rcases h with ⟨rfl, hr⟩ | rfl | ⟨x, rfl⟩ | rfl
  · show Host.Outcome.next (if s.link.reception.isNone = true then _ else _) = _
    rw [hr]
    rfl
  · rfl
  · rfl
  · rfl

/-- Settles O35, by the branches of the failed exchange. -/
theorem failedExchangeRetriesOrIsolates : Obligations.FailedExchangeRetriesOrIsolates := by
  intro c s hc
  rw [exec_discards hc]
  refine ⟨fun h => by rw [State.discardFrame_none h], ?_⟩
  intro t st ht hd hst
  rw [State.discardFrame_some ht hd]
  intro ends
  have hst' : s.endReception.link.stations[t.station] = some st := hst
  have ended : ∀ (st' : Station) (w : Works),
      s.endReception.failExchange t = { s.endReception with
        works := w,
        link := { s.endReception.link with
          stations := s.link.stations.set t.station (some { st' with repeatOwed := true }) } }.endTurn → ends st' w := by
    intro st' w e
    obtain ⟨r, hr, he⟩ := State.endTurn_eq { s.endReception with
        works := w,
        link := { s.endReception.link with
          stations := s.link.stations.set t.station (some { st' with repeatOwed := true }) } }
    exact ⟨r, hr, congrArg Host.Outcome.next (e.trans he)⟩
  refine ⟨fun hp => ?_, fun hp hb => ?_, fun hp hb htr => ?_, fun hp hb htr => ⟨fun h => ?_, fun h0 h => ?_⟩⟩
  · exact ended _ _ (State.failExchange_hold hst' hp)
  · have he := State.failExchange_probe hst' hp hb
    exact ended { st with roundsSinceProbe := 0, probeDue := false } _ he
  · rw [State.failExchange_retry hst' hp hb htr]
    rfl
  · refine ended { st with failures := min 255 (st.failures + 1) } _
      ((State.failExchange_turn hst' hp hb htr).trans (if_neg ?_))
    rw [isolates_iff]
    show ¬ (0 < s.settings.isolationThreshold ∧ s.settings.isolationThreshold ≤ _)
    omega
  · have he := (State.failExchange_turn hst' hp hb htr).trans
      (if_pos ((isolates_iff _ _).2 ⟨h0, h⟩))
    have hend := ended { st with
        failures := min 255 (st.failures + 1), isolated := true, roundsSinceProbe := 0,
        probeDue := false, pending := none } _ he
    have hw : s.endReception.works.ownerIsolated st.role = s.works.ownerIsolated st.role := rfl
    rw [hw] at hend
    split
    · next p hr =>
      rwa [show s.works.ownerIsolated st.role = s.works by rw [hr]; rfl] at hend
    · next i hr =>
      rwa [show s.works.ownerIsolated st.role = s.works.suspendLine i by rw [hr]; rfl,
        Works.suspendLine_eq] at hend

/-! ## Frames by characters (R151, R152) -/

/-- R152: the state while the characters `bs` of a frame have been received. -/
def State.hearing (s : State) (bs : List Byte) : State :=
  { s with link := { s.link with reception := some bs } }

theorem execAll_characters (cs : List Byte) (s : State) :
    execAll (cs.map Instr.characterReceived) s = .next (cs.foldl State.receive s) := by
  induction cs generalizing s with
  | nil => rfl
  | cons c cs ih => exact ih (s.receive c)

/-- R152: a further character of a frame that is not complete with it. -/
theorem State.receive_more (s : State) (bs : List Byte) (c : Byte) (body rest : List Byte)
    (hb : body = bs ++ c :: rest) (hr : rest ≠ []) (hlen : body.length = (body.getD 3 0).toNat + 6)
    (hmax : (body.getD 3 0).toNat ≤ 48) :
    (s.hearing bs).receive c = s.hearing (bs ++ [c]) := by
  have hlt : (bs ++ [c]).length < body.length := by
    have := List.length_pos_of_ne_nil hr
    rw [hb]
    simp
    omega
  have hget : 4 ≤ (bs ++ [c]).length → (bs ++ [c]).getD 3 0 = body.getD 3 0 := by
    intro h4
    have hsplit : body = (bs ++ [c]) ++ rest := by rw [hb]; simp
    rw [hsplit, List.getD_append (bs ++ [c]) rest 0 3 h4]
  have hlong : ¬ ((bs ++ [c]).length = 4 ∧ Config.payloadLimit < ((bs ++ [c]).getD 3 0).toNat) := by
    rintro ⟨h4, hl⟩
    rw [hget h4.ge] at hl
    exact absurd hl (not_lt.2 hmax)
  have hdone : ¬ ((bs ++ [c]).length = ((bs ++ [c]).getD 3 0).toNat + 6 ∧ 4 ≤ (bs ++ [c]).length) := by
    rintro ⟨hl, h4⟩
    rw [hget h4, ← hlen] at hl
    exact absurd hl hlt.ne
  exact (if_neg hlong).trans (if_neg hdone)

/-- R152: the character that completes a frame. -/
theorem State.receive_last (s : State) (bs : List Byte) (c : Byte) (body : List Byte)
    (hb : body = bs ++ [c]) (hlen : body.length = (body.getD 3 0).toNat + 6) :
    (s.hearing bs).receive c = s.completeFrame body := by
  rw [hb] at hlen
  have hlong : ¬ ((bs ++ [c]).length = 4 ∧ Config.payloadLimit < ((bs ++ [c]).getD 3 0).toNat) := by
    omega
  have hdone : (bs ++ [c]).length = ((bs ++ [c]).getD 3 0).toNat + 6 ∧ 4 ≤ (bs ++ [c]).length :=
    ⟨hlen, by omega⟩
  rw [hb]
  exact (if_neg hlong).trans (if_pos hdone)

/-- R152: the rest of a frame, received after its first characters, completes it. -/
theorem State.receive_rest (s : State) (body : List Byte)
    (hlen : body.length = (body.getD 3 0).toNat + 6) (hmax : (body.getD 3 0).toNat ≤ 48)
    (rest : List Byte) : ∀ bs, body = bs ++ rest → rest ≠ [] →
    rest.foldl State.receive (s.hearing bs) = s.completeFrame body := by
  induction rest with
  | nil => exact fun _ _ h => absurd rfl h
  | cons c rest ih =>
    intro bs hb _
    rw [List.foldl_cons]
    by_cases hr : rest = []
    · rw [hr] at hb ⊢
      exact s.receive_last bs c body hb hlen
    · rw [s.receive_more bs c body rest hb hr hlen hmax]
      exact ih (bs ++ [c]) (by rw [hb]; simp) hr

/-- R152: a body followed by its CRC is intact. -/
theorem frameIntact_crc (body : List Byte) :
    frameIntact (body ++ toBytes 2 (crc16 body).toNat) = true := by
  simp [frameIntact]

/-- Settles O37: the characters are collected up to the last, which takes the frame. -/
theorem charactersDeliverTheirFrame : Obligations.CharactersDeliverTheirFrame := by
  intro s address kind sequence payload hr hmax
  let head := [address, kind, sequence, BitVec.ofNat 8 payload.length] ++ payload
  let body := head ++ toBytes 2 (crc16 head).toNat
  have hframe : frameBytes address.toNat kind sequence payload = 0xA5 :: body := by
    simp [frameBytes, body, head]
  have hget : (body.getD 3 0).toNat = payload.length := by
    show (BitVec.ofNat 8 payload.length).toNat = _
    rw [BitVec.toNat_ofNat]
    omega
  have hlen : body.length = (body.getD 3 0).toNat + 6 := by
    rw [hget]
    simp [body, head]
  have hpayload : (body.drop 4).take (body.length - 6) = payload := by
    rw [hlen, hget, Nat.add_sub_cancel]
    show (payload ++ _).take _ = _
    simp
  rw [hframe, execAll_characters, List.foldl_cons]
  have hstart : s.receive 0xA5 = s.hearing [] := by
    simp only [State.receive, hr, if_true]
    rfl
  rw [hstart, s.receive_rest body hlen (by omega) body [] rfl (by simp [body, head])]
  show Host.Outcome.next (if frameIntact body = true then
    s.takeFrame kind address sequence ((body.drop 4).take (body.length - 6)) else _) = _
  rw [if_pos (frameIntact_crc head), hpayload]
  rfl

end Sys2Proof.Machine
end

section
namespace Sys2Proof.Machine

/-! # What every frame of a polled station does (R142, R157 to R160) -/

/-- R157 to R160: what a successful exchange does before its turn goes on or ends. -/
def State.dealt (s : State) (d : StationIx) (st : Station) (kind q : Byte) (payload : List Byte) :
    State :=
  let finding := st.heard.sequenceFinding q
  let s1 := (s.exchangeSucceeds d st).checkSequence d st.role q finding
  if goesOn finding kind then s1.takeContent d st.role kind payload else s1

theorem State.takeReply_eq (s : State) (t : Turn) (st : Station) (kind q : Byte)
    (payload : List Byte) : s.takeReply t st kind q payload =
      (s.dealt t.station st kind q payload).afterFrame t (moreOf payload) := rfl

/-- R152, R157: the frame of the polled station is taken as its reply. -/
theorem State.takeFrame_reply {s : State} {t : Turn} {st : Station} {kind a q : Byte}
    {payload : List Byte} (ht : s.link.turn = some t) (hp : t.phase ≠ .due)
    (ha : a.toNat = t.station.val + 1) (hl : payload.length ≤ 48)
    (hst : s.link.stations[t.station] = some st) :
    s.takeFrame kind a q payload =
      (s.endReception.dealt t.station st kind q payload).afterFrame t (moreOf payload) := by
  rw [← State.takeReply_eq]
  unfold State.takeFrame
  rw [Link.outstanding?_some ht hp]
  dsimp only
  rw [if_pos ⟨ha, hl⟩, hst]

/-- Two exchanges that leave the same state, in sequence, do the same. -/
theorem State.dealt_congr {s s' : State} {d : StationIx} {st st' : Station} {kind q : Byte}
    {payload : List Byte} (hrole : st'.role = st.role)
    (hgo : goesOn (st.heard.sequenceFinding q) kind = true)
    (hgo' : goesOn (st'.heard.sequenceFinding q) kind = true)
    (hchecked : (s.exchangeSucceeds d st).checkSequence d st.role q (st.heard.sequenceFinding q) =
      (s'.exchangeSucceeds d st').checkSequence d st'.role q (st'.heard.sequenceFinding q)) :
    s.dealt d st kind q payload = s'.dealt d st' kind q payload := by
  simp only [State.dealt, hgo, hgo', if_true]
  rw [hchecked, hrole]

/-! ## The turn and the round stay aside -/

/-- The state with another turn. -/
def State.withTurn (s : State) (x : Option Turn) : State :=
  { s with link := { s.link with turn := x } }

theorem State.exchangeSucceeds_withTurn (s : State) (x : Option Turn) (d : StationIx) (st : Station) :
    (s.withTurn x).exchangeSucceeds d st = (s.exchangeSucceeds d st).withTurn x := by
  simp only [State.exchangeSucceeds]
  split <;> rfl

theorem State.checkSequence_withTurn (s : State) (x : Option Turn) (d : StationIx) (role : Role)
    (q : Byte) (f : SequenceFinding) :
    (s.withTurn x).checkSequence d role q f = (s.checkSequence d role q f).withTurn x := by
  cases f <;> rfl

theorem State.passFrame_withTurn (s : State) (x : Option Turn) (d : StationIx) (role : Role)
    (c : Content) : (s.withTurn x).passFrame d role c = (s.passFrame d role c).withTurn x := by
  cases role <;> cases c <;> try rfl
  case line.cutDone i f =>
    show (if (s.works.cutDone s.settings.slipPermille i f).2 = true then _ else _) =
      State.withTurn (if (s.works.cutDone s.settings.slipPermille i f).2 = true then _ else _) x
    split <;> rfl

theorem State.takeContent_withTurn (s : State) (x : Option Turn) (d : StationIx) (role : Role)
    (kind : Byte) (payload : List Byte) :
    (s.withTurn x).takeContent d role kind payload =
      (s.takeContent d role kind payload).withTurn x := by
  unfold State.takeContent
  cases contentOf kind payload with
  | none => rfl
  | some c =>
    dsimp only
    split
    · exact s.passFrame_withTurn x d role c
    · rfl

theorem State.dealt_withTurn (s : State) (x : Option Turn) (d : StationIx) (st : Station)
    (kind q : Byte) (payload : List Byte) :
    (s.withTurn x).dealt d st kind q payload = (s.dealt d st kind q payload).withTurn x := by
  simp only [State.dealt, State.exchangeSucceeds_withTurn, State.checkSequence_withTurn,
    State.takeContent_withTurn]
  split <;> rfl

/-- The parts of the link that a frame reaches: the contexts of the stations. -/
def Link.sameBut (k k' : Link) : Prop := k' = { k with stations := k'.stations }

theorem State.passFrame_link (s : State) (d : StationIx) (role : Role) (c : Content) :
    s.link.sameBut (s.passFrame d role c).link := by
  unfold State.passFrame
  split <;> try rfl
  dsimp only
  split <;> rfl

theorem State.takeContent_link (s : State) (d : StationIx) (role : Role) (kind : Byte)
    (payload : List Byte) : s.link.sameBut (s.takeContent d role kind payload).link := by
  rcases State.takeContent_cases s d role kind payload with ⟨-, h⟩ | ⟨c, -, ⟨-, h⟩ | ⟨-, h⟩⟩ <;> rw [h]
  · rfl
  · exact s.passFrame_link d role c
  · rfl

theorem State.exchangeSucceeds_link (s : State) (d : StationIx) (st : Station) :
    s.link.sameBut (s.exchangeSucceeds d st).link := by
  simp only [State.exchangeSucceeds]
  split <;> rfl

theorem State.checkSequence_link (s : State) (d : StationIx) (role : Role) (q : Byte)
    (f : SequenceFinding) : s.link.sameBut (s.checkSequence d role q f).link := by
  cases f <;> rfl

theorem Link.sameBut.trans {k k' k'' : Link} (h : k.sameBut k') (h' : k'.sameBut k'') :
    k.sameBut k'' := by
  unfold Link.sameBut at *
  rw [h', h]

theorem State.dealt_link (s : State) (d : StationIx) (st : Station) (kind q : Byte)
    (payload : List Byte) : s.link.sameBut (s.dealt d st kind q payload).link := by
  have h := (s.exchangeSucceeds_link d st).trans
    (State.checkSequence_link _ d st.role q (st.heard.sequenceFinding q))
  simp only [State.dealt]
  split
  · exact h.trans (State.takeContent_link _ _ _ _ _)
  · exact h

theorem State.dealt_sameAside (s : State) (d : StationIx) (st : Station) (kind q : Byte)
    (payload : List Byte) : s.sameAside (s.dealt d st kind q payload) := by
  have h := (s.exchangeSucceeds_sameAside d st).trans
    (State.checkSequence_sameAside _ d st.role q (st.heard.sequenceFinding q))
  simp only [State.dealt]
  split
  · exact h.trans (State.takeContent_sameAside _ _ _ _ _)
  · exact h

/-! ## The sequence check (R159) -/

/-- R157: a successful exchange of an ACTIVE station changes its context alone. -/
theorem State.exchangeSucceeds_active {s : State} {d : StationIx} {st : Station}
    (hst : s.link.stations[d] = some st) (hi : st.isolated = false) :
    s.exchangeSucceeds d st = { s with link := { s.link with
      stations := s.link.stations.set d (some st.heard) } } := by
  simp [State.exchangeSucceeds, hi, State.modifyStation, modifyStation_some _ hst]

theorem Station.heard_active {st : Station} (hi : st.isolated = false) :
    st.heard = { st with failures := 0, repeatOwed := false, pending := none } := by
  simp [Station.heard, hi]

theorem Station.sequenceFinding_duplicate {st : Station} {x q : Byte} (he : st.expected = some x)
    (hx : x ≠ q) (hl : st.last = some q) : st.sequenceFinding q = .duplicate := by
  simp [Station.sequenceFinding, he, hx, hl]

theorem Station.sequenceFinding_gap {st : Station} {x q : Byte} (he : st.expected = some x)
    (hx : x ≠ q) (hl : st.last ≠ some q) : st.sequenceFinding q = .gap := by
  simp [Station.sequenceFinding, he, hx, hl]

theorem Station.sequenceFinding_accepted {st : Station} {q : Byte}
    (he : st.expected = none ∨ st.expected = some q) : st.sequenceFinding q = .accepted :=
  if_pos he

/-- R158: the reply of an ISOLATED station does what it does of the station reinstated. -/
theorem State.dealt_isolated {s : State} {d : StationIx} {st : Station} (kind q : Byte)
    (payload : List Byte) (hst : s.link.stations[d] = some st) (hi : st.isolated = true) :
    let st' := { st with
      isolated := false, failures := 0, expected := none, last := none, probeDue := false }
    s.dealt d st kind q payload =
      State.dealt { s with
        works := (s.works.ownerReinstated st.role).raiseStation d Bit.reinstated,
        link := { s.link with stations := s.link.stations.set d (some st') } } d st' kind q
          payload := by
  intro st'
  have hh : st.heard = st'.heard := by simp [Station.heard, hi, st']
  have hf : st'.heard.sequenceFinding q = .accepted :=
    Station.sequenceFinding_accepted (.inl rfl)
  refine State.dealt_congr rfl (by rw [hh, hf]; rfl) (by rw [hf]; rfl) ?_
  have hs' : ∀ k : Link, k.stations = s.link.stations.set d (some st') →
      k.stations[d] = some st' := fun k hk => by rw [hk]; simp
  rw [hh, hf, State.exchangeSucceeds_active (hs' _ rfl) rfl]
  simp [State.exchangeSucceeds, hi, State.modifyStation, modifyStation_some _ hst, hh,
    State.checkSequence]

/-- R159: a repeated TALLY or IDLE does what it does with the sequence expected. -/
theorem State.dealt_repeated {s : State} {d : StationIx} {st : Station} {kind q : Byte}
    (payload : List Byte) (hst : s.link.stations[d] = some st) (hi : st.isolated = false)
    (he : st.expected = some (q + 1)) (hx : q + 1 ≠ q) (hl : st.last = some q)
    (hk : kind = 0x10 ∨ kind = 0x11) :
    let st' := { st with expected := some q }
    s.dealt d st kind q payload =
      State.dealt { s with link := { s.link with stations := s.link.stations.set d (some st') } } d
        st' kind q payload := by
  intro st'
  have hh := Station.heard_active hi
  have hh' : st'.heard = { st' with failures := 0, repeatOwed := false, pending := none } :=
    Station.heard_active hi
  have hf : st.heard.sequenceFinding q = .duplicate := by
    rw [hh]; exact Station.sequenceFinding_duplicate he hx hl
  have hf' : st'.heard.sequenceFinding q = .accepted := by
    rw [hh']; exact Station.sequenceFinding_accepted (.inr rfl)
  have hgo : goesOn .duplicate kind = true := by rcases hk with rfl | rfl <;> rfl
  refine State.dealt_congr rfl (by rw [hf]; exact hgo) (by rw [hf']; rfl) ?_
  have hs' : ∀ k : Link, k.stations = s.link.stations.set d (some st') →
      k.stations[d] = some st' := fun k hk => by rw [hk]; simp
  have hseq : st.heard = st'.heard.sequenced q := by
    rw [hh, hh', Station.sequenced, ← he, ← hl]
  rw [hf, hf', State.exchangeSucceeds_active hst hi, State.exchangeSucceeds_active (hs' _ rfl) hi,
    hseq]
  simp [State.checkSequence, State.modifyStation, Link.modifyStation]

/-- R159: a duplicate that is no TALLY or IDLE is dropped. -/
theorem State.dealt_duplicate {s : State} {d : StationIx} {st : Station} {x kind q : Byte}
    (payload : List Byte) (hst : s.link.stations[d] = some st) (hi : st.isolated = false)
    (he : st.expected = some x) (hx : x ≠ q) (hl : st.last = some q) (h10 : kind ≠ 0x10)
    (h11 : kind ≠ 0x11) :
    s.dealt d st kind q payload = { s with link := { s.link with
      stations := s.link.stations.set d
        (some { st with failures := 0, repeatOwed := false, pending := none }) } } := by
  have hh := Station.heard_active hi
  have hf : st.heard.sequenceFinding q = .duplicate := by
    rw [hh]; exact Station.sequenceFinding_duplicate he hx hl
  have hgo : goesOn .duplicate kind = false := by
    show (decide (kind = 0x11) || decide (kind = 0x10)) = false
    rw [decide_eq_false h11, decide_eq_false h10]
    rfl
  simp only [State.dealt, hf, hgo]
  rw [State.exchangeSucceeds_active hst hi, hh]
  rfl

/-- R16, R159: a gap is counted, and the frame does what it does with its sequence expected. -/
theorem State.dealt_gap {s : State} {d : StationIx} {st : Station} {x q : Byte} (kind : Byte)
    (payload : List Byte) (hst : s.link.stations[d] = some st) (hi : st.isolated = false)
    (he : st.expected = some x) (hx : x ≠ q) (hl : st.last ≠ some q) :
    let st' := { st with expected := some q, sequenceGaps := min 65535 (st.sequenceGaps + 1) }
    s.dealt d st kind q payload =
      State.dealt { s with
        works := (s.works.raiseStation d Bit.seqGap).countGap st.role,
        link := { s.link with stations := s.link.stations.set d (some st') } } d st' kind q
          payload := by
  intro st'
  have hh := Station.heard_active hi
  have hh' : st'.heard = { st' with failures := 0, repeatOwed := false, pending := none } :=
    Station.heard_active hi
  have hf : st.heard.sequenceFinding q = .gap := by
    rw [hh]; exact Station.sequenceFinding_gap he hx hl
  have hf' : st'.heard.sequenceFinding q = .accepted := by
    rw [hh']; exact Station.sequenceFinding_accepted (.inr rfl)
  refine State.dealt_congr rfl (by rw [hf]; rfl) (by rw [hf']; rfl) ?_
  have hs' : ∀ k : Link, k.stations = s.link.stations.set d (some st') →
      k.stations[d] = some st' := fun k hk => by rw [hk]; simp
  rw [hf, hf', State.exchangeSucceeds_active hst hi, State.exchangeSucceeds_active (hs' _ rfl) hi]
  simp [State.checkSequence, State.modifyStation, Link.modifyStation, hh, hh', Station.sequenced,
    st', countUp, Config.counterLimit]

/-! ## Lookups (R142, R160) -/

/-- R160: a frame that is due whose content is allowed. -/
theorem State.expects.takeFrame_content {s : State} {d : StationIx} {role : Role} {a q kind : Byte}
    {payload : List Byte} {x : Content} (h : s.expects d role a q payload)
    (hc : contentOf kind payload = some x) (hx : x.allowed role = true) :
    s.takeFrame kind a q payload = ((s.inSequence d q).passFrame d role x).endTurn := by
  rw [h.takeFrame_eq, State.takeContent, hc]
  exact congrArg State.endTurn (if_pos hx)

theorem State.expects.takeFrame_answer {s : State} {d : StationIx} {role : Role} {a q kind : Byte}
    {payload : List Byte} {x : Content} {answer : Answer} (h : s.expects d role a q payload)
    (hc : contentOf kind payload = some x) (hx : x.allowed role = true)
    (hp : (s.inSequence d q).passFrame d role x = (s.inSequence d q).answer d answer) :
    s.takeFrame kind a q payload = s.afterReply d q (some answer) s.works := by
  rw [h.takeFrame_content hc hx, hp]
  exact s.inSequence_answer d q s.works answer

/-- R160: a frame that is due, with no answer left. -/
theorem State.inSequence_works (s : State) (d : StationIx) (q : Byte) (w : Works) :
    ({ s.inSequence d q with works := w } : State).endTurn = s.afterReply d q none w := rfl

theorem Line.specAnswer_eq (l : Line) : l.specAnswer =
    if l.state = .idle then .refuse .notFound else .spec l.revision l.spec := by
  unfold Line.specAnswer
  cases l.state <;> rfl

/-- R142, R160: the lookups, an IDLE frame, and what they answer. -/
theorem idleAndLookups_answered (s : State) (d : StationIx) (role : Role) (a q : Byte)
    (payload : List Byte) (h : s.expects d role a q payload) :
    (payload.length = 1 →
      exec (.idle a q payload) s = .next (s.afterReply d q none s.works)) ∧
    (∀ i, role = .line i → payload.length = 2 → payload.getD 1 0 = 1 →
      exec (.askSpec a q payload) s = .next (s.afterReply d q
        (some (if (s.works.line i).state = .idle then .refuse .notFound
          else .spec (s.works.line i).revision (s.works.line i).spec)) s.works)) ∧
    (∀ p, role = .packer p → payload.length = 2 → payload.getD 1 0 = 2 →
      exec (.askNext a q payload) s =
        .next (s.afterReply d q (some (s.works.askNext p)) s.works)) ∧
    (payload.length = 6 → payload.getD 1 0 = 3 →
      exec (.askCoil a q payload) s = .next (s.afterReply d q
        (some (s.works.answerFor (keyAt payload 2))) s.works)) := by
  have hask : contentOf 0x14 payload = askOf payload := rfl
  refine ⟨fun hl => ?_, ?_, ?_, fun hl hb => ?_⟩
  · rw [exec_frame rfl, h.takeFrame_content (kind := 0x10) (x := .idle) (if_pos hl) rfl]
    have hp : (s.inSequence d q).passFrame d role .idle = s.inSequence d q := by
      unfold State.passFrame; rfl
    rw [hp]
    rfl
  · rintro i rfl hl hb
    rw [exec_frame rfl, h.takeFrame_answer (x := .askSpec) (by rw [hask, askOf, hb, hl]; rfl) rfl rfl]
    rw [Line.specAnswer_eq]
    rfl
  · rintro p rfl hl hb
    rw [exec_frame rfl, h.takeFrame_answer (x := .askNext) (by rw [hask, askOf, hb, hl]; rfl) rfl rfl]
    rfl
  · rw [exec_frame rfl, h.takeFrame_answer (x := .askCoil (keyAt payload 2))
      (by rw [hask, askOf, hb, hl]; rfl) rfl rfl]
    rfl

/-! ## Extra exchanges (R157, R161) -/

theorem State.afterFrame_more {s : State} {t : Turn} (hx : t.extras < 3)
    (hp : s.partState = .ready) : s.afterFrame t true = s.withTurn (some
      { t with probe := false, tries := 0, extras := t.extras + 1, phase := .due }) :=
  if_pos ⟨rfl, hx, hp⟩

theorem State.afterFrame_end {s : State} {t : Turn} {more : Bool}
    (h : ¬ (more = true ∧ t.extras < 3 ∧ s.partState = .ready)) : s.afterFrame t more = s.endTurn :=
  if_neg h

theorem State.endTurn_turn (s : State) : s.endTurn.link.turn = none := by
  obtain ⟨r, -, h⟩ := s.endTurn_eq
  rw [h]

/-- R157: MORE in READY keeps the turn for an extra exchange; the frame has the effect that it has
when no extra exchange is left. -/
theorem State.takeFrame_more {s : State} {t : Turn} {st : Station} {kind a q : Byte}
    {payload : List Byte} (ht : s.link.turn = some t) (hp : t.phase ≠ .due)
    (ha : a.toNat = t.station.val + 1) (hl : payload.length ≤ 48)
    (hst : s.link.stations[t.station] = some st)
    (hmore : moreOf payload = true ∧ t.extras < 3 ∧ s.partState = .ready) :
    let u := (s.withTurn (some { t with extras := 3 })).takeFrame kind a q payload
    s.takeFrame kind a q payload = { u with
      link := { u.link with
        turn := some { t with probe := false, tries := 0, extras := t.extras + 1, phase := .due },
        round := s.link.round } } := by
  intro u
  let x := s.endReception.dealt t.station st kind q payload
  have hside : s.endReception.sameAside x := State.dealt_sameAside _ _ _ _ _ _
  have hlink : s.endReception.link.sameBut x.link := State.dealt_link _ _ _ _ _ _
  have hround : x.link.round = s.link.round := by rw [hlink]; rfl
  have hu : u = (x.withTurn (some { t with extras := 3 })).endTurn := by
    have hr := State.takeFrame_reply (s := s.withTurn (some { t with extras := 3 })) (st := st)
      (kind := kind) (q := q) (t := { t with extras := 3 }) rfl hp ha hl hst
    refine hr.trans ((State.afterFrame_end fun h => absurd h.2.1 (lt_irrefl 3)).trans ?_)
    exact congrArg State.endTurn (State.dealt_withTurn s.endReception _ _ _ _ _ _)
  obtain ⟨r, -, he⟩ := (x.withTurn (some { t with extras := 3 })).endTurn_eq
  rw [hu, he, State.takeFrame_reply ht hp ha hl hst, hmore.1,
    State.afterFrame_more hmore.2.1 (hside.partState.trans hmore.2.2), ← hround]
  rfl

/-- Settles O38: the lookups one by one, and a frame of any kind by its finding. -/
theorem idleAndLookupsAreAnswered : Obligations.IdleAndLookupsAreAnswered := by
  refine ⟨fun s d role a q payload h => ?_, ?_⟩
  · obtain ⟨hidle, hspec, hnext, hcoil⟩ := idleAndLookups_answered s d role a q payload h
    refine ⟨hidle, hspec, fun p hr hl hb hq => ?_, fun p k rest c hr hl hb hq hk => ?_,
      fun hl hb => ?_⟩
    · rw [hnext p hr hl hb, Works.askNext, hq]
      rfl
    · rw [hnext p hr hl hb, Works.askNext, hq]
      show Host.Outcome.next (s.afterReply d q (some (s.works.answerFor k)) s.works) = _
      rw [Works.answerFor, hk]
    · refine (hcoil hl hb).trans ?_
      unfold Works.answerFor
      cases s.works.coil? (keyAt payload 2) <;> rfl
  · intro c kind a q payload s t st hf ht hp ha hl hst station more
    have hexec : ∀ s', exec c s' = .next (s'.takeFrame kind a q payload) := exec_frame hf
    have hreply := State.takeFrame_reply (q := q) (kind := kind) ht hp ha hl hst
    have same : ∀ (w : Works) (st' : Station),
        s.endReception.dealt t.station st kind q payload =
          State.dealt { s.endReception with
            works := w,
            link := { s.endReception.link with stations := station st' } } t.station st' kind q
              payload →
        exec c s = exec c { s with works := w, link := { s.link with stations := station st' } } := by
      intro w st' e
      rw [hexec, hexec, hreply, e]
      exact congrArg _ (State.takeFrame_reply (q := q) (kind := kind)
        (s := { s with works := w, link := { s.link with stations := station st' } })
        ht hp ha hl (by simp [station])).symm
    have hside := s.endReception.dealt_sameAside t.station st kind q payload
    have hends : ¬ more → s.takeFrame kind a q payload =
        (s.endReception.dealt t.station st kind q payload).endTurn := fun hno =>
      hreply.trans (State.afterFrame_end fun ⟨h1, h2, h3⟩ =>
        hno ⟨h1, h2, hside.partState.symm.trans h3⟩)
    have hst' : s.endReception.link.stations[t.station] = some st := hst
    refine ⟨fun hi => ?_, fun x hi he hx hlast => ⟨fun h10 h11 hno => ?_, fun hk hxq => ?_⟩,
      fun x hi he hx hlast => ?_, fun hm => ?_, fun hno => ?_⟩
    · refine (same _ _ (State.dealt_isolated kind q payload hst' hi)).trans ?_
      cases st.role <;> rfl
    · rw [hexec, hends hno, State.dealt_duplicate payload hst' hi he hx hlast h10 h11]
      rfl
    · subst hxq
      exact same _ _ (State.dealt_repeated payload hst' hi he hx hlast hk)
    · refine (same _ _ (State.dealt_gap kind payload hst' hi he hx hlast)).trans ?_
      cases st.role <;> rfl
    · exact ⟨_, hexec _, (hexec s).trans (congrArg _ (State.takeFrame_more ht hp ha hl hst hm))⟩
    · refine ⟨_, hexec s, ?_⟩
      rw [hends hno]
      exact State.endTurn_turn _

end Sys2Proof.Machine
end

section
namespace Sys2Proof.Machine

/-! # Host commands on lots, lines and coils (R4, R5, R14, R24, R107, R146) -/

theorem Works.lot?_modifyLot (w : Works) (n n' : Nat) (f : Lot → Lot)
    (hf : ∀ l, (f l).number = l.number) :
    (w.modifyLot n f).lot? n' = (w.lot? n').map fun l => if l.number = n then f l else l := by
  have hnum : ∀ l : Lot, (if l.number = n then f l else l).number = l.number := by
    intro l; split
    · exact hf l
    · rfl
  simp only [Works.lot?, Works.modifyLot, inUse_mapTable, List.find?_map, Function.comp_def, hnum]

theorem Works.lot?_modifyLot_self {w : Works} {n : Nat} {f : Lot → Lot} {l : Lot}
    (hf : ∀ l, (f l).number = l.number) (h : w.lot? n = some l) :
    (w.modifyLot n f).lot? n = some (f l) := by
  rw [Works.lot?_modifyLot w n n f hf, h, Option.map_some, if_pos (Works.lot?_some w n l h).2]

theorem Works.lot?_congr {w w' : Works} (h : w'.lots = w.lots) (n : Nat) : w'.lot? n = w.lot? n := by
  rw [Works.lot?, h]; rfl

theorem Works.coil?_congr {w w' : Works} (h : w'.coils = w.coils) (k : CoilKey) :
    w'.coil? k = w.coil? k := by
  rw [Works.coil?, h]; rfl

/-! ## LOT_AMEND (R4, R5, R99) -/

/-- R5: what an amendment leaves of a line. -/
def Line.amended (l : Line) (n : Nat) (lot : Lot) : Line :=
  if l.lot = some n then
    match l.state with
    | .idle => l
    | .primed | .starved =>
      { l with spec := lot.spec, revision := lot.revision, amendPending := false }
    | .running | .releasing => { l with amendPending := true }
  else l

/-- R5, R99: whether an amendment revises the coil of a key by the line `l`. -/
def Line.revises (l : Line) (n : Nat) (k : CoilKey) : Bool :=
  decide (l.lot = some n ∧ l.state = .primed ∧ l.coil = some k)

/-- R5, R99: what an amendment that has reached the lines of a list leaves. -/
structure Works.amendedBy (w w' : Works) (n : Nat) (lot : Lot) (reached : List LineIx) : Prop where
  lots : w'.lots = w.lots
  line : ∀ j, w'.line j = if j ∈ reached then (w.line j).amended n lot else w.line j
  coil : ∀ k, w'.coil? k = (w.coil? k).map fun c =>
    if reached.any fun i => (w.line i).revises n k then
      { c with revision := lot.revision, limits := lot.spec.limits }
    else c
  aside : w'.waitList = w.waitList ∧ w'.lanes = w.lanes ∧ w'.queues = w.queues ∧
    w'.held = w.held ∧ w'.notices = w.notices

theorem Works.copySpec_of_lot {w : Works} {i : LineIx} {n : Nat} {lot : Lot}
    (hi : (w.line i).lot = some n) (hl : w.lot? n = some lot) :
    w.copySpec i = w.modifyLine i fun l =>
      { l with spec := lot.spec, revision := lot.revision, amendPending := false } := by
  have hb : (w.line i).lot.bind w.lot? = some lot := by rw [hi]; exact hl
  unfold Works.copySpec
  rw [hb]

/-- R5: an amendment reaches one line. -/
theorem Works.amendLine_amendedBy {w : Works} {n : Nat} {lot : Lot} (hl : w.lot? n = some lot)
    (i : LineIx) : w.amendedBy (w.amendLine n i) n lot [i] := by
  have unmoved : (w.line i).amended n lot = w.line i → (∀ k, (w.line i).revises n k = false) →
      w.amendedBy w n lot [i] := by
    intro hline hno
    refine ⟨rfl, fun j => ?_, fun k => ?_, rfl, rfl, rfl, rfl, rfl⟩
    · by_cases hj : j = i
      · subst hj; simp [hline]
      · simp [hj]
    · simp [hno k]
  have moved : ∀ f : Line → Line, (∀ k, (w.line i).revises n k = false) →
      (w.line i).amended n lot = f (w.line i) → w.amendedBy (w.modifyLine i f) n lot [i] := by
    intro f hno hline
    refine ⟨rfl, fun j => ?_, fun k => ?_, rfl, rfl, rfl, rfl, rfl⟩
    · rw [Works.line_modifyLine]
      by_cases hj : j = i
      · subst hj; simp [hline]
      · simp [hj]
    · rw [Works.coil?_congr (Works.modifyLine_coils w i f)]
      simp [hno k]
  unfold Works.amendLine
  by_cases hi : (w.line i).lot = some n
  · rw [if_pos hi]
    cases hs : (w.line i).state with
    | idle => exact unmoved (by simp [Line.amended, hi, hs]) fun k => by simp [Line.revises, hs]
    | starved =>
      dsimp only
      rw [Works.copySpec_of_lot hi hl]
      exact moved _ (fun k => by simp [Line.revises, hs]) (by simp [Line.amended, hi, hs])
    | running => exact moved _ (fun k => by simp [Line.revises, hs]) (by simp [Line.amended, hi, hs])
    | releasing => exact moved _ (fun k => by simp [Line.revises, hs]) (by simp [Line.amended, hi, hs])
    | primed =>
      dsimp only
      rw [Works.copySpec_of_lot hi hl]
      unfold Works.reviseCoil
      have hline : ∀ j, (w.modifyLine i fun l =>
          { l with spec := lot.spec, revision := lot.revision, amendPending := false }).line j =
          if j ∈ [i] then (w.line j).amended n lot else w.line j := by
        intro j
        rw [Works.line_modifyLine]
        by_cases hj : j = i
        · subst hj; simp [Line.amended, hi, hs]
        · simp [hj]
      rw [Works.line_modifyLine_self]
      cases hk : (w.line i).coil with
      | none =>
        refine ⟨rfl, hline, fun k => ?_, rfl, rfl, rfl, rfl, rfl⟩
        rw [Works.coil?_congr (Works.modifyLine_coils w i _)]
        simp [Line.revises, hk]
      | some k0 =>
        refine ⟨rfl, hline, fun k => ?_, rfl, rfl, rfl, rfl, rfl⟩
        dsimp only
        rw [Works.coil?_modifyCoil _ k0 k
            (fun c => { c with revision := lot.revision, limits := lot.spec.limits }) (fun _ => rfl),
          Works.coil?_congr (Works.modifyLine_coils w i _)]
        cases hc : w.coil? k with
        | none => rfl
        | some c =>
          have hck := (Works.coil?_some w k c hc).2
          simp [Line.revises, hi, hs, hk, hck, eq_comm]
  · rw [if_neg hi]
    exact unmoved (if_neg hi) fun k => by simp [Line.revises, hi]

/-- R5: an amendment reaches the lines of a list, one after the other. -/
theorem Works.foldl_amendLine {n : Nat} {lot : Lot} (is : List LineIx) (hnd : is.Nodup) :
    ∀ w : Works, w.lot? n = some lot →
      w.amendedBy (is.foldl (fun w i => w.amendLine n i) w) n lot is := by
  induction is with
  | nil => exact fun w _ => ⟨rfl, fun j => by simp, fun k => by simp, rfl, rfl, rfl, rfl, rfl⟩
  | cons i is ih =>
    intro w hl
    obtain ⟨hi, hnd'⟩ := List.nodup_cons.1 hnd
    have h1 := Works.amendLine_amendedBy hl i
    have h2 := ih hnd' (w.amendLine n i) ((Works.lot?_congr h1.lots n).trans hl)
    have hother : ∀ j ∈ is, (w.amendLine n i).line j = w.line j := by
      intro j hj
      rw [h1.line, if_neg]
      rintro hji
      rw [List.mem_singleton] at hji
      exact hi (hji ▸ hj)
    obtain ⟨a1, a2, a3, a4, a5⟩ := h1.aside
    obtain ⟨b1, b2, b3, b4, b5⟩ := h2.aside
    refine ⟨h2.lots.trans h1.lots, fun j => ?_, fun k => ?_, b1.trans a1, b2.trans a2, b3.trans a3,
      b4.trans a4, b5.trans a5⟩
    · rw [List.foldl_cons, h2.line]
      by_cases hj : j ∈ is
      · rw [if_pos hj, if_pos (List.mem_cons_of_mem _ hj), hother j hj]
      · rw [if_neg hj, h1.line]
        simp [hj]
    · have hany : (is.any fun j => ((w.amendLine n i).line j).revises n k) =
          is.any fun j => (w.line j).revises n k := by
        rw [Bool.eq_iff_iff, List.any_eq_true, List.any_eq_true]
        exact exists_congr fun j => and_congr_right fun hj => by rw [hother j hj]
      rw [List.foldl_cons, h2.coil, h1.coil, Option.map_map, hany]
      congr 1
      funext c
      cases h1 : (w.line i).revises n k <;> cases h2 : is.any fun j => (w.line j).revises n k <;>
        simp [h1, h2]

/-- R4: the first check of LOT_AMEND that refuses it. -/
def Works.amendRefusal (w : Works) (n : Nat) (sp : Spec) : Option Status :=
  match w.lot? n with
  | none => some .unknownLot
  | some lot =>
    if lot.state = .closed then some .wrongState
    else if (sp.kind = .laid ∨ sp.kind = .net) ∧ sp.kind ≠ lot.spec.kind then some .wrongKind
    else if sp.inRange = false then some .outOfRange
    else if 255 ≤ lot.revision then some .revisionLimit
    else none

theorem State.lotAmend_eq (s : State) (n : Nat) (sp : Spec) : s.lotAmend n sp =
    match s.works.amendRefusal n sp with
    | some st => s.respond st
    | none => s.accept (s.works.amend n sp) := by
  unfold State.lotAmend Works.amendRefusal
  cases s.works.lot? n with
  | none => rfl
  | some lot => dsimp only; split_ifs <;> rfl

theorem exec_lotAmend {args : List Byte} {s : State} (hl : args.length = 41)
    (ht : s.takesRecordCommands) : exec (.lotAmend args) s = .next
      (match s.works.amendRefusal (bytesAt args 0 2) (specOf (args.drop 2)) with
        | some st => s.answered 0x02 args (.plain st)
        | none => { s.answered 0x02 args (.plain .ok) with
          works := s.works.amend (bytesAt args 0 2) (specOf (args.drop 2)) }) := by
  rw [exec_recordCommand rfl ht hl]
  refine congrArg _ ?_
  show (s.release 0x02 args).lotAmend (bytesAt args 0 2) (specOf (args.drop 2)) = _
  generalize bytesAt args 0 2 = n
  generalize specOf (args.drop 2) = sp
  rw [State.lotAmend_eq, State.release_works]
  cases s.works.amendRefusal n sp with
  | some st => rfl
  | none => exact s.release_accept 0x02 args _

/-- Settles O11: the amendment reaches the lines one by one, and each line and coil once. -/
theorem lotAmendReachesTheLines : Obligations.LotAmendReachesTheLines := by
  intro args s hlen ht n sp refusal
  have hr : refusal = s.works.amendRefusal n sp := rfl
  refine ⟨fun st hst => ?_, fun lot hlot hnone => ?_⟩
  · rw [exec_lotAmend hlen ht, ← hr, hst]
  · refine ⟨_, by rw [exec_lotAmend hlen ht, ← hr, hnone], ?_⟩
    have hlot' : (s.works.modifyLot n fun l => { l with spec := sp, revision := l.revision + 1 }).lot?
        n = some { lot with spec := sp, revision := lot.revision + 1 } :=
      Works.lot?_modifyLot_self (fun _ => rfl) hlot
    have h := Works.foldl_amendLine _ (List.nodup_finRange 16) _ hlot'
    obtain ⟨a1, a2, a3, a4, a5⟩ := h.aside
    refine ⟨h.lots, fun i => ?_, fun k => ?_, a1, a2, a3, a4, a5⟩
    · rw [Works.amend, h.line, if_pos (List.mem_finRange i)]
      rfl
    · rw [Works.amend, h.coil]
      refine congrArg (fun f => Option.map f (s.works.coil? k)) (funext fun c => ?_)
      exact if_congr (by simp [Line.revises]; rfl) rfl rfl

end Sys2Proof.Machine
end

section
namespace Sys2Proof.Machine

/-! # LINE_ASSIGN, COIL_MARK, COIL_SEAL and COIL_RETIRE (R14, R24, R107, R145, R146) -/

/-! ## LINE_ASSIGN (R14, R15, R20) -/

/-- R20: a coil opens in the lowest free entry with the lot's next sequence. -/
theorem Works.openCoil_eq {w : Works} {i : LineIx} {lot : Lot} {e : CoilIx} (pos : Nat)
    (hl : (w.line i).lot.bind w.lot? = some lot) (hs : ¬ 10000 ≤ lot.nextSequence)
    (he : lowestFree w.coils = some e) :
    w.openCoil i pos = .ok ((({ w with
        coils := w.coils.set e
          (some (Coil.opening ⟨lot.number, lot.nextSequence⟩ i (w.line i) pos)) }).modifyLot
        lot.number fun t => { t with nextSequence := t.nextSequence + 1 }).modifyLine i
      fun l => { l with coil := some ⟨lot.number, lot.nextSequence⟩ }) := by
  unfold Works.openCoil
  rw [hl]
  refine (if_neg hs).trans ?_
  rw [he]

/-- R20: with no sequence left no coil opens. -/
theorem Works.openCoil_exhausted {w : Works} {i : LineIx} {lot : Lot} (pos : Nat)
    (hl : (w.line i).lot.bind w.lot? = some lot) (hs : 10000 ≤ lot.nextSequence) :
    w.openCoil i pos = .error .seqExhausted := by
  unfold Works.openCoil
  rw [hl]
  exact if_pos hs

/-- R20: with no entry free no coil opens. -/
theorem Works.openCoil_full {w : Works} {i : LineIx} {lot : Lot} (pos : Nat)
    (hl : (w.line i).lot.bind w.lot? = some lot) (hs : ¬ 10000 ≤ lot.nextSequence)
    (he : lowestFree w.coils = none) : w.openCoil i pos = .error .noEntry := by
  unfold Works.openCoil
  rw [hl]
  refine (if_neg hs).trans ?_
  rw [he]

theorem LineKind.accepts_iff (a : LineKind) (p : ProductKind) :
    a.accepts p = true ↔ (a = .twist ∧ p = .laid) ∨ (a = .knot ∧ p = .net) := by
  cases a <;> cases p <;> simp [LineKind.accepts]

theorem LineKind.accepts_false_iff (a : LineKind) (p : ProductKind) :
    a.accepts p = false ↔ ¬ ((a = .twist ∧ p = .laid) ∨ (a = .knot ∧ p = .net)) := by
  rw [← LineKind.accepts_iff, Bool.not_eq_true]

/-- R14: the first check of LINE_ASSIGN that refuses a line. -/
def Works.assignRefusal (w : Works) (i : LineIx) (n : Nat) : Option Status :=
  let l := w.line i
  if l.kind = .unused then some .wrongKind
  else
    match w.lot? n with
    | none => some .unknownLot
    | some lot =>
      if l.state ≠ .idle then some .wrongState
      else if lot.state ≠ .opened then some .wrongState
      else if ¬ ((l.kind = .twist ∧ lot.spec.kind = .laid) ∨
          (l.kind = .knot ∧ lot.spec.kind = .net)) then some .wrongKind
      else if 10000 ≤ lot.nextSequence then some .tableFull
      else if lowestFree w.coils = none then some .tableFull
      else none

/-- R15, R20: the records of an accepted assignment. -/
def Works.assigned (w : Works) (i : LineIx) (lot : Lot) (isolated : Bool) (e : CoilIx) : Works :=
  let w' := w.modifyLine i fun l => l.assigned lot isolated
  (({ w' with
      coils := w.coils.set e
        (some (Coil.opening ⟨lot.number, lot.nextSequence⟩ i ((w.line i).assigned lot isolated) 0))
      }).modifyLot lot.number fun t => { t with nextSequence := t.nextSequence + 1 }).modifyLine i
    fun l => { l with coil := some ⟨lot.number, lot.nextSequence⟩ }

theorem Works.line_congr {w w' : Works} (h : w'.lines = w.lines) (j : LineIx) :
    w'.line j = w.line j := by
  rw [Works.line, h]; rfl

theorem Works.assigned_line (w : Works) (i j : LineIx) (lot : Lot) (isolated : Bool) (e : CoilIx) :
    (w.assigned i lot isolated e).line j = if j = i then { (w.line i).assigned lot isolated with
      coil := some ⟨lot.number, lot.nextSequence⟩ } else w.line j := by
  have h : (w.assigned i lot isolated e).lines =
      ((w.modifyLine i fun l => l.assigned lot isolated).modifyLine i fun l =>
        { l with coil := some ⟨lot.number, lot.nextSequence⟩ }).lines := rfl
  rw [Works.line_congr h, Works.line_modifyLine, Works.line_modifyLine_self, Works.line_modifyLine]
  split <;> rfl

theorem Works.assigned_lot {w : Works} {n : Nat} {lot : Lot} (i : LineIx) (isolated : Bool)
    (h : w.lot? n = some lot) :
    (((w.modifyLine i fun l => l.assigned lot isolated).line i).lot.bind
      (w.modifyLine i fun l => l.assigned lot isolated).lot?) = some lot := by
  rw [Works.line_modifyLine_self]
  show (w.modifyLine i _).lot? lot.number = _
  rw [Works.lot?_congr (Works.modifyLine_lots w i _), (Works.lot?_some w n lot h).2, h]

theorem State.assign_refused {s : State} {i : LineIx} {n : Nat} {st : Status}
    (h : s.works.assignRefusal i n = some st) : s.assign i n = s.respond st := by
  unfold Works.assignRefusal at h
  unfold State.assign
  dsimp only at h ⊢
  split at h
  · next hk => rw [if_pos hk]; cases h; rfl
  next hk =>
  rw [if_neg hk]
  obtain hl | ⟨lot, hl⟩ := Option.eq_none_or_eq_some (s.works.lot? n)
  · rw [hl] at h ⊢; cases h; rfl
  rw [hl] at h ⊢
  dsimp only at h ⊢
  split at h
  · next hs => rw [if_pos (.inl hs)]; cases h; rfl
  next hs =>
  split at h
  · next hs' => rw [if_pos (.inr hs')]; cases h; rfl
  next hs' =>
  rw [if_neg (not_or.2 ⟨hs, hs'⟩)]
  split at h
  · next ha => rw [if_pos ((LineKind.accepts_false_iff _ _).2 ha)]; cases h; rfl
  next ha =>
  have hlot := Works.assigned_lot (w := s.works) i (s.link.lineIsolated i) hl
  rw [if_neg fun hf => ha ((LineKind.accepts_false_iff _ _).1 hf)]
  split at h
  · next hq => rw [Works.openCoil_exhausted 0 hlot hq]; cases h; rfl
  next hq =>
  split at h
  · next he => rw [Works.openCoil_full 0 hlot hq he]; cases h; rfl
  · cases h

theorem State.assign_accepted {s : State} {i : LineIx} {n : Nat} {lot : Lot} {e : CoilIx}
    (h : s.works.assignRefusal i n = none) (hl : s.works.lot? n = some lot)
    (he : lowestFree s.works.coils = some e) :
    s.assign i n = s.accept (s.works.assigned i lot (s.link.lineIsolated i) e) := by
  unfold Works.assignRefusal at h
  simp only [hl] at h
  unfold State.assign
  dsimp only
  split at h
  · cases h
  next hk =>
  rw [if_neg hk, hl]
  dsimp only
  split at h
  · cases h
  next hs =>
  split at h
  · cases h
  next hs' =>
  rw [if_neg (not_or.2 ⟨hs, hs'⟩)]
  split at h
  · cases h
  next ha =>
  rw [if_neg fun hf => ha ((LineKind.accepts_false_iff _ _).1 hf)]
  split at h
  · cases h
  next hq =>
  rw [Works.openCoil_eq 0 (Works.assigned_lot i _ hl) hq he]
  simp only [Works.line_modifyLine_self]
  rfl

/-- R15: the monitor of the line's kind is set back. -/
theorem Line.resetMonitor_eq (l : Line) : l.resetMonitor = { l with
    twist := if l.kind = .twist then .reset else l.twist,
    knot := if l.kind = .knot then .reset else l.knot } := by
  rcases l with ⟨kind⟩
  cases kind <;> rfl

theorem exec_lineAssign {args : List Byte} {s : State} (hl : args.length = 3)
    (ht : s.takesRecordCommands) : exec (.lineAssign args) s =
      .next ((s.release 0x08 args).lineAssign (bytesAt args 0 1) (bytesAt args 1 2)) := by
  rw [exec_recordCommand rfl ht hl]

/-- Settles O13. -/
theorem lineAssignOpensTheFirstCoil : Obligations.LineAssignOpensTheFirstCoil := by
  intro args s hl ht n refusal
  rw [exec_lineAssign hl ht]
  have hr : ¬ 15 < bytesAt args 0 1 →
      refusal = s.works.assignRefusal (Fin.ofNat 16 (bytesAt args 0 1)) n := fun h => if_neg h
  refine ⟨fun st hst => ?_, fun i lot e hi hlot he hnone => ?_⟩
  · unfold State.lineAssign
    by_cases h : 15 < bytesAt args 0 1
    · have hst' : some Status.outOfRange = some st := (if_pos h).symm.trans hst
      rw [lineOf_none h]
      cases hst'
      rfl
    · rw [lineOf_of_le (not_lt.1 h)]
      exact congrArg _ (State.assign_refused (s := s.release 0x08 args) ((hr h).symm.trans hst))
  · intro l
    have h15 : ¬ 15 < bytesAt args 0 1 := by rw [hi]; omega
    have hof : (Fin.ofNat 16 (bytesAt args 0 1)) = i := by
      rw [hi]; exact Fin.ext (Nat.mod_eq_of_lt i.isLt)
    have hn : lot.number = n := (Works.lot?_some _ _ _ hlot).2
    refine ⟨s.works.assigned i lot (s.link.lineIsolated i) e, ?_, ?_, fun j hj => ?_, ?_, ?_, rfl,
      rfl, rfl, rfl, rfl⟩
    · rw [State.lineAssign, hi, lineOf_val]
      refine congrArg _ ((State.assign_accepted (s := s.release 0x08 args) ?_ hlot he).trans ?_)
      · rw [← hof]; exact (hr h15).symm.trans hnone
      · exact s.release_accept 0x08 args _
    · rw [Works.assigned_line, if_pos rfl, Line.assigned, Line.resetMonitor_eq, hn]
    · rw [Works.assigned_line, if_neg hj]
    · rw [← hn]; rfl
    · rw [← hn]; rfl

/-! ## COIL_MARK (R107) -/

theorem Coil.overlapsOperator_iff (c : Coil) (start stop len : Nat) :
    c.overlapsOperator start stop len = true ↔
      ∃ z ∈ c.zones, z.cause = .operator ∧ start < z.stop.getD len ∧ z.start < stop := by
  simp [Coil.overlapsOperator, and_assoc]

/-- R107: the first check of COIL_MARK that refuses it. -/
def Works.markRefusal (w : Works) (k : CoilKey) (start stop : Nat) : Option Status :=
  match w.coil? k with
  | none => some .unknownCoil
  | some c =>
    let len := w.coilLength c
    if c.state = .sealed then some .wrongState
    else if stop < start then some .outOfRange
    else if ∃ z ∈ c.zones, z.cause = .operator ∧ min start len < z.stop.getD len ∧
        z.start < min stop len then some .outOfRange
    else none

theorem State.coilMark_refused {s : State} {k : CoilKey} {start stop : Nat} {st : Status}
    (h : s.works.markRefusal k start stop = some st) : s.coilMark k start stop = s.respond st := by
  unfold Works.markRefusal at h
  unfold State.coilMark
  obtain hk | ⟨c, hk⟩ := Option.eq_none_or_eq_some (s.works.coil? k)
  · rw [hk] at h ⊢; cases h; rfl
  rw [hk] at h ⊢
  dsimp only at h ⊢
  split at h
  · next hs => rw [if_pos hs]; cases h; rfl
  next hs =>
  rw [if_neg hs]
  split at h
  · next hlt => rw [if_pos hlt]; cases h; rfl
  next hlt =>
  rw [if_neg hlt]
  split at h
  · next hz => rw [if_pos ((c.overlapsOperator_iff _ _ _).2 hz)]; cases h; rfl
  · cases h

theorem State.coilMark_accepted {s : State} {k : CoilKey} {start stop : Nat} {c : Coil}
    (h : s.works.markRefusal k start stop = none) (hk : s.works.coil? k = some c) :
    s.coilMark k start stop = s.accept (s.works.placeOperator k
      (min start (s.works.coilLength c)) (min stop (s.works.coilLength c))) := by
  unfold Works.markRefusal at h
  unfold State.coilMark
  simp only [hk] at h ⊢
  split at h
  · cases h
  next hs =>
  rw [if_neg hs]
  split at h
  · cases h
  next hlt =>
  rw [if_neg hlt]
  split at h
  · cases h
  next hz => exact if_neg fun ho => hz ((c.overlapsOperator_iff _ _ _).1 ho)

/-- R107: a zone placed in a list with room. -/
theorem Coil.placeZone_listed (c : Coil) (z : Zone) (h : c.zones.length < 8) :
    c.placeZone z = { c with zones := insertZone z c.zones }.withReason .zones :=
  if_neg (not_le.2 h)

/-- R107: a zone placed in a full list. -/
theorem Coil.placeZone_full (c : Coil) (z : Zone) (h : 8 ≤ c.zones.length) :
    c.placeZone z = { c with unlisted := min 255 (c.unlisted + 1) }.withReason .zoneOverflow :=
  if_pos h

theorem Coil.withReason_eq (c : Coil) (r : Reason) :
    c.withReason r = { c with reasons := (c.withReason r).reasons } := by
  unfold Coil.withReason
  split <;> rfl

/-- R112: a grade that is not final is that of the reasons and zones. -/
theorem Coil.regraded_grade {c : Coil} (h : c.final = false) (len : Nat) :
    (c.regraded len).grade = (c.regraded len).gradeAt len := by
  simp [Coil.regraded, h, Coil.gradeAt]

/-- Settles O17. -/
theorem coilMarkPlacesAnOperatorZone : Obligations.CoilMarkPlacesAnOperatorZone := by
  intro args s hl ht k start stop refusal
  have hexec : exec (.coilMark args) s =
      .next ((s.release 0x10 args).coilMark k start stop) := by
    rw [exec_recordCommand rfl ht hl]
  have hr : refusal = s.works.markRefusal k start stop := rfl
  rw [hexec]
  refine ⟨fun st hst => ?_, fun c hk hnone => ?_⟩
  · exact congrArg _ (State.coilMark_refused (s := s.release 0x10 args) (hr.symm.trans hst))
  · intro len
    let z : Zone := ⟨.operator, min start len, some (min stop len), 0⟩
    let c' := (c.placeZone z).regraded len
    have hkey : ∀ b : Coil, ((b.placeZone z).regraded (s.works.coilLength b)).key = b.key := by
      intro b
      rw [Coil.regraded_eq, Coil.placeZone_frame]
    have hfinal : (c.placeZone z).final = c.final := by rw [Coil.placeZone_frame]
    refine ⟨s.works.placeOperator k (min start len) (min stop len), c', ?_,
      Works.coil?_modifyCoil_self _ _ _ c hkey hk,
      fun k' => Works.coil?_modifyCoil_other _ _ k' _ hkey, fun h => ?_, fun h => ?_, ?_,
      fun hf => Coil.regraded_grade (hfinal.trans hf) len, rfl, rfl, rfl, rfl, rfl, rfl, rfl⟩
    · exact congrArg _ ((State.coilMark_accepted (s := s.release 0x10 args)
        (hr.symm.trans hnone) hk).trans (s.release_accept 0x10 args _))
    · show ((c.placeZone z).regraded len).zones = _ ∧ ((c.placeZone z).regraded len).unlisted = _ ∧
        _ ∈ ((c.placeZone z).regraded len).reasons
      rw [Coil.regraded_eq, Coil.placeZone_listed c z h]
      exact ⟨by rw [Coil.withReason_eq], by rw [Coil.withReason_eq], by simp⟩
    · show ((c.placeZone z).regraded len).zones = _ ∧ ((c.placeZone z).regraded len).unlisted = _ ∧
        _ ∈ ((c.placeZone z).regraded len).reasons
      rw [Coil.regraded_eq, Coil.placeZone_full c z h]
      exact ⟨by rw [Coil.withReason_eq], by rw [Coil.withReason_eq], by simp⟩
    · show ((c.placeZone z).regraded len).unlistedOpen = _
      rw [Coil.regraded_eq, Coil.placeZone_frame]

/-! ## COIL_SEAL (R141, R145, R146) -/

theorem exec_coilSeal {args : List Byte} {s : State} (hl : args.length = 8)
    (ht : s.takesRecordCommands) : exec (.coilSeal args) s =
      .next ((s.release 0x11 args).coilSeal (keyAt args 0) (bytesAt args 4 4)) := by
  rw [exec_recordCommand rfl ht hl]

/-- R146: the host seals a FULL or TAKEN coil at its packer. -/
theorem State.coilSeal_at (s : State) (k : CoilKey) (weight : Nat) (c : Coil) (p : PackerIx)
    (h : s.works.coil? k = some c) (hc : c.state = .full ∨ c.state = .taken)
    (hp : c.packer = some p) : s.coilSeal k weight = s.accept (s.works.sealAt p k weight) := by
  unfold State.coilSeal
  rcases hc with hc | hc <;> simp only [h, hc, hp]

theorem State.coilSeal_wrongState (s : State) (k : CoilKey) (weight : Nat) (c : Coil)
    (h : s.works.coil? k = some c) (hc : c.state = .opened ∨ c.state = .sealed) :
    s.coilSeal k weight = s.respond .wrongState := by
  unfold State.coilSeal
  rcases hc with hc | hc <;> simp only [h, hc]

/-- Settles O18: the seal is that of `Works.sealAt`. -/
theorem coilSealSealsAndFreesAPlace : Obligations.CoilSealSealsAndFreesAPlace := by
  intro args s hl ht k weight refused
  refine ⟨fun hk => ?_, fun c hk => ⟨fun hc => ?_, fun p => ?_⟩⟩
  · refine (exec_coilSeal hl ht).trans (congrArg _ ?_)
    unfold State.coilSeal
    rw [State.release_works, hk]
    rfl
  · exact (exec_coilSeal hl ht).trans (congrArg _
      (State.coilSeal_wrongState (s.release 0x11 args) k weight c hk hc))
  · intro len hc hp
    obtain ⟨hqueues, hnotices, hlots, hwait, hlanes⟩ := Works.sealAt_frame s.works p k weight
    obtain ⟨-, hstate, hfinal, hpacker, -, hzones⟩ := Coil.sealedWith_frame c weight len
    have hpos := Coil.sealedWith_pos c weight len
    have hzero := Coil.sealedWith_zero c len
    refine ⟨s.works.sealAt p k weight, c.sealedWith weight len, ?_,
      Works.sealAt_coil?_self s.works p k weight c hk,
      fun k' => Works.sealAt_coil?_other s.works p k k' weight, hstate, hfinal, hpacker.trans hp,
      hzones, fun hw => ?_, fun hw => ?_, fun hw => ?_, fun hw => ?_,
      Coil.sealedWith_grade c weight len, hqueues, hnotices,
      Works.sealAt_held_nil s.works p k weight, Works.sealAt_held_cons s.works p k weight,
      hlots, hwait, hlanes⟩
    · exact (exec_coilSeal hl ht).trans (congrArg _
        ((State.coilSeal_at (s.release 0x11 args) k weight c p hk hc hp).trans
          (s.release_accept 0x11 args _)))
    · rw [hw]
      obtain ⟨h1, h2, h3, -⟩ := hzero
      exact ⟨h1, h2, h3⟩
    · obtain ⟨h1, h2, -⟩ := hpos hw
      exact ⟨h1, h2⟩
    · obtain ⟨-, -, h3⟩ := hpos hw
      rw [h3, GradeLimits.densityOff_iff]
      rfl
    · rw [hw]
      obtain ⟨-, -, -, h4⟩ := hzero
      exact h4

/-! ## COIL_RETIRE (R9, R24) -/

theorem inUse_filterTable {α : Type} {n : Nat} (p : α → Bool) (v : Vector (Option α) n) :
    inUse (mapTable (fun e => e.filter p) v) = (inUse v).filter p := by
  have key : ∀ l : List (Option α), (l.map fun e => e.filter p).filterMap id =
      (l.filterMap id).filter p := by
    intro l
    induction l with
    | nil => rfl
    | cons e l ih =>
      cases e with
      | none => exact ih
      | some x =>
        have hf : Option.filter p (some x) = if p x = true then some x else none := rfl
        rw [List.map_cons, hf]
        cases hx : p x
        · rw [if_neg (by simp), List.filterMap_cons_none (f := id) rfl, List.filterMap_cons_some (f := id) rfl,
            List.filter_cons_of_neg (by simp [hx]), ih]
        · rw [if_pos rfl, List.filterMap_cons_some (f := id) rfl, List.filterMap_cons_some (f := id) rfl,
            List.filter_cons_of_pos hx, ih]
  exact key v.toList

theorem Works.coil?_removeCoil_self (w : Works) (k : CoilKey) : (w.removeCoil k).coil? k = none := by
  rw [Works.coil?, Works.removeCoil, inUse_filterTable, List.find?_eq_none]
  intro c hc
  have := (List.mem_filter.1 hc).2
  simpa using this

theorem Works.coil?_removeCoil_other (w : Works) (k k' : CoilKey) (h : k' ≠ k) :
    (w.removeCoil k).coil? k' = w.coil? k' := by
  rw [Works.coil?, Works.removeCoil, inUse_filterTable, List.find?_filter]
  refine congrArg (fun p => List.find? p (inUse w.coils)) (funext fun c => ?_)
  by_cases hc : c.key = k'
  · simp [hc, h]
  · simp [hc]

/-- R24: the records of a retired coil, before its entry is handed out. -/
def Works.retired (w : Works) (c : Coil) : Works :=
  ((w.addRetired c.key.lot (w.coilLength c)).modifyLot c.key.lot fun t =>
    { t with coilsRetired := t.coilsRetired + 1 }).removeCoil c.key

theorem Works.retire_eq (w : Works) (c : Coil) : w.retire c = (w.retired c).handOut := rfl

theorem Works.raiseSaturated_eq (w : Works) (due : Bool) :
    w.raiseSaturated due = { w with notices := { w.notices with
      global := w.notices.global ||| if due then 0x8 else 0 } } := by
  unfold Works.raiseSaturated
  cases due
  · simp
  · rfl

/-- R9: whether the length of a coil would carry its lot's retired length past the limit. -/
def Works.retirePasses (w : Works) (c : Coil) : Bool :=
  (w.lot? c.key.lot).any fun t => decide (281474976710655 < t.retired + w.coilLength c)

/-- R9, R24: the coil's length and its count go to the lot, saturating once. -/
theorem Works.retired_eq (w : Works) (c : Coil) : w.retired c = { w with
    coils := mapTable (fun e => e.filter fun b => decide (b.key ≠ c.key)) w.coils,
    lots := mapTable (Option.map fun t =>
      if t.number = c.key.lot then
        { t with
          retired := min 281474976710655 (t.retired + w.coilLength c),
          coilsRetired := t.coilsRetired + 1 }
      else t) w.lots,
    notices := { w.notices with
      global := w.notices.global ||| if w.retirePasses c then 0x8 else 0 } } := by
  unfold Works.retired Works.addRetired
  rw [Works.raiseSaturated_eq]
  have h := congrArg Works.lots (Works.modifyLot_modifyLot w c.key.lot
    (fun t => { t with retired := addLength t.retired (w.coilLength c) })
    (fun t => { t with coilsRetired := t.coilsRetired + 1 }) fun _ => rfl)
  exact congrArg (fun x => { w with
    coils := mapTable (fun e : Option Coil => e.filter fun b => decide (b.key ≠ c.key)) w.coils,
    lots := x,
    notices := { w.notices with
      global := w.notices.global ||| if w.retirePasses c then 0x8 else 0 } }) h

theorem exec_coilRetire {args : List Byte} {s : State} (hl : args.length = 4)
    (ht : s.takesRecordCommands) : exec (.coilRetire args) s =
      .next ((s.release 0x12 args).coilRetire (keyAt args 0)) := by
  rw [exec_recordCommand rfl ht hl]

theorem exec_coilRetire_sealed {args : List Byte} {s : State} {c : Coil} (hl : args.length = 4)
    (ht : s.takesRecordCommands) (hk : s.works.coil? (keyAt args 0) = some c)
    (hc : c.state = .sealed) : exec (.coilRetire args) s =
      .next { s.answered 0x12 args (.plain .ok) with works := s.works.retire c } := by
  rw [exec_coilRetire hl ht]
  refine congrArg _ (Eq.trans ?_ (s.release_accept 0x12 args _))
  unfold State.coilRetire
  simp only [State.release_works, hk, hc]

/-- Settles O19. -/
theorem coilRetireMovesTheLength : Obligations.CoilRetireMovesTheLength := by
  intro args s hl ht k refused
  refine ⟨fun hk => ?_, fun c hk => ⟨fun hc => ?_, ?_⟩⟩
  · refine (exec_coilRetire hl ht).trans (congrArg _ ?_)
    unfold State.coilRetire
    rw [State.release_works, hk]
    rfl
  · refine (exec_coilRetire hl ht).trans (congrArg _ ?_)
    unfold State.coilRetire
    rcases hc with hc | hc | hc <;> simp only [State.release_works, k, hk, hc] <;> rfl
  · intro len hc hwait
    have hkey : c.key = k := (Works.coil?_some _ _ _ hk).2
    have hw : s.works.retire c = s.works.retired c := by
      rw [Works.retire_eq, Works.retired_eq, Works.handOut]
      dsimp only
      rw [hwait]
      rfl
    have hcoil : ∀ k', (s.works.retired c).coil? k' = (s.works.removeCoil k).coil? k' := by
      intro k'
      exact Works.coil?_congr (by rw [Works.retired_eq, hkey]; rfl) k'
    refine ⟨s.works.retired c, ?_, ?_, fun k' h => ?_, ?_⟩
    · rw [exec_coilRetire_sealed hl ht hk hc, hw]
    · rw [hcoil, Works.coil?_removeCoil_self]
    · rw [hcoil, Works.coil?_removeCoil_other _ _ _ h]
    · have hpass : s.works.retirePasses c = (s.works.lot? k.lot).any
          (fun t => decide (281474976710655 < t.retired + len)) := by rw [← hkey]; rfl
      rw [Works.retired_eq, hkey, hpass]
      exact ⟨rfl, rfl, hwait, rfl, rfl, rfl, rfl, rfl, rfl, rfl⟩

end Sys2Proof.Machine
end

section
namespace Sys2Proof.Machine

/-! # A coil that has just opened, and the hand-out of a freed entry (R20, R26, R109) -/

/-! ## The coil in a fresh entry -/

/-- The coil table is `table` with the coil `b` in the entry `e`, and no other entry has its key. -/
structure Works.freshAt (u : Works) (table : Vector (Option Coil) 96) (e : CoilIx) (b : Coil) :
    Prop where
  coils : u.coils = table.set e (some b)
  fresh : ∀ j, j ≠ e → ∀ c, table[j] = some c → c.key ≠ b.key

/-- The records with another coil in an entry. -/
def Works.withCoil (u : Works) (table : Vector (Option Coil) 96) (e : CoilIx) (b : Coil) : Works :=
  { u with coils := table.set e (some b) }

theorem Works.freshAt.withCoil {u : Works} {table : Vector (Option Coil) 96} {e : CoilIx} {b : Coil}
    (h : u.freshAt table e b) {b' : Coil} (hk : b'.key = b.key) :
    (u.withCoil table e b').freshAt table e b' := ⟨rfl, fun j hj c hc => by rw [hk]; exact h.fresh j hj c hc⟩

theorem Works.freshAt.of_coils {u u' : Works} {table : Vector (Option Coil) 96} {e : CoilIx}
    {b : Coil} (h : u.freshAt table e b) (hc : u'.coils = u.coils) : u'.freshAt table e b :=
  ⟨hc.trans h.coils, h.fresh⟩

theorem Works.freshAt.coil? {u : Works} {table : Vector (Option Coil) 96} {e : CoilIx} {b : Coil}
    (h : u.freshAt table e b) : u.coil? b.key = some b := by
  have hmem : b ∈ inUse u.coils := (mem_inUse _ _).2 ⟨e, by rw [h.coils, set_getFin, if_pos rfl]⟩
  cases hm : u.coil? b.key with
  | none => exact absurd (List.find?_eq_none.1 hm b hmem) (by simp)
  | some m =>
    obtain ⟨hin, hkey⟩ := Works.coil?_some u _ m hm
    obtain ⟨j, hj⟩ := (mem_inUse _ _).1 hin
    rw [h.coils, set_getFin] at hj
    by_cases hje : j = e
    · rw [if_pos hje] at hj; exact hj.symm
    · rw [if_neg hje] at hj; exact absurd hkey (h.fresh j hje m hj)

theorem Works.freshAt.modifyCoil {u : Works} {table : Vector (Option Coil) 96} {e : CoilIx}
    {b : Coil} (h : u.freshAt table e b) (f : Coil → Coil) :
    u.modifyCoil b.key f = u.withCoil table e (f b) := by
  unfold Works.modifyCoil Works.withCoil
  congr 1
  apply Vector.ext
  intro j hj
  rw [mapTable_get, h.coils]
  have hset : ∀ x, (table.set e x)[j] = if (⟨j, hj⟩ : CoilIx) = e then x else table[j] :=
    fun x => set_getFin table e ⟨j, hj⟩ x
  rw [hset, hset]
  by_cases hje : (⟨j, hj⟩ : CoilIx) = e
  · simp [hje]
  · rw [if_neg hje, if_neg hje]
    cases hc : table[j] with
    | none => rfl
    | some c => simp [h.fresh ⟨j, hj⟩ hje c hc]

/-! ## Zones opened at the start of a fresh coil -/

/-- 5.1: every zone of the coil is listed, open, and starts at 0. -/
structure Coil.fresh (b : Coil) : Prop where
  zones : ∀ z ∈ b.zones, z.start = 0 ∧ z.stop = none
  unlistedOpen : b.unlistedOpen = []

/-- R101, R109: the zone of a cause, with its extreme value, open from 0. -/
def Zone.from0 (q : Cause × Int) : Zone :=
  { cause := q.1, start := 0, stop := none, extreme := q.2 }

/-- R101, R109: what an open request at 0 leaves of a fresh coil of the given length. -/
def Coil.openedAt0 (len : Nat) (b : Coil) (q : Cause × Int) : Coil :=
  ({ b with zones := b.zones ++ [Zone.from0 q] }.withReason .zones).regraded len

@[simp] theorem Coil.openedAt0_frame (len : Nat) (b : Coil) (q : Cause × Int) :
    (b.openedAt0 len q).key = b.key ∧ (b.openedAt0 len q).line = b.line ∧
    (b.openedAt0 len q).start = b.start ∧ (b.openedAt0 len q).stop = b.stop ∧
    (b.openedAt0 len q).final = b.final ∧
    (b.openedAt0 len q).zones = b.zones ++ [Zone.from0 q] := by
  unfold Coil.openedAt0
  rw [Coil.regraded_eq, Coil.withReason_eq]
  exact ⟨rfl, rfl, rfl, rfl, rfl, rfl⟩

theorem Coil.openedAt0_eq (len : Nat) (b : Coil) (q : Cause × Int) : b.openedAt0 len q = { b with
    zones := b.zones ++ [Zone.from0 q],
    reasons := (b.openedAt0 len q).reasons, grade := (b.openedAt0 len q).grade } := by
  unfold Coil.openedAt0
  rw [Coil.regraded_eq, Coil.withReason_eq]

theorem Coil.mem_openedAt0_reasons (len : Nat) (b : Coil) (q : Cause × Int) (r : Reason) :
    r ∈ (b.openedAt0 len q).reasons ↔ r ∈ b.reasons ∨ r = .zones := by
  unfold Coil.openedAt0
  rw [Coil.regraded_eq]
  exact Coil.mem_withReason _ _ _

theorem Coil.fresh.openedAt0 {b : Coil} (h : b.fresh) (len : Nat) (q : Cause × Int) :
    (b.openedAt0 len q).fresh := by
  refine ⟨fun z hz => ?_, ?_⟩
  · obtain ⟨-, -, -, -, -, hzones⟩ := Coil.openedAt0_frame len b q
    rw [hzones, List.mem_append, List.mem_singleton] at hz
    rcases hz with hz | rfl
    · exact h.zones z hz
    · exact ⟨rfl, rfl⟩
  · rw [Coil.openedAt0_eq]; exact h.unlistedOpen

theorem insertZone_last (z : Zone) (zs : List Zone) (h : ∀ y ∈ zs, y.start ≤ z.start) :
    insertZone z zs = zs ++ [z] := by
  induction zs with
  | nil => rfl
  | cons y ys ih =>
    rw [insertZone, if_pos (h y (List.mem_cons_self ..)),
      ih fun x hx => h x (List.mem_cons_of_mem _ hx)]
    rfl

theorem Coil.fresh.hasOpen {b : Coil} (h : b.fresh) {q : Cause} (hq : ∀ z ∈ b.zones, z.cause ≠ q) :
    b.hasOpen q = false := by
  have hnone : b.openZone? q = none := by
    rw [Coil.openZone?, List.find?_eq_none]
    intro z hz
    simp [Zone.openOf, hq z hz]
  simp [Coil.hasOpen, hnone, h.unlistedOpen]

/-- R101: a request at 0 of a cause that a fresh coil has no zone of. -/
theorem Coil.fresh.openZone {b : Coil} (h : b.fresh) {q : Cause} (x : Int)
    (hq : ∀ z ∈ b.zones, z.cause ≠ q) (hlen : b.zones.length < 8) :
    b.openZone q 0 x = { b with zones := b.zones ++ [Zone.from0 (q, x)] }.withReason .zones := by
  have hfilter : (b.zones.filter fun z => decide (z.cause = q)) = [] :=
    List.filter_eq_nil_iff.2 fun z hz => by simp [hq z hz]
  have hstart : b.zoneStart q 0 = 0 := by rw [Coil.zoneStart, hfilter]; rfl
  unfold Coil.openZone
  dsimp only
  rw [if_neg (by show ¬ 8 ≤ _; omega), Coil.placeZone_listed _ _ hlen, hstart,
    insertZone_last _ _ fun y hy => (h.zones y hy).1.le]
  rfl

/-- The line record at which a coil's length is read. -/
theorem Works.coilLength_open (u : Works) (b : Coil) (h : b.stop = none) :
    u.coilLength b = (u.line b.line).position - b.start := by
  rw [Works.coilLength, Works.coilEnd, h]
  rfl

/-- The records with a line's notice raised, or not. -/
def Works.raiseLineIf (u : Works) (due : Bool) (i : LineIx) (bits : Half) : Works :=
  if due then u.raiseLine i bits else u

theorem Works.freshAt.openZone {u : Works} {table : Vector (Option Coil) 96} {e : CoilIx}
    {b : Coil} (h : u.freshAt table e b) (hb : b.fresh) (hs : b.stop = none) (q : Cause × Int)
    (hq : ∀ z ∈ b.zones, z.cause ≠ q.1) (hlen : b.zones.length < 8) (notify : Bool) :
    u.openZone b.key q.1 0 q.2 notify =
      (u.withCoil table e (b.openedAt0 ((u.line b.line).position - b.start) q)).raiseLineIf notify
        b.line 0x10 := by
  have hb' : (b.openZone q.1 0 q.2).regraded (u.coilLength b) =
      b.openedAt0 ((u.line b.line).position - b.start) q := by
    rw [hb.openZone q.2 hq hlen, u.coilLength_open b hs]
    rfl
  unfold Works.openZone
  rw [h.coil?]
  dsimp only
  rw [hb.hasOpen hq, h.modifyCoil, hb']
  rfl

/-- R109: the zones of a list of causes open one after the other at 0 of a fresh coil. -/
theorem Works.freshAt.foldl_openZone {table : Vector (Option Coil) 96} {e : CoilIx} {len : Nat}
    (qs : List (Cause × Int)) (hnd : (qs.map Prod.fst).Nodup) :
    ∀ (u : Works) (b : Coil), u.freshAt table e b → b.fresh → b.stop = none →
      (u.line b.line).position - b.start = len →
      (∀ z ∈ b.zones, z.cause ∉ qs.map Prod.fst) → b.zones.length + qs.length ≤ 8 →
      qs.foldl (fun w q => w.openZone b.key q.1 0 q.2 false) u =
        u.withCoil table e (qs.foldl (Coil.openedAt0 len) b) := by
  induction qs with
  | nil =>
    intro u b h _ _ _ _ _
    rw [Works.withCoil, List.foldl_nil, List.foldl_nil, ← h.coils]
  | cons q qs ih =>
    intro u b h hb hs hlen hq hmax
    obtain ⟨hq0, hnd'⟩ := List.nodup_cons.1 (show (q.1 :: qs.map Prod.fst).Nodup from hnd)
    obtain ⟨hk, hline, hstart, hstop, -, hzones⟩ := Coil.openedAt0_frame len b q
    rw [List.length_cons] at hmax
    have hstep := h.openZone hb hs q (fun z hz hc => hq z hz (by simp [hc])) (by omega) false
    rw [hlen] at hstep
    rw [List.foldl_cons, List.foldl_cons, hstep]
    have hih := ih hnd' (u.withCoil table e (b.openedAt0 len q)) (b.openedAt0 len q)
      (h.withCoil hk) (hb.openedAt0 len q) (hstop.trans hs)
      (by rw [hline, hstart]; exact hlen) ?_ ?_
    · rw [hk] at hih
      exact hih
    · intro z hz
      rw [hzones, List.mem_append, List.mem_singleton] at hz
      rcases hz with hz | rfl
      · exact fun hc => hq z hz (List.mem_cons_of_mem _ hc)
      · exact hq0
    · rw [hzones, List.length_append, List.length_singleton]
      omega

/-- What the zones of a list leave of a fresh coil. -/
theorem Coil.foldl_openedAt0 (len : Nat) (qs : List (Cause × Int)) : ∀ b : Coil,
    let b' := qs.foldl (Coil.openedAt0 len) b
    b' = { b with
      zones := b.zones ++ qs.map Zone.from0,
      reasons := b'.reasons, grade := b'.grade } ∧
    (∀ r, r ∈ b'.reasons ↔ r ∈ b.reasons ∨ (r = .zones ∧ qs ≠ [])) ∧
    (b.final = false → b.grade = b.gradeAt len → b'.grade = b'.gradeAt len) := by
  induction qs with
  | nil => exact fun b => ⟨by simp, by simp, fun _ h => h⟩
  | cons q qs ih =>
    intro b
    obtain ⟨hframe, hreasons, hgrade⟩ := ih (b.openedAt0 len q)
    obtain ⟨-, -, -, -, hfinal, -⟩ := Coil.openedAt0_frame len b q
    refine ⟨?_, fun r => ?_, fun hf _ => ?_⟩
    · rw [List.foldl_cons]
      refine hframe.trans ?_
      rw [Coil.openedAt0_eq]
      simp
    · rw [List.foldl_cons, hreasons, Coil.mem_openedAt0_reasons]
      by_cases hr : r = .zones <;> simp [hr]
    · exact hgrade (hfinal.trans hf) (Coil.regraded_grade
        (by rw [Coil.withReason_eq]; exact hf) len)

end Sys2Proof.Machine
end

section
namespace Sys2Proof.Machine

/-! # The planned-cut test (R118 to R121) -/

/-- R21: lengths are read at the lines' positions alone. -/
theorem Works.coilLength_congr {w w' : Works}
    (h : ∀ j, (w'.line j).position = (w.line j).position) : w'.coilLength = w.coilLength := by
  funext c
  rw [Works.coilLength, Works.coilEnd, h]
  rfl

theorem Works.position_modifyLine (w : Works) (i : LineIx) (f : Line → Line)
    (hf : ∀ l, (f l).position = l.position) (j : LineIx) :
    ((w.modifyLine i f).line j).position = (w.line j).position := by
  rw [Works.line_modifyLine]
  split
  · next h => rw [h]; exact hf _
  · rfl

/-- Records whose lines are those of a changed line record. -/
theorem Works.line_of_lines {u w : Works} {i : LineIx} {f : Line → Line}
    (h : w.lines = (u.modifyLine i f).lines) : w.line i = f (u.line i) :=
  (Works.line_congr h i).trans (Works.line_modifyLine_self u i f)

theorem Works.line_of_lines_other {u w : Works} {i : LineIx} {f : Line → Line}
    (h : w.lines = (u.modifyLine i f).lines) {j : LineIx} (hj : j ≠ i) : w.line j = u.line j :=
  (Works.line_congr h j).trans (Works.line_modifyLine_other u i j f hj)

theorem Works.coilLength_of_lines {u w : Works} {i : LineIx} {f : Line → Line}
    (h : w.lines = (u.modifyLine i f).lines) (hf : ∀ l, (f l).position = l.position) :
    w.coilLength = u.coilLength :=
  Works.coilLength_congr fun j => by rw [Works.line_congr h, Works.position_modifyLine u i f hf]

/-- R110: the reason and the grade of a coil that gains a reason. -/
def Coil.gains (c : Coil) (r : Reason) (len : Nat) : Coil :=
  if c.reasons.contains r then c else (c.withReason r).regraded len

theorem Works.gainReason_eq (w : Works) (k : CoilKey) (r : Reason) :
    w.gainReason k r = w.modifyCoil k fun c => c.gains r (w.coilLength c) := rfl

theorem Coil.gains_eq (c : Coil) (r : Reason) (len : Nat) : c.gains r len = { c with
    reasons := (c.gains r len).reasons, grade := (c.gains r len).grade } := by
  unfold Coil.gains
  split
  · rfl
  · rw [Coil.regraded_eq, Coil.withReason_eq]

theorem Coil.mem_gains (c : Coil) (r r' : Reason) (len : Nat) :
    r' ∈ (c.gains r len).reasons ↔ r' ∈ c.reasons ∨ r' = r := by
  unfold Coil.gains
  split
  · next h =>
    have hr : r ∈ c.reasons := by simpa using h
    exact ⟨.inl, fun h => h.elim id fun e => e ▸ hr⟩
  · rw [Coil.regraded_eq]
    exact Coil.mem_withReason c r r'

theorem Coil.gains_grade (c : Coil) (r : Reason) (len : Nat) (hf : c.final = false)
    (hg : r ∉ c.reasons ∨ c.grade = c.gradeAt len) :
    (c.gains r len).grade = (c.gains r len).gradeAt len := by
  unfold Coil.gains
  split
  · next h => exact hg.resolve_left fun hn => hn (by simpa using h)
  · exact Coil.regraded_grade (by rw [Coil.withReason_eq]; exact hf) len

theorem Works.gainReason_coils {w w' : Works} (hc : w'.coils = w.coils)
    (hl : w'.coilLength = w.coilLength) (k : CoilKey) (r : Reason) :
    (w'.gainReason k r).coils = (w.gainReason k r).coils := by
  rw [Works.gainReason_eq, Works.gainReason_eq, hl, Works.modifyCoil, hc]
  rfl

/-- R121: whether the run position has reached a coil's target and the allowance. -/
def Line.overdue (l : Line) (start : Nat) : Bool :=
  decide (start + l.spec.target + l.spec.allowance ≤ l.position)

/-- R118 to R121: what the planned-cut test of a running line with the coil `c` makes of `u`. -/
structure Works.cutTested (u w : Works) (i : LineIx) (c : Coil) : Prop where
  line : w.line i = { u.line i with
    cut := (w.line i).cut, reserved := (w.line i).reserved, cutPoint := (w.line i).cutPoint,
    halted := (w.line i).halted }
  others : ∀ j, j ≠ i → w.line j = u.line j
  lots : w.lots = u.lots
  waitList : w.waitList = u.waitList
  lanes : w.lanes = u.lanes
  queues : w.queues = u.queues
  notices : w.notices = u.notices
  coils : w.coils =
    if (w.line i).cut = .held ∧ (u.line i).halted = false ∧ (u.line i).overdue c.start = true then
      (u.gainReason c.key .overlength).coils
    else u.coils
  stands : (u.line i).cut = .ordered ∨ ((u.line i).cut = .noCut ∧
    (u.line i).position < orderPoint c.start (u.line i).spec) → w = u
  orders : (u.line i).cut = .noCut → orderPoint c.start (u.line i).spec ≤ (u.line i).position →
    (∀ p, u.lanes[i] = some p → u.placesInUse p < 6) → w = u.orderCut i u.lanes[i] c.start
  waits : (u.line i).cut = .noCut → orderPoint c.start (u.line i).spec ≤ (u.line i).position →
    ∀ p, u.lanes[i] = some p → 6 ≤ u.placesInUse p →
    w.line i = { u.line i with
      cut := .held, reserved := some p,
      halted := (u.line i).halted || (u.line i).overdue c.start } ∧
    w.held = u.held.set p (u.held[p] ++ [i])
  keeps : (u.line i).cut = .held →
    w.line i = { u.line i with halted := (u.line i).halted || (u.line i).overdue c.start } ∧
    w.held = u.held

/-- R121: the overlength test of a HELD line. -/
theorem Works.overlengthTest_held {u : Works} {i : LineIx} {c : Coil}
    (hc : u.currentCoil? i = some c) (hcut : (u.line i).cut = .held) :
    ((u.overlengthTest i).line i = { u.line i with
      halted := (u.line i).halted || (u.line i).overdue c.start }) ∧
    (∀ j, j ≠ i → (u.overlengthTest i).line j = u.line j) ∧
    (u.overlengthTest i).held = u.held ∧ (u.overlengthTest i).coils =
      if (u.line i).halted = false ∧ (u.line i).overdue c.start = true then
        (u.gainReason c.key .overlength).coils
      else u.coils := by
  have hdue : ((u.line i).cut = .held ∧ (u.line i).halted = false ∧
      c.start + (u.line i).spec.target + (u.line i).spec.allowance ≤ (u.line i).position) ↔
      ((u.line i).halted = false ∧ (u.line i).overdue c.start = true) := by
    rw [Line.overdue, decide_eq_true_eq]
    exact and_iff_right hcut
  unfold Works.overlengthTest
  rw [hc]
  dsimp only
  by_cases h : (u.line i).halted = false ∧ (u.line i).overdue c.start = true
  · rw [if_pos (hdue.2 h), if_pos h]
    have hlines : ((u.modifyLine i fun l => { l with halted := true }).gainReason c.key
        .overlength).lines = (u.modifyLine i fun l => { l with halted := true }).lines := rfl
    refine ⟨?_, fun j hj => Works.line_of_lines_other hlines hj, rfl, ?_⟩
    · rw [Works.line_of_lines hlines, h.1, h.2]
      rfl
    · exact Works.gainReason_coils (w := u) (w' := u.modifyLine i fun l => { l with halted := true }) rfl
        (Works.coilLength_of_lines (f := fun l => { l with halted := true }) rfl fun _ => rfl) _ _
  · rw [if_neg (mt hdue.1 h), if_neg h]
    refine ⟨?_, fun _ _ => rfl, rfl, rfl⟩
    cases hh : (u.line i).halted
    · have ho : (u.line i).overdue c.start = false := by simpa [hh] using h
      rw [ho, Bool.false_or, ← hh]
    · rw [Bool.true_or, ← hh]

theorem Works.plannedCutTest_running {u : Works} {i : LineIx} {c : Coil}
    (hs : (u.line i).state = .running) (hc : u.currentCoil? i = some c) :
    u.plannedCutTest i = match (u.line i).cut with
      | .ordered => u
      | .held => u.overlengthTest i
      | .noCut => if orderPoint c.start (u.line i).spec ≤ (u.line i).position then
          u.requestCut i c.start else u := by
  unfold Works.plannedCutTest
  cases hcut : (u.line i).cut <;> simp only [hs, hc, hcut]

theorem Works.placeFree_iff (w : Works) (p : PackerIx) :
    w.placeFree p = true ↔ w.placesInUse p < 6 := decide_eq_true_iff

/-- R118 to R121, by the cut state, the order point and the lane. -/
theorem Works.cutTested_plannedCutTest {u : Works} {i : LineIx} {c : Coil}
    (hs : (u.line i).state = .running) (hc : u.currentCoil? i = some c) :
    u.cutTested (u.plannedCutTest i) i c := by
  obtain ⟨hlots, hwait, hlanes, hqueues, hnotices⟩ := Works.plannedCutTest_frame u i
  have htest := Works.plannedCutTest_running hs hc
  cases hcut : (u.line i).cut with
  | ordered =>
    rw [hcut] at htest
    dsimp only at htest
    rw [htest]
    exact ⟨rfl, fun _ _ => rfl, rfl, rfl, rfl, rfl, rfl, by simp [hcut], fun _ => rfl,
      by simp [hcut], by simp [hcut], by simp [hcut]⟩
  | held =>
    obtain ⟨hline, hothers, hheld, hcoils⟩ := Works.overlengthTest_held hc hcut
    rw [hcut] at htest
    dsimp only at htest
    have hcut' : ((u.plannedCutTest i).line i).cut = .held := by rw [htest, hline]; exact hcut
    refine ⟨by rw [htest, hline], fun j hj => by rw [htest, hothers j hj], hlots, hwait, hlanes,
      hqueues, hnotices, ?_, by simp [hcut], by simp [hcut], by simp [hcut],
      fun _ => by rw [htest]; exact ⟨hline, hheld⟩⟩
    rw [hcut', htest, hcoils]
    simp only [true_and]
  | noCut =>
    rw [hcut] at htest
    dsimp only at htest
    by_cases hop : orderPoint c.start (u.line i).spec ≤ (u.line i).position
    · rw [if_pos hop] at htest
      by_cases hfree : ∀ p, u.lanes[i] = some p → u.placesInUse p < 6
      · have hw : u.plannedCutTest i = u.orderCut i u.lanes[i] c.start := by
          rw [htest, Works.requestCut]
          cases hl : u.lanes[i] with
          | none => rfl
          | some p => exact if_pos ((u.placeFree_iff p).2 (hfree p hl))
        have hline : (u.orderCut i u.lanes[i] c.start).line i = _ :=
          Works.line_modifyLine_self u i _
        refine ⟨by rw [hw, hline], fun j hj => by rw [hw]; exact Works.line_modifyLine_other u i j _ hj,
          hlots, hwait, hlanes, hqueues, hnotices, ?_, ?_, fun _ _ _ => hw, ?_, by simp [hcut]⟩
        · rw [hw, hline]
          exact (if_neg (by simp)).symm
        · simp only [hcut, reduceCtorEq, true_and, false_or]
          exact fun hlt => absurd hop (not_le.2 hlt)
        · exact fun _ _ p hp h6 => absurd (hfree p hp) (not_lt.2 h6)
      · obtain ⟨p, hp, h6⟩ : ∃ p, u.lanes[i] = some p ∧ 6 ≤ u.placesInUse p := by
          simpa [not_lt] using hfree
        have hw : u.plannedCutTest i = u.holdCut i p := by
          rw [htest, Works.requestCut, hp]
          exact if_neg fun h => absurd ((u.placeFree_iff p).1 h) (not_lt.2 h6)
        let v := (u.modifyLine i fun l => { l with cut := .held, reserved := some p }).joinHeld p i
        have hlines : v.lines = (u.modifyLine i fun l =>
            { l with cut := .held, reserved := some p }).lines := rfl
        have hvline : v.line i = { u.line i with cut := .held, reserved := some p } :=
          Works.line_of_lines hlines
        have hvc : v.currentCoil? i = some c := by
          rw [Works.currentCoil?, hvline]; exact hc
        obtain ⟨hline, hothers, hheld, hcoils⟩ := Works.overlengthTest_held hvc (by rw [hvline])
        have hw' : u.plannedCutTest i = v.overlengthTest i := hw
        rw [hvline] at hline hcoils
        refine ⟨by rw [hw', hline], fun j hj => ?_, hlots, hwait, hlanes, hqueues, hnotices, ?_, ?_,
          ?_, fun _ _ p' hp' _ => ?_, by simp [hcut]⟩
        · rw [hw', hothers j hj]
          exact Works.line_of_lines_other hlines hj
        · rw [hw', hline, hcoils]
          have hlen : v.coilLength = u.coilLength := Works.coilLength_of_lines hlines fun _ => rfl
          rw [Works.gainReason_coils (w := u) (w' := v) rfl hlen]
          simp only [true_and]
          rfl
        · simp only [hcut, reduceCtorEq, true_and, false_or]
          exact fun hlt => absurd hop (not_le.2 hlt)
        · exact fun _ _ hf => absurd hf hfree
        · obtain rfl : p = p' := Option.some.inj (hp.symm.trans hp')
          rw [hw', hline, hheld]
          exact ⟨rfl, rfl⟩
    · rw [if_neg hop] at htest
      rw [htest]
      exact ⟨rfl, fun _ _ => rfl, rfl, rfl, rfl, rfl, rfl, by simp [hcut], fun _ => rfl,
        fun _ h => absurd h hop, fun _ h => absurd h hop, by simp [hcut]⟩

end Sys2Proof.Machine
end

section
namespace Sys2Proof.Machine

/-! # The hand-out of a freed coil entry (R26, R75, R95, R109) -/

/-! ## Reopened zones -/

/-- R75, R95, R109: the causes that go on, in the order their zones are asked for, with their
extreme values. -/
def Line.reopenAsks (l : Line) : List (Cause × Int) :=
  (if l.continues .twist then [(.twist, l.twist.extreme)] else []) ++
  (if l.continues .knot then [(.knot, (l.knot.extreme : Int))] else []) ++
  (if l.continues .slip then [(.slip, 0)] else [])

theorem Line.reopened_eq (l : Line) : l.reopened = l.reopenAsks.map Zone.from0 := by
  have ht : l.continues .twist = true ↔ (l.twist.band = .out ∨ l.twist.band = .recovering) := by
    simp [Line.continues]
  have hk : l.continues .knot = l.knot.faulted := rfl
  have hs : l.continues .slip = l.slip.slipping := rfl
  unfold Line.reopened Line.reopenAsks
  rw [List.map_append, List.map_append, hk, hs]
  refine congrArg₂ _ (congrArg₂ _ ?_ ?_) ?_
  · rw [← if_congr ht rfl rfl]
    split <;> rfl
  · split <;> rfl
  · split <;> rfl

theorem Line.reopenAsks_causes (l : Line) :
    (l.reopenAsks.map Prod.fst).Nodup ∧ l.reopenAsks.length ≤ 3 := by
  unfold Line.reopenAsks
  cases l.continues .twist <;> cases l.continues .knot <;> cases l.continues .slip <;>
    simp

theorem Works.reopenZones_eq (w : Works) (i : LineIx) (pos : Nat) :
    w.reopenZones i pos =
      (w.line i).reopenAsks.foldl (fun w q => w.requestOpen i q.1 pos q.2) w := by
  unfold Works.reopenZones Line.reopenAsks
  dsimp only
  cases (w.line i).continues .twist <;> cases (w.line i).continues .knot <;>
    cases (w.line i).continues .slip <;> rfl

theorem Works.raiseLine_twice (w : Works) (i : LineIx) (bits : Half) :
    (w.raiseLine i bits).raiseLine i bits = w.raiseLine i bits := by
  simp [Works.raiseLine, BitVec.or_assoc]

theorem Works.raiseLineIf_coils (u : Works) (due : Bool) (i : LineIx) (bits : Half) :
    (u.raiseLineIf due i bits).coils = u.coils := by
  unfold Works.raiseLineIf; split <;> rfl

theorem Works.raiseLineIf_lines (u : Works) (due : Bool) (i : LineIx) (bits : Half) :
    (u.raiseLineIf due i bits).lines = u.lines := by
  unfold Works.raiseLineIf; split <;> rfl

/-- R75, R95, R109: the zones that a served line asks for open on its fresh coil, with ZONE_OPENED. -/
theorem Works.freshAt.foldl_requestOpen {table : Vector (Option Coil) 96} {e : CoilIx}
    {i : LineIx} {pos : Nat} (qs : List (Cause × Int)) (hnd : (qs.map Prod.fst).Nodup) :
    ∀ (u : Works) (b : Coil), u.freshAt table e b → b.fresh → b.stop = none → b.line = i →
      b.start = pos → (u.line i).position = pos → (u.line i).coil = some b.key →
      (∀ z ∈ b.zones, z.cause ∉ qs.map Prod.fst) → b.zones.length + qs.length ≤ 8 →
      qs.foldl (fun w q => w.requestOpen i q.1 pos q.2) u =
        (u.withCoil table e (qs.foldl (Coil.openedAt0 0) b)).raiseLineIf (!qs.isEmpty) i 0x10 := by
  induction qs with
  | nil =>
    intro u b h _ _ _ _ _ _ _ _
    rw [Works.raiseLineIf, if_neg (by simp), Works.withCoil, List.foldl_nil, List.foldl_nil,
      ← h.coils]
  | cons q qs ih =>
    intro u b h hb hs hline hstart hpos hcoil hq hmax
    obtain ⟨hq0, hnd'⟩ := List.nodup_cons.1 (show (q.1 :: qs.map Prod.fst).Nodup from hnd)
    obtain ⟨hk, hline', hstart', hstop', -, hzones⟩ := Coil.openedAt0_frame 0 b q
    rw [List.length_cons] at hmax
    have hreq : u.requestOpen i q.1 pos q.2 =
        (u.withCoil table e (b.openedAt0 0 q)).raiseLine i 0x10 := by
      have hcur : u.currentCoil? i = some b := by
        rw [Works.currentCoil?, hcoil]; exact h.coil?
      have hstep := h.openZone hb hs q (fun z hz hc => hq z hz (by simp [hc])) (by omega) true
      rw [hline, hpos, hstart, Nat.sub_self] at hstep
      rw [Works.requestOpen, hcur]
      dsimp only
      rw [hstart, Nat.sub_self, hstep]
      rfl
    have hih := ih hnd' ((u.withCoil table e (b.openedAt0 0 q)).raiseLine i 0x10)
      (b.openedAt0 0 q) ((h.withCoil hk).of_coils rfl) (hb.openedAt0 0 q) (hstop'.trans hs)
      (hline'.trans hline) (hstart'.trans hstart) hpos (by rw [hk]; exact hcoil) ?_ ?_
    · rw [List.foldl_cons, List.foldl_cons, hreq, hih]
      unfold Works.raiseLineIf
      split
      · exact Works.raiseLine_twice (u.withCoil table e _) i 0x10
      · rfl
    · intro z hz
      rw [hzones, List.mem_append, List.mem_singleton] at hz
      rcases hz with hz | rfl
      · exact fun hc => hq z hz (List.mem_cons_of_mem _ hc)
      · exact hq0
    · rw [hzones, List.length_append, List.length_singleton]
      omega

/-! ## Serving a line -/

/-- R112: a coil without zones or reasons is FIRST. -/
theorem Coil.gradeAt_plain (c : Coil) (len : Nat) (hz : c.zones = []) (hr : c.reasons = []) :
    c.gradeAt len = .first := by
  simp [Coil.gradeAt, hz, hr, zoneShare]

/-- R20: the key that a coil of a lot takes is that of no coil in the table. -/
theorem Works.keyed.next_fresh {w : Works} (h : w.keyed) {lot : Lot} (hl : lot ∈ inUse w.lots)
    (j : CoilIx) (c : Coil) (hj : w.coils[j] = some c) : c.key ≠ ⟨lot.number, lot.nextSequence⟩ := by
  intro hk
  obtain ⟨l, hl', hnum, hseq⟩ := h.issued c ((mem_inUse _ _).2 ⟨j, hj⟩)
  rw [hk] at hnum hseq
  rw [h.sameLot hl' hl hnum] at hseq
  exact lt_irrefl _ hseq

/-- R139: the places in use at a packer are read at the queues and the lines' cuts. -/
theorem Works.placesInUse_congr {w w' : Works} (p : PackerIx) (hq : w'.queues = w.queues)
    (hl : ∀ j, (w'.line j).cut = (w.line j).cut ∧ (w'.line j).reserved = (w.line j).reserved) :
    w'.placesInUse p = w.placesInUse p := by
  have hr : w'.reservations p = w.reservations p :=
    List.filter_congr fun j _ => by rw [(hl j).1, (hl j).2]
  rw [Works.placesInUse, Works.placesInUse, hr, hq]

/-- R20, R26: the records when a waiting line has its coil and runs again. -/
def Works.served (v : Works) (i : LineIx) (t : Lot) (e : CoilIx) (rest : List LineIx) : Works :=
  { v with
    coils := v.coils.set e
      (some (Coil.opening ⟨t.number, t.nextSequence⟩ i (v.line i) (v.line i).position)),
    lots := mapTable (Option.map fun u =>
      if u.number = t.number then { u with nextSequence := u.nextSequence + 1 } else u) v.lots,
    lines := (v.modifyLine i fun l => { l with
      state := .running, starve := none, coil := some ⟨t.number, t.nextSequence⟩ }).lines,
    waitList := rest }

theorem Works.modifyLine_modifyLine (w : Works) (i : LineIx) (f g : Line → Line) :
    (w.modifyLine i f).modifyLine i g = w.modifyLine i fun l => g (f l) := by
  simp [Works.modifyLine]

theorem Works.served_eq {v v' : Works} {i : LineIx} {t : Lot} {e : CoilIx}
    (rest : List LineIx) (ht : (v.line i).lot.bind v.lot? = some t)
    (he : lowestFree v.coils = some e) (ho : v.openCoil i (v.line i).position = .ok v') :
    ({ v' with waitList := rest }.modifyLine i fun l => { l with state := .running, starve := none }) =
      v.served i t e rest := by
  obtain ⟨t', e', ht', -, he', rfl⟩ := Works.openCoil_ok v v' i _ ho
  obtain rfl : t' = t := Option.some.inj (ht'.symm.trans ht)
  obtain rfl : e' = e := Option.some.inj (he'.symm.trans he)
  unfold Works.served
  simp [Works.modifyLine, Works.modifyLot]

theorem Works.resumeServed_eq {v v' : Works} {i : LineIx} {t : Lot} {e : CoilIx}
    (rest : List LineIx) (ht : (v.line i).lot.bind v.lot? = some t)
    (he : lowestFree v.coils = some e) (ho : v.openCoil i (v.line i).position = .ok v') :
    Works.resumeServed { v' with waitList := rest } i =
      ((v.served i t e rest).reopenZones i (v.line i).position).plannedCutTest i := by
  have hlines : (v.served i t e rest).lines = (v.modifyLine i fun l => { l with
      state := .running, starve := none, coil := some ⟨t.number, t.nextSequence⟩ }).lines := rfl
  unfold Works.resumeServed
  dsimp only
  rw [Works.served_eq rest ht he ho, Works.line_of_lines hlines]

/-- R121: the coil of a fresh entry after a planned-cut test. -/
theorem Works.freshAt.cutTested_coils {u w : Works} {table : Vector (Option Coil) 96} {e : CoilIx}
    {i : LineIx} {b : Coil} {len : Nat} (h : u.freshAt table e b) (hs : b.stop = none)
    (hlen : (u.line b.line).position - b.start = len) (ht : u.cutTested w i b)
    (hf : b.final = false) (hg : b.grade = b.gradeAt len) :
    ∃ b', w.coils = table.set e (some b') ∧
      b' = { b with reasons := b'.reasons, grade := b'.grade } ∧
      (∀ r, r ≠ .overlength → (r ∈ b'.reasons ↔ r ∈ b.reasons)) ∧ b'.grade = b'.gradeAt len := by
  rw [ht.coils]
  split
  · refine ⟨b.gains .overlength len, ?_, Coil.gains_eq _ _ _, fun r hr => ?_,
      Coil.gains_grade b .overlength len hf (.inr hg)⟩
    · rw [Works.gainReason_eq, h.modifyCoil, u.coilLength_open b hs, hlen]
      rfl
    · rw [Coil.mem_gains]
      exact or_iff_left hr
  · exact ⟨b, h.coils, rfl, fun _ _ => Iff.rfl, hg⟩

theorem orderPoint_le_start (start : Nat) (sp : Spec) :
    orderPoint start sp ≤ start ↔ sp.target ≤ sp.cutLead := by
  unfold orderPoint
  omega

/-- R26: the line that takes the freed entry. -/
theorem Works.keyed.servedAs_resumeServed {v v' : Works} (h : v.keyed) {i : LineIx} {t : Lot}
    {e : CoilIx} {rest : List LineIx} (ht : (v.line i).lot.bind v.lot? = some t)
    (he : lowestFree v.coils = some e) (ho : v.openCoil i (v.line i).position = .ok v') :
    let w := Works.resumeServed { v' with waitList := rest } i
    v.servedAs w i t e ∧ (∀ j, j ≠ i → w.line j = v.line j) ∧ w.waitList = rest ∧
    w.lanes = v.lanes ∧ w.queues = v.queues := by
  intro w
  let l := v.line i
  let u0 := v.served i t e rest
  let b0 := Coil.opening ⟨t.number, t.nextSequence⟩ i l l.position
  let b1 := l.reopenAsks.foldl (Coil.openedAt0 0) b0
  let u1 := (u0.withCoil v.coils e b1).raiseLineIf (!l.reopenAsks.isEmpty) i 0x10
  have hlot : t ∈ inUse v.lots := by
    obtain ⟨n, -, hn⟩ := Option.bind_eq_some_iff.1 ht
    exact (Works.lot?_some v n t hn).1
  have hlines : u0.lines = (v.modifyLine i fun l => { l with
      state := .running, starve := none, coil := some ⟨t.number, t.nextSequence⟩ }).lines := rfl
  have hline0 : u0.line i = { l with
      state := .running, starve := none, coil := some ⟨t.number, t.nextSequence⟩ } :=
    Works.line_of_lines hlines
  have hfresh0 : u0.freshAt v.coils e b0 := ⟨rfl, fun j _ c hc => h.next_fresh hlot j c hc⟩
  obtain ⟨hnd, hlen⟩ := l.reopenAsks_causes
  obtain ⟨hframe, hreasons, hgrade⟩ := Coil.foldl_openedAt0 0 l.reopenAsks b0
  have hu1 : u0.reopenZones i l.position = u1 := by
    rw [Works.reopenZones_eq, hline0]
    exact Works.freshAt.foldl_requestOpen l.reopenAsks hnd u0 b0 hfresh0 ⟨nofun, rfl⟩ rfl rfl rfl
      (by rw [hline0]) (by rw [hline0]; rfl) nofun (show 0 + l.reopenAsks.length ≤ 8 by omega)
  have hw : w = u1.plannedCutTest i := by
    rw [← hu1]
    exact Works.resumeServed_eq rest ht he ho
  have hline1 : u1.line i = { l with
      state := .running, starve := none, coil := some ⟨t.number, t.nextSequence⟩ } :=
    (Works.line_congr (Works.raiseLineIf_lines (u0.withCoil v.coils e b1) _ i 0x10) i).trans hline0
  have hothers1 : ∀ j, j ≠ i → u1.line j = v.line j := fun j hj =>
    (Works.line_congr (Works.raiseLineIf_lines (u0.withCoil v.coils e b1) _ i 0x10) j).trans
      (Works.line_of_lines_other hlines hj)
  have hkey1 : b1.key = b0.key := by rw [show b1 = _ from hframe]
  have hfresh1 : u1.freshAt v.coils e b1 :=
    (hfresh0.withCoil hkey1).of_coils (Works.raiseLineIf_coils _ _ i 0x10)
  have hstart1 : b1.start = l.position := by rw [show b1 = _ from hframe]; rfl
  have hbline1 : b1.line = i := by rw [show b1 = _ from hframe]; rfl
  have hcur1 : u1.currentCoil? i = some b1 := by
    rw [Works.currentCoil?, hline1, ← hfresh1.coil?, hkey1]
    rfl
  have htest : u1.cutTested w i b1 := by
    rw [hw]
    exact Works.cutTested_plannedCutTest (by rw [hline1]) hcur1
  have hlen1 : (u1.line b1.line).position - b1.start = 0 := by
    rw [hbline1, hline1, hstart1, Nat.sub_self]
  have hfinal1 : b1.final = false := by rw [show b1 = _ from hframe]; rfl
  have hgrade1 : b1.grade = b1.gradeAt 0 := hgrade rfl (Coil.gradeAt_plain b0 0 rfl rfl).symm
  obtain ⟨b2, hcoils2, hframe2, hreasons2, hgrade2⟩ := hfresh1.cutTested_coils
    (by rw [show b1 = _ from hframe]; rfl) hlen1 htest hfinal1 hgrade1
  have hplaces : ∀ p, u1.placesInUse p = v.placesInUse p := by
    intro p
    refine Works.placesInUse_congr p (by unfold u1 Works.raiseLineIf; split <;> rfl) fun j => ?_
    by_cases hj : j = i
    · rw [hj, hline1]; exact ⟨rfl, rfl⟩
    · rw [hothers1 j hj]; exact ⟨rfl, rfl⟩
  have hlanes1 : u1.lanes = v.lanes := by unfold u1 Works.raiseLineIf; split <;> rfl
  have hheld1 : u1.held = v.held := by unfold u1 Works.raiseLineIf; split <;> rfl
  have hpoint : orderPoint b1.start l.spec ≤ l.position ↔ l.spec.target ≤ l.spec.cutLead := by
    rw [hstart1]; exact orderPoint_le_start _ _
  have hstands := htest.stands
  have horders := htest.orders
  have hwaits := htest.waits
  rw [hline1] at hstands horders hwaits
  refine ⟨⟨⟨b2, hcoils2, ?_, ?_⟩, ?_, fun hcut hlt => ?_, fun hcut hle hfree => ?_,
    fun hcut hle p hp h6 => ?_, ?_, ?_⟩, fun j hj => (htest.others j hj).trans (hothers1 j hj), ?_,
    htest.lanes.trans hlanes1, ?_⟩
  · refine hframe2.trans ?_
    rw [← hgrade2, show b1 = _ from hframe, Line.reopened_eq]
    rfl
  · intro r hr
    rw [hreasons2 r hr, hreasons, Line.reopened_eq]
    simp [b0, l, Coil.opening]
  · exact htest.line.trans (by rw [hline1])
  · rw [hstands (.inr ⟨hcut, not_le.1 fun hle => not_lt.2 (hpoint.1 hle) hlt⟩), hline1]
    exact ⟨hcut, rfl, rfl, hheld1⟩
  · rw [horders hcut (hpoint.2 hle) fun p hp => by
      rw [hplaces]; exact hfree p (hlanes1 ▸ hp)]
    have hline : (u1.orderCut i u1.lanes[i] b1.start).line i = _ := Works.line_modifyLine_self u1 i _
    rw [hline, hline1, hlanes1, hstart1]
    exact ⟨rfl, rfl, rfl, rfl, hheld1⟩
  · obtain ⟨hline, hheld⟩ := hwaits hcut (hpoint.2 hle) p (by rw [hlanes1]; exact hp)
      (by rw [hplaces]; exact h6)
    rw [hline, hheld, hheld1]
    refine ⟨rfl, rfl, fun htarget => ?_, rfl⟩
    have hover : Line.overdue { l with
        state := .running, starve := none, coil := some ⟨t.number, t.nextSequence⟩ } b1.start =
        false := by
      rw [hstart1]
      simp only [Line.overdue, decide_eq_false_iff_not]
      have : 0 < l.spec.target := htarget
      omega
    rw [hover]
    exact Bool.or_false _
  · rw [htest.lots]
    unfold u1 Works.raiseLineIf
    split <;> rfl
  · rw [htest.notices, Line.reopened_eq]
    unfold u1 Works.raiseLineIf
    cases l.reopenAsks <;> rfl
  · rw [htest.waitList]
    unfold u1 Works.raiseLineIf
    split <;> rfl
  · rw [htest.queues]
    unfold u1 Works.raiseLineIf
    split <;> rfl

/-! ## The wait list, from its head -/

/-- R26: a line is passed over exactly when its lot has no sequence left. -/
theorem Works.exhausted_iff (w : Works) (i : LineIx) : w.exhausted i = true ↔
    ∀ pos, w.openCoil i pos = .error .seqExhausted := by
  unfold Works.exhausted
  constructor
  · intro h pos
    cases hl : (w.line i).lot.bind w.lot? with
    | none => unfold Works.openCoil; rw [hl]
    | some lot =>
      rw [hl] at h
      exact Works.openCoil_exhausted pos hl (of_decide_eq_true h)
  · intro h
    have h0 := h 0
    cases hl : (w.line i).lot.bind w.lot? with
    | none => rfl
    | some lot =>
      by_contra hs
      have hs' : ¬ 10000 ≤ lot.nextSequence := fun hle => hs (decide_eq_true hle)
      cases he : lowestFree w.coils with
      | none => rw [Works.openCoil_full 0 hl hs' he] at h0; cases h0
      | some e => rw [Works.openCoil_eq 0 hl hs' he] at h0; cases h0

theorem Works.openCoil_of_not_exhausted {w : Works} {i : LineIx} (h : w.exhausted i = false)
    {e : CoilIx} (he : lowestFree w.coils = some e) (pos : Nat) :
    ∃ lot w', (w.line i).lot.bind w.lot? = some lot ∧ w.openCoil i pos = .ok w' := by
  unfold Works.exhausted at h
  cases hl : (w.line i).lot.bind w.lot? with
  | none => rw [hl] at h; cases h
  | some lot =>
    rw [hl] at h
    exact ⟨lot, _, rfl, Works.openCoil_eq pos hl (of_decide_eq_false h) he⟩

/-- R26: the records when the line at the head of the wait list has been passed over. -/
def Works.passedOver (w : Works) (i : LineIx) (rest : List LineIx) : Works :=
  { w with waitList := rest }.modifyLine i fun l => { l with starve := some .seqExhausted }

theorem Works.passedOver_line (w : Works) (i j : LineIx) (rest : List LineIx) :
    (w.passedOver i rest).line j =
      if j = i then { w.line i with starve := some .seqExhausted } else w.line j :=
  Works.line_modifyLine _ i j _

theorem Works.passedOver_exhausted (w : Works) (i : LineIx) (rest : List LineIx) :
    (w.passedOver i rest).exhausted = w.exhausted := by
  funext j
  have hlot : ((w.passedOver i rest).line j).lot = (w.line j).lot := by
    rw [Works.passedOver_line]
    split
    · next h => rw [h]
    · rfl
  unfold Works.exhausted
  rw [hlot]
  rfl

theorem Works.passedOver_placesInUse (w : Works) (i : LineIx) (rest : List LineIx) (p : PackerIx) :
    (w.passedOver i rest).placesInUse p = w.placesInUse p := by
  refine Works.placesInUse_congr p rfl fun j => ?_
  rw [Works.passedOver_line]
  split
  · next h => rw [h]; exact ⟨rfl, rfl⟩
  · exact ⟨rfl, rfl⟩

theorem Works.servedAs_of_passedOver {v w : Works} {i i' : LineIx} {rest : List LineIx} {t : Lot}
    {e : CoilIx} (h : (v.passedOver i rest).servedAs w i' t e) (hi : i' ≠ i) :
    v.servedAs w i' t e := by
  have hline : (v.passedOver i rest).line i' = v.line i' := by
    rw [Works.passedOver_line, if_neg hi]
  have hplaces := v.passedOver_placesInUse i rest
  obtain ⟨hcoil, hl, hearly, hordered, hwaits, hlots, hnotices⟩ := h
  rw [hline] at hcoil hl hearly hordered hwaits hnotices
  simp only [hplaces] at hordered hwaits
  refine ⟨hcoil, hl, hearly, hordered, hwaits, hlots, hnotices.trans ?_⟩
  split <;> rfl

/-- R26: the wait list is served from its head. -/
theorem Works.handedOut_serve (waiting : List LineIx) : ∀ v : Works, v.keyed →
    v.waitList = waiting → lowestFree v.coils ≠ none → v.handedOut (Works.serve waiting v) := by
  induction waiting with
  | nil =>
    intro v _ hw _
    refine ⟨?_, ?_, ?_, rfl, rfl, ?_, ?_⟩ <;> rw [hw]
    · exact hw
    · exact nofun
    · exact fun _ _ _ => rfl
    · exact fun _ => ⟨rfl, rfl, rfl, rfl⟩
    · exact nofun
  | cons i rest ih =>
    intro v hv hw hfree
    obtain ⟨e, he⟩ := Option.ne_none_iff_exists'.1 hfree
    cases hx : v.exhausted i with
    | true =>
      have hserve : Works.serve (i :: rest) v = Works.serve rest (v.passedOver i rest) := by
        rw [Works.serve, (v.exhausted_iff i).1 hx]
        rfl
      obtain ⟨hwait, hpassed, hothers, hlanes, hqueues, hnone, hserved⟩ :=
        ih (v.passedOver i rest) (hv.of_eq rfl rfl) rfl hfree
      rw [v.passedOver_exhausted] at hwait hpassed hothers hnone hserved
      have hdrop : v.waitList.dropWhile v.exhausted = rest.dropWhile v.exhausted := by
        rw [hw, List.dropWhile_cons_of_pos hx]
      have htake : v.waitList.takeWhile v.exhausted = i :: rest.takeWhile v.exhausted := by
        rw [hw, List.takeWhile_cons_of_pos hx]
      have hhead : (rest.dropWhile v.exhausted).head? ≠ some i := by
        intro hh
        have := List.head?_dropWhile_not v.exhausted rest
        rw [hh] at this
        simp [hx] at this
      rw [hserve]
      refine ⟨by rw [hdrop]; exact hwait, fun j hj => ?_, fun j hj hh => ?_, hlanes, hqueues,
        fun hd => ?_, fun i' t e' hi' ht he' => ?_⟩
      · by_cases hjr : j ∈ rest.takeWhile v.exhausted
        · rw [hpassed j hjr, Works.passedOver_line]
          split
          · next h => rw [h]
          · rfl
        · rw [htake, List.mem_cons] at hj
          obtain rfl : j = i := hj.resolve_right hjr
          rw [hothers j hjr hhead, Works.passedOver_line, if_pos rfl]
      · rw [htake, List.mem_cons, not_or] at hj
        rw [hdrop] at hh
        rw [hothers j hj.2 hh, Works.passedOver_line, if_neg hj.1]
      · rw [hdrop] at hd
        exact hnone hd
      · rw [hdrop] at hi'
        have hne : i' ≠ i := fun h => hhead (h ▸ hi')
        refine Works.servedAs_of_passedOver (hserved i' t e' hi' ?_ he') hne
        rw [Works.passedOver_line, if_neg hne]
        exact ht
    | false =>
      obtain ⟨lot, v', hl, ho⟩ := Works.openCoil_of_not_exhausted hx he (v.line i).position
      have hserve : Works.serve (i :: rest) v =
          Works.resumeServed { v' with waitList := rest } i := by
        rw [Works.serve, ho]
      have hdrop : v.waitList.dropWhile v.exhausted = i :: rest := by
        rw [hw, List.dropWhile_cons_of_neg (by simp [hx])]
      have htake : v.waitList.takeWhile v.exhausted = [] := by
        rw [hw, List.takeWhile_cons_of_neg (by simp [hx])]
      obtain ⟨hserved, hothers, hwait, hlanes, hqueues⟩ :=
        hv.servedAs_resumeServed (rest := rest) hl he ho
      rw [hserve]
      refine ⟨by rw [hdrop]; exact hwait, by rw [htake]; exact nofun, fun j _ hj => ?_, hlanes,
        hqueues, by rw [hdrop]; exact nofun, fun i' t e' hi' ht he' => ?_⟩
      · rw [hdrop] at hj
        exact hothers j fun h => hj (by rw [h]; rfl)
      · rw [hdrop] at hi'
        obtain rfl : i = i' := Option.some.inj hi'
        obtain rfl : lot = t := Option.some.inj (hl.symm.trans ht)
        obtain rfl : e = e' := Option.some.inj (he.symm.trans he')
        exact hserved

theorem Works.keyed.retired {w : Works} (h : w.keyed) (c : Coil) : (w.retired c).keyed := by
  have hadd : (w.addRetired c.key.lot (w.coilLength c)).keyed := by
    unfold Works.addRetired
    rw [Works.raiseSaturated_eq]
    exact (h.modifyLot c.key.lot (fun l => { l with retired := addLength l.retired (w.coilLength c) })
      fun _ _ => ⟨rfl, le_rfl⟩).of_eq rfl rfl
  exact (hadd.modifyLot c.key.lot (fun t => { t with coilsRetired := t.coilsRetired + 1 })
    fun _ _ => ⟨rfl, le_rfl⟩).removeCoil c.key

/-- Settles O20: the retired coil's entry is free, and the wait list is served from its head. -/
theorem freedEntryServesTheWaitList : Obligations.FreedEntryServesTheWaitList := by
  intro args s c hkeys hl ht hk hc
  have hkeyed : (s.works.retired c).keyed := ((s.keysLawful_iff).1 hkeys).retired c
  refine ⟨s.works.retired c, s.works.retire c, exec_coilRetire_sealed hl ht hk hc,
    by rw [Works.retired_eq], Works.handedOut_serve _ _ hkeyed rfl fun hnone => ?_⟩
  obtain ⟨e, he⟩ := (mem_inUse _ _).1 (Works.coil?_some _ _ _ hk).1
  have hsome := lowestFree_none _ hnone e
  rw [Works.retired_eq] at hsome
  simp only [mapTable_getFin, he] at hsome
  simp [Option.filter] at hsome

end Sys2Proof.Machine
end

section
namespace Sys2Proof.Machine

/-! # The first TALLY of a line (R35, R36, R118, R119, R121) -/

/-- R160: a frame that is due whose content changes the records alone. -/
theorem State.expects.takeFrame_works {s : State} {d : StationIx} {role : Role} {a q kind : Byte}
    {payload : List Byte} {x : Content} (h : s.expects d role a q payload)
    (hc : contentOf kind payload = some x) (hx : x.allowed role = true) {w : Works}
    (hp : (s.inSequence d q).passFrame d role x = { s.inSequence d q with works := w }) :
    s.takeFrame kind a q payload = s.afterReply d q none w := by
  rw [h.takeFrame_content hc hx, hp]
  exact s.inSequence_works d q w

/-- R35, R160: a TALLY that is due reaches the Length Unit. -/
theorem State.expects.exec_tally {s : State} {d : StationIx} {i : LineIx} {a q : Byte}
    {payload : List Byte} (h : s.expects d (.line i) a q payload)
    (hl : tallyLengthOk payload.length = true) :
    exec (.tally a q payload) s = .next (s.afterReply d q none
      (s.works.tally s.settings.slipPermille i (countFrameOf payload 1 (entriesOf (payload.drop 9))
        ((statusOf payload).getLsbD 2)))) := by
  have hl' : 9 ≤ payload.length ∧ payload.length ≤ 33 ∧ (payload.length - 9) % 3 = 0 := by
    simpa [tallyLengthOk] using hl
  rw [exec_frame rfl]
  exact congrArg _ (h.takeFrame_works (kind := 0x11) (if_pos hl') rfl rfl)

/-- R46, R160: a MARK that is due reaches the Length Unit. -/
theorem State.expects.exec_mark {s : State} {d : StationIx} {i : LineIx} {a q : Byte}
    {payload : List Byte} {k : MarkKind} (h : s.expects d (.line i) a q payload)
    (hl : payload.length = 10) (hk : markKindOf (payload.getD 1 0) = some k) :
    exec (.mark a q payload) s = .next (s.afterReply d q none
      (s.works.mark s.settings.slipPermille i k (countFrameOf payload 2 [] false))) := by
  rw [exec_frame rfl]
  refine congrArg _ (h.takeFrame_works (kind := 0x12)
    (x := .mark k (countFrameOf payload 2 [] false)) ((if_pos hl).trans ?_) rfl rfl)
  rw [hk]
  rfl

theorem Works.modifyLine_const (w : Works) (i : LineIx) (f : Line → Line) :
    w.modifyLine i f = w.modifyLine i fun _ => f (w.line i) := rfl

theorem Works.currentCoil?_congr {w w' : Works} {i : LineIx} (hl : (w'.line i).coil = (w.line i).coil)
    (hc : w'.coils = w.coils) : w'.currentCoil? i = w.currentCoil? i := by
  rw [Works.currentCoil?, hl, show w'.coil? = w.coil? from funext (Works.coil?_congr hc)]
  rfl

theorem Works.currentCoil?_key {w : Works} {i : LineIx} {c : Coil} (h : w.currentCoil? i = some c) :
    (w.line i).coil = some c.key ∧ w.coil? c.key = some c := by
  obtain ⟨k, hk, hc⟩ := Option.bind_eq_some_iff.1 h
  obtain rfl := (Works.coil?_some w k c hc).2
  exact ⟨hk, hc⟩

theorem Works.currentCoil?_of {w : Works} {i : LineIx} {c : Coil} (hl : (w.line i).coil = some c.key)
    (hc : w.coil? c.key = some c) : w.currentCoil? i = some c := by
  rw [Works.currentCoil?, hl]; exact hc

/-- The current coil after a planned-cut test, and the other coils. -/
theorem Works.cutTested.currentCoil? {u w : Works} {i : LineIx} {c : Coil} (h : u.cutTested w i c)
    (hc : u.currentCoil? i = some c) :
    w.currentCoil? i = some (if (w.line i).cut = .held ∧ (u.line i).halted = false ∧
      (u.line i).overdue c.start = true then c.gains .overlength (u.coilLength c) else c) ∧
    ∀ k, k ≠ c.key → w.coil? k = u.coil? k := by
  obtain ⟨hkey, hk⟩ := Works.currentCoil?_key hc
  have hkey' : (w.line i).coil = some c.key := by rw [h.line]; exact hkey
  have hgkey : ∀ b : Coil, (b.gains .overlength (u.coilLength b)).key = b.key := fun b => by
    rw [Coil.gains_eq]
  have hcoils := h.coils
  split at hcoils
  · next hif =>
    rw [if_pos hif]
    have hself := Works.coil?_modifyCoil_self u c.key
      (fun b => b.gains .overlength (u.coilLength b)) c hgkey hk
    refine ⟨Works.currentCoil?_of (by rw [hgkey]; exact hkey') ?_, fun k hne => ?_⟩
    · rw [hgkey, Works.coil?_congr (w := u.gainReason c.key .overlength) hcoils]
      exact hself
    · rw [Works.coil?_congr (w := u.gainReason c.key .overlength) hcoils]
      exact Works.coil?_modifyCoil_other u c.key k _ hgkey hne
  · next hif =>
    rw [if_neg hif]
    exact ⟨Works.currentCoil?_of hkey' (by rw [Works.coil?_congr hcoils]; exact hk),
      fun k _ => Works.coil?_congr hcoils k⟩

/-- R36: the line when its first counts are its baselines. -/
def Line.based (l : Line) (counts : Counts) : Line :=
  { l with baselines := counts, baselinesValid := true, state := .running }

/-- R36, R118: the first counts, and the planned-cut test of the line's coil. -/
theorem Works.takeBaselines_cutTested {w : Works} {i : LineIx} {c : Coil}
    (hc : w.currentCoil? i = some c) (counts : Counts) :
    (w.modifyLine i fun l => l.based counts).cutTested (w.takeBaselines i counts) i c ∧
    (w.modifyLine i fun l => l.based counts).currentCoil? i = some c := by
  have hline := Works.line_modifyLine_self w i fun l => l.based counts
  have hcur : (w.modifyLine i fun l => l.based counts).currentCoil? i = some c :=
    (Works.currentCoil?_congr (w := w) (w' := w.modifyLine i fun l => l.based counts) (i := i)
      (by rw [hline]; rfl) rfl).trans hc
  exact ⟨Works.cutTested_plannedCutTest (by rw [hline]; rfl) hcur, hcur⟩

/-- Settles O39: the cases of the planned-cut test. -/
theorem tallyTakesTheBaselines : Obligations.TallyTakesTheBaselines := by
  intro s d i a q payload h hl l based
  rw [h.exec_tally hl]
  refine ⟨fun hs => ?_, fun c hs hc hcut => ?_⟩
  · rw [Works.tally, hs]
  intro orderAt
  have hw : s.works.tally s.settings.slipPermille i (countFrameOf payload 1
      (entriesOf (payload.drop 9)) ((statusOf payload).getLsbD 2)) =
      s.works.takeBaselines i (countsAt payload 1) := by
    rw [Works.tally, show (s.works.line i).state = .primed from hs]
    rfl
  rw [hw]
  obtain ⟨htest, hcur⟩ := Works.takeBaselines_cutTested hc (countsAt payload 1)
  have hline : (s.works.modifyLine i fun l => l.based (countsAt payload 1)).line i = based :=
    Works.line_modifyLine_self s.works i _
  have hplaces : ∀ p, (s.works.modifyLine i fun l => l.based (countsAt payload 1)).placesInUse p =
      s.works.placesInUse p := by
    intro p
    refine Works.placesInUse_congr p rfl fun j => ?_
    rw [Works.line_modifyLine]
    split
    · next hj => rw [hj]; exact ⟨rfl, rfl⟩
    · exact ⟨rfl, rfl⟩
  have hstands := htest.stands
  have horders := htest.orders
  have hwaits := htest.waits
  rw [hline] at hstands horders hwaits
  refine ⟨fun hlt => ?_, fun hle p hp hfree => ?_, fun hle hhalt p hp h6 => ?_⟩
  · rw [hstands (.inr ⟨hcut, hlt⟩)]
    rfl
  · rw [horders hcut hle fun x hx => by rw [hplaces]; exact hfree x (hp.symm.trans hx)]
    refine congrArg (fun w => Host.Outcome.next (s.afterReply d q none w)) ?_
    rw [Works.orderCut, Works.modifyLine_modifyLine, Works.modifyLine_const, ← hp]
    rfl
  · intro halts
    obtain ⟨hwl, hheld⟩ := hwaits hcut hle p hp (by rw [hplaces]; exact h6)
    obtain ⟨hcoil, -⟩ := htest.currentCoil? hcur
    have hhalt' : based.halted = false := hhalt
    have hover : based.overdue c.start = halts := rfl
    rw [hhalt', hover, Bool.false_or] at hwl
    rw [hwl, hline] at hcoil
    refine ⟨_, _, rfl, hwl, hheld, hcoil, fun hh => ?_, fun hh => ?_, fun j hj => ?_, htest.lots,
      htest.waitList, htest.lanes, htest.queues, htest.notices⟩
    · rw [if_pos ⟨rfl, hhalt', hover.trans hh⟩, Coil.mem_gains]
      exact .inr rfl
    · rw [if_neg fun hcond => by rw [hover, hh] at hcond; exact nomatch hcond.2.2]
    · rw [htest.others j hj]
      exact Works.line_modifyLine_other s.works i j _ hj

end Sys2Proof.Machine
end

section
namespace Sys2Proof.Machine

/-! # Zone requests (R100 to R105) -/

/-! ## A coil and its zone list -/

/-- The coil `b` is `c` but for its counters, the order of its reasons, and its grade. -/
def Coil.alike (c b : Coil) : Prop :=
  b = { c with
    reasons := b.reasons, grade := b.grade, slipTallies := b.slipTallies,
    faultRows := b.faultRows, missedKnots := b.missedKnots, excessKnots := b.excessKnots } ∧
  ∀ r, r ∈ b.reasons ↔ r ∈ c.reasons

theorem Coil.alike.refl (c : Coil) : c.alike c := ⟨rfl, fun _ => Iff.rfl⟩

theorem Coil.alike.trans {c b d : Coil} (h : c.alike b) (h' : b.alike d) : c.alike d := by
  refine ⟨?_, fun r => (h'.2 r).trans (h.2 r)⟩
  rw [h'.1, h.1]

/-- R43, R87: the counters of a coil that a tally raises. -/
def Coil.tallies (c : Coil) : Nat × Nat × Nat × Nat :=
  (c.slipTallies, c.faultRows, c.missedKnots, c.excessKnots)

theorem Coil.alike.exact {c b : Coil} (h : c.alike b) (ht : b.tallies = c.tallies) :
    b = { c with reasons := b.reasons, grade := b.grade } := by
  simp only [Coil.tallies, Prod.mk.injEq] at ht
  obtain ⟨h1, h2, h3, h4⟩ := ht
  refine h.1.trans ?_
  rw [h1, h2, h3, h4]

theorem Coil.alike.key {c b : Coil} (h : c.alike b) : b.key = c.key := by rw [h.1]
theorem Coil.alike.start {c b : Coil} (h : c.alike b) : b.start = c.start := by rw [h.1]
theorem Coil.alike.line {c b : Coil} (h : c.alike b) : b.line = c.line := by rw [h.1]
theorem Coil.alike.final {c b : Coil} (h : c.alike b) : b.final = c.final := by rw [h.1]

theorem Coil.regraded_alike (c : Coil) (len : Nat) : c.alike (c.regraded len) := by
  rw [Coil.regraded_eq]
  exact ⟨rfl, fun _ => Iff.rfl⟩

/-- R101, R102: an open listed zone of a cause. -/
theorem Coil.openZone?_iff (c : Coil) (q : Cause) :
    (c.openZone? q).isSome = true ↔ ∃ z ∈ c.zones, z.cause = q ∧ z.stop = none := by
  simp [Coil.openZone?, List.find?_isSome, Zone.openOf]

theorem Coil.hasOpen_iff (c : Coil) (q : Cause) : c.hasOpen q = true ↔
    (∃ z ∈ c.zones, z.cause = q ∧ z.stop = none) ∨ q ∈ c.unlistedOpen := by
  rw [Coil.hasOpen, Bool.or_eq_true, Coil.openZone?_iff, List.contains_iff_mem]

theorem insertZone_eq (z : Zone) (zs : List Zone) : insertZone z zs =
    (zs.takeWhile fun y => decide (y.start ≤ z.start)) ++
      z :: zs.dropWhile fun y => decide (y.start ≤ z.start) := by
  induction zs with
  | nil => rfl
  | cons y ys ih =>
    by_cases h : y.start ≤ z.start
    · simp [insertZone, h, ih]
    · simp [insertZone, h]

theorem Coil.zoneStart_eq (c : Coil) (q : Cause) (pos : Nat) : c.zoneStart q pos =
    ((c.zones.filter fun z => decide (z.cause = q)).map fun z => z.stop.getD 0).foldl max pos := by
  rw [Coil.zoneStart, List.foldl_map]

/-- R101: what an open request that is no duplicate leaves of a coil. -/
theorem Coil.asked_openAt {c : Coil} {q : Cause} (h : c.hasOpen q = false) (pos : Nat) (x : Int) :
    c.asked (.openAt q pos x) = ({ c.openZone q (pos - c.start) x with
      reasons := (if 8 ≤ c.zones.length then .zoneOverflow else .zones) :: c.reasons }, true) := by
  have hno : ¬ ((∃ z ∈ c.zones, z.cause = q ∧ z.stop = none) ∨ q ∈ c.unlistedOpen) := by
    rw [← Coil.hasOpen_iff, h]; exact Bool.false_ne_true
  have hlim : Config.zoneLimit = 8 := rfl
  unfold Coil.asked Coil.openZone
  dsimp only
  rw [if_neg hno, hlim]
  by_cases h8 : 8 ≤ c.zones.length
  · rw [if_pos h8, if_pos h8, if_pos h8, Coil.placeZone_full _ _ h8, Coil.withReason_eq]
  · rw [if_neg h8, if_neg h8, if_neg h8, Coil.placeZone_listed _ _ (not_le.1 h8),
      Coil.withReason_eq, insertZone_eq, Coil.zoneStart_eq]

theorem Coil.asked_openAt_again {c : Coil} {q : Cause} (h : c.hasOpen q = true) (pos : Nat)
    (x : Int) : c.asked (.openAt q pos x) = (c, false) :=
  if_pos ((c.hasOpen_iff q).1 h)

theorem Coil.mem_openZone_reasons (c : Coil) (q : Cause) (pos : Nat) (x : Int) (r : Reason) :
    r ∈ (c.openZone q pos x).reasons ↔
      r ∈ c.reasons ∨ r = if 8 ≤ c.zones.length then .zoneOverflow else .zones := by
  have hlim : Config.zoneLimit = 8 := rfl
  unfold Coil.openZone
  dsimp only
  rw [hlim]
  by_cases h8 : 8 ≤ c.zones.length
  · rw [if_pos h8, if_pos h8, Coil.placeZone_full _ _ h8]
    exact Coil.mem_withReason _ _ _
  · rw [if_neg h8, if_neg h8, Coil.placeZone_listed _ _ (not_le.1 h8)]
    exact Coil.mem_withReason _ _ _

theorem Coil.openZone_alike {c : Coil} {q : Cause} (h : c.hasOpen q = false) (pos : Nat) (x : Int) :
    (c.asked (.openAt q pos x)).1.alike (c.openZone q (pos - c.start) x) := by
  rw [Coil.asked_openAt h]
  refine ⟨rfl, fun r => ?_⟩
  rw [Coil.mem_openZone_reasons, List.mem_cons, or_comm]

/-- R102: a close request of a cause that has an open listed zone. -/
theorem Coil.closeZone_listed {c : Coil} {q : Cause}
    (h : ∃ z ∈ c.zones, z.cause = q ∧ z.stop = none) (pos len : Nat) :
    c.closeZone q (pos - c.start) len = (c.asked (.closeAt q pos)).1.regraded len := by
  have hz : ∀ z : Zone, (if z.openOf q = true then
      { z with stop := some (max (pos - c.start) z.start) } else z) =
      if z.cause = q ∧ z.stop = none then
        { z with stop := some (max z.start (pos - c.start)) } else z := fun z => by
    rw [Nat.max_comm]
    exact if_congr (by simp [Zone.openOf]) rfl rfl
  unfold Coil.closeZone Coil.asked
  rw [if_pos ((c.openZone?_iff q).2 h)]
  dsimp only
  rw [if_pos h]
  simp only [hz]

/-- R102: a close request of a cause that has none. -/
theorem Coil.closeZone_unlisted {c : Coil} {q : Cause}
    (h : ¬ ∃ z ∈ c.zones, z.cause = q ∧ z.stop = none) (pos len : Nat) :
    c.closeZone q (pos - c.start) len = (c.asked (.closeAt q pos)).1 := by
  unfold Coil.closeZone Coil.asked
  rw [if_neg fun h' => h ((c.openZone?_iff q).1 h')]
  dsimp only
  rw [if_neg h]

theorem Coil.closeZone_alike (c : Coil) (q : Cause) (pos len : Nat) :
    (c.asked (.closeAt q pos)).1.alike (c.closeZone q (pos - c.start) len) := by
  by_cases h : ∃ z ∈ c.zones, z.cause = q ∧ z.stop = none
  · rw [Coil.closeZone_listed h]; exact Coil.regraded_alike _ _
  · rw [Coil.closeZone_unlisted h]; exact .refl _

/-- R103: a raise of the extreme value. -/
theorem Coil.asked_raise (c : Coil) (q : Cause) (x : Int) : c.asked (.raise q x) = ({ c with
    zones := c.zones.map fun z =>
      if z.openOf q then { z with extreme := raisedExtreme q z.extreme x } else z }, false) := by
  unfold Coil.asked
  refine congrArg (fun zs => ({ c with zones := zs }, false)) (List.map_congr_left fun z _ => ?_)
  refine if_congr (by simp [Zone.openOf]) ?_ rfl
  cases q <;> rfl

theorem Coil.asked_frame (c : Coil) (r : ZoneRequest) : (c.asked r).1 = { c with
    zones := (c.asked r).1.zones, unlisted := (c.asked r).1.unlisted,
    unlistedOpen := (c.asked r).1.unlistedOpen, reasons := (c.asked r).1.reasons } := by
  cases r with
  | openAt q pos x =>
    cases h : c.hasOpen q with
    | true => rw [Coil.asked_openAt_again h]
    | false => rw [Coil.asked_openAt h, Coil.openZone_frame]
  | closeAt q pos =>
    unfold Coil.asked
    dsimp only
    split <;> rfl
  | raise q x => rfl

theorem Coil.asked_kept (c : Coil) (r : ZoneRequest) :
    (c.asked r).1.grade = c.grade ∧ (c.asked r).1.final = c.final := by
  rw [Coil.asked_frame]; exact ⟨rfl, rfl⟩

theorem Coil.askedAll_frame (rs : List ZoneRequest) : ∀ c : Coil,
    (c.askedAll rs).1 = { c with
      zones := (c.askedAll rs).1.zones, unlisted := (c.askedAll rs).1.unlisted,
      unlistedOpen := (c.askedAll rs).1.unlistedOpen, reasons := (c.askedAll rs).1.reasons } := by
  induction rs with
  | nil => exact fun c => rfl
  | cons r rs ih =>
    intro c
    obtain ⟨zs, n, u, rs, h⟩ : ∃ zs n u rs, (c.asked r).1 = { c with
        zones := zs, unlisted := n, unlistedOpen := u, reasons := rs } :=
      ⟨_, _, _, _, Coil.asked_frame c r⟩
    unfold Coil.askedAll
    dsimp only
    rw [h]
    exact ih _

theorem Coil.askedAll_tallies (rs : List ZoneRequest) (c : Coil) :
    (c.askedAll rs).1.tallies = c.tallies := by rw [Coil.askedAll_frame]; rfl

theorem Coil.askedAll_append (as bs : List ZoneRequest) : ∀ c : Coil,
    c.askedAll (as ++ bs) =
      (((c.askedAll as).1.askedAll bs).1, (c.askedAll as).2 || ((c.askedAll as).1.askedAll bs).2) := by
  induction as with
  | nil => exact fun c => by simp [Coil.askedAll]
  | cons a as ih =>
    intro c
    simp only [List.cons_append, Coil.askedAll, ih, Bool.or_assoc]

theorem Coil.askedAll_one (r : ZoneRequest) (c : Coil) : c.askedAll [r] = c.asked r := by
  simp [Coil.askedAll]

/-- R100: a request finds nothing but the zones, so it does the same to coils that are alike. -/
theorem Coil.alike.asked {c b : Coil} (h : c.alike b) (r : ZoneRequest) :
    (c.asked r).1.alike (b.asked r).1 ∧ (b.asked r).2 = (c.asked r).2 := by
  obtain ⟨hb, hr⟩ := h
  generalize b.reasons = rs at hb hr
  generalize b.grade = g at hb
  generalize b.slipTallies = n at hb
  generalize b.faultRows = n1 at hb
  generalize b.missedKnots = n2 at hb
  generalize b.excessKnots = n3 at hb
  subst hb
  cases r with
  | openAt q pos x =>
    unfold Coil.asked
    dsimp only
    split
    · exact ⟨⟨rfl, hr⟩, rfl⟩
    · split
      · exact ⟨⟨rfl, fun r => by simp [hr]⟩, rfl⟩
      · exact ⟨⟨rfl, fun r => by simp [hr]⟩, rfl⟩
  | closeAt q pos =>
    unfold Coil.asked
    dsimp only
    split <;> exact ⟨⟨rfl, hr⟩, rfl⟩
  | raise q x => exact ⟨⟨rfl, hr⟩, rfl⟩

theorem Coil.alike.askedAll (rs : List ZoneRequest) : ∀ {c b : Coil}, c.alike b →
    (c.askedAll rs).1.alike (b.askedAll rs).1 ∧ (b.askedAll rs).2 = (c.askedAll rs).2 := by
  induction rs with
  | nil => exact fun h => ⟨h, rfl⟩
  | cons r rs ih =>
    intro c b h
    obtain ⟨hstep, htold⟩ := h.asked r
    obtain ⟨hrest, htold'⟩ := ih hstep
    exact ⟨hrest, by simp only [Coil.askedAll, htold, htold']⟩

/-! ## The requests of a line -/

/-- R100: the Grade Unit takes a request of a line. -/
def Works.ask (w : Works) (i : LineIx) : ZoneRequest → Works
  | .openAt q pos x => w.requestOpen i q pos x
  | .closeAt q pos => w.requestClose i q pos
  | .raise q x => w.raiseExtreme i q x

/-- The requests `as` of line `i` reached its current coil between `u` and `w`; the line itself took
the notices `own`, and nothing but that coil and the line's own record moved. -/
structure Works.heeds (u w : Works) (i : LineIx) (as : List ZoneRequest) (own : Half) : Prop where
  coil : (w.line i).coil = (u.line i).coil
  position : (w.line i).position = (u.line i).position
  others : ∀ j, j ≠ i → w.line j = u.line j
  lots : w.lots = u.lots
  waitList : w.waitList = u.waitList
  lanes : w.lanes = u.lanes
  queues : w.queues = u.queues
  held : w.held = u.held
  global : w.notices.global = u.notices.global
  packer : w.notices.packer = u.notices.packer
  station : w.notices.station = u.notices.station
  told : ∀ j : LineIx, w.notices.line[j] = u.notices.line[j] |||
    (if (u.currentCoil? i).any fun c => decide (c.line = j) && (c.askedAll as).2 then 0x10 else 0) |||
    (if j = i then own else 0)
  idle : u.currentCoil? i = none → w.coils = u.coils
  reached : ∀ c, u.currentCoil? i = some c → (∀ k, k ≠ c.key → w.coil? k = u.coil? k) ∧
    ∃ b, w.currentCoil? i = some b ∧ (c.askedAll as).1.alike b

theorem Works.heeds.none {u w : Works} {i : LineIx} {as : List ZoneRequest} {own : Half}
    (h : u.heeds w i as own) (hc : u.currentCoil? i = none) : w.currentCoil? i = none :=
  (Works.currentCoil?_congr (w := u) (w' := w) h.coil (h.idle hc)).trans hc

theorem Works.heeds.coilLength {u w : Works} {i : LineIx} {as : List ZoneRequest} {own : Half}
    (h : u.heeds w i as own) : w.coilLength = u.coilLength :=
  Works.coilLength_congr fun j => by
    by_cases hj : j = i
    · rw [hj]; exact h.position
    · rw [h.others j hj]

/-- Notices raised in two turns. -/
theorem bits_join (n k x y : Half) (d a b : Bool) (p : Prop) [Decidable p] :
    ((n ||| if (d && a) = true then k else 0) ||| if p then x else 0) |||
        (if (d && b) = true then k else 0) ||| (if p then y else 0) =
      (n ||| if (d && (a || b)) = true then k else 0) ||| if p then x ||| y else 0 := by
  cases d <;> cases a <;> cases b <;> by_cases hp : p <;> simp only [hp] <;> ext t <;> simp <;>
    grind

theorem Works.heeds.trans {u v w : Works} {i : LineIx} {as bs : List ZoneRequest} {x y : Half}
    (h : u.heeds v i as x) (h' : v.heeds w i bs y) : u.heeds w i (as ++ bs) (x ||| y) where
  coil := h'.coil.trans h.coil
  position := h'.position.trans h.position
  others j hj := (h'.others j hj).trans (h.others j hj)
  lots := h'.lots.trans h.lots
  waitList := h'.waitList.trans h.waitList
  lanes := h'.lanes.trans h.lanes
  queues := h'.queues.trans h.queues
  held := h'.held.trans h.held
  global := h'.global.trans h.global
  packer := h'.packer.trans h.packer
  station := h'.station.trans h.station
  told j := by
    rw [h'.told j, h.told j]
    cases hc : u.currentCoil? i with
    | none =>
      rw [h.none hc]
      by_cases hj : j = i <;> simp [hj, BitVec.or_assoc]
    | some c =>
      obtain ⟨-, b, hb, hal⟩ := h.reached c hc
      have hline : b.line = c.line := by rw [hal.line, Coil.askedAll_frame]
      rw [hb]
      simp only [Option.any_some, hline, (hal.askedAll bs).2, Coil.askedAll_append]
      exact bits_join _ _ _ _ _ _ _ _
  idle hc := (h'.idle (h.none hc)).trans (h.idle hc)
  reached c hc := by
    obtain ⟨hothers, b, hb, hal⟩ := h.reached c hc
    obtain ⟨hothers', d, hd, hal'⟩ := h'.reached b hb
    have hkey : b.key = c.key := by rw [hal.key, Coil.askedAll_frame]
    refine ⟨fun k hk => (hothers' k (by rw [hkey]; exact hk)).trans (hothers k hk), d, hd, ?_⟩
    rw [Coil.askedAll_append]
    exact (hal.askedAll bs).1.trans hal'

/-- A line record alone changed. -/
theorem Works.heeds.of_modifyLine (u : Works) (i : LineIx) (f : Line → Line)
    (hc : (f (u.line i)).coil = (u.line i).coil)
    (hp : (f (u.line i)).position = (u.line i).position) : u.heeds (u.modifyLine i f) i [] 0 where
  coil := by rw [Works.line_modifyLine_self]; exact hc
  position := by rw [Works.line_modifyLine_self]; exact hp
  others j hj := Works.line_modifyLine_other u i j f hj
  lots := rfl
  waitList := rfl
  lanes := rfl
  queues := rfl
  held := rfl
  global := rfl
  packer := rfl
  station := rfl
  told j := by simp [Coil.askedAll, Works.modifyLine]
  idle _ := rfl
  reached c h := ⟨fun _ _ => rfl, c, (Works.currentCoil?_congr (w := u)
    (w' := u.modifyLine i f) (by rw [Works.line_modifyLine_self]; exact hc) rfl).trans h, .refl c⟩

/-- Nothing happened. -/
theorem Works.heeds.refl (u : Works) (i : LineIx) : u.heeds u i [] 0 where
  coil := rfl
  position := rfl
  others _ _ := rfl
  lots := rfl
  waitList := rfl
  lanes := rfl
  queues := rfl
  held := rfl
  global := rfl
  packer := rfl
  station := rfl
  told j := by simp [Coil.askedAll]
  idle _ := rfl
  reached c h := ⟨fun _ _ => rfl, c, h, .refl c⟩

/-- The current coil alone changed. -/
theorem Works.heeds.of_modifyCoil {u : Works} {i : LineIx} {c : Coil}
    (hc : u.currentCoil? i = some c) (as : List ZoneRequest) (f : Coil → Coil)
    (hf : ∀ b, (f b).key = b.key) (ha : (c.askedAll as).1.alike (f c)) (n : (c.askedAll as).2 = false) :
    u.heeds (u.modifyCoil c.key f) i as 0 where
  coil := rfl
  position := rfl
  others _ _ := rfl
  lots := rfl
  waitList := rfl
  lanes := rfl
  queues := rfl
  held := rfl
  global := rfl
  packer := rfl
  station := rfl
  told j := by simp [hc, n, Works.modifyCoil]
  idle h := by rw [hc] at h; exact nomatch h
  reached c' h := by
    obtain rfl : c = c' := Option.some.inj (hc.symm.trans h)
    obtain ⟨hkey, hk⟩ := Works.currentCoil?_key hc
    refine ⟨fun k hne => Works.coil?_modifyCoil_other u _ k f hf hne, f c,
      Works.currentCoil?_of (by rw [hf]; exact hkey) ?_, ha⟩
    rw [hf]
    exact Works.coil?_modifyCoil_self u _ f c hf hk

/-- The current coil changed, and ZONE_OPENED was raised of the line that it is made on. -/
theorem Works.heeds.of_opened {u : Works} {i : LineIx} {c : Coil}
    (hc : u.currentCoil? i = some c) (as : List ZoneRequest) (f : Coil → Coil)
    (hf : ∀ b, (f b).key = b.key) (ha : (c.askedAll as).1.alike (f c)) (n : (c.askedAll as).2 = true) :
    u.heeds ((u.modifyCoil c.key f).raiseLine c.line 0x10) i as 0 where
  coil := rfl
  position := rfl
  others _ _ := rfl
  lots := rfl
  waitList := rfl
  lanes := rfl
  queues := rfl
  held := rfl
  global := rfl
  packer := rfl
  station := rfl
  told j := by
    show (u.notices.line.set c.line (u.notices.line[c.line] ||| 0x10))[j] = _
    rw [set_getFin, hc, Option.any_some, n, Bool.and_true]
    by_cases hj : j = c.line
    · simp [hj]
    · simp [hj, Ne.symm hj]
  idle h := by rw [hc] at h; exact nomatch h
  reached c' h := by
    obtain rfl : c = c' := Option.some.inj (hc.symm.trans h)
    obtain ⟨hkey, hk⟩ := Works.currentCoil?_key hc
    refine ⟨fun k hne => Works.coil?_modifyCoil_other u _ k f hf hne, f c,
      Works.currentCoil?_of (by rw [hf]; exact hkey) ?_, ha⟩
    rw [hf]
    exact Works.coil?_modifyCoil_self u _ f c hf hk

/-- A notice of a line was raised. -/
theorem Works.heeds.of_raiseLine (u : Works) (i : LineIx) (bits : Half) :
    u.heeds (u.raiseLine i bits) i [] bits where
  coil := rfl
  position := rfl
  others _ _ := rfl
  lots := rfl
  waitList := rfl
  lanes := rfl
  queues := rfl
  held := rfl
  global := rfl
  packer := rfl
  station := rfl
  told j := by
    show (u.notices.line.set i (u.notices.line[i] ||| bits))[j] = _
    rw [set_getFin]
    by_cases hj : j = i <;> simp [hj, Coil.askedAll]
  idle _ := rfl
  reached c h := ⟨fun _ _ => rfl, c, h, .refl c⟩

end Sys2Proof.Machine
end

section
namespace Sys2Proof.Machine

/-! ## One request, and several in a row -/

/-- R100: a request opens a zone. -/
def ZoneRequest.opens : ZoneRequest → Bool
  | .openAt .. => true
  | .closeAt .. | .raise .. => false

/-- A coil that a key does not name is not modified. -/
theorem Works.modifyCoil_absent {w : Works} {k : CoilKey} (h : w.coil? k = none)
    (f : Coil → Coil) : w.modifyCoil k f = w := by
  have hid : mapTable (Option.map fun c : Coil => if c.key = k then f c else c) w.coils =
      w.coils := by
    apply Vector.ext
    intro j hj
    rw [mapTable_get]
    cases hc : w.coils[j] with
    | none => rfl
    | some c =>
      have hne : ¬ c.key = k := fun e =>
        absurd (List.find?_eq_none.1 h c ((mem_inUse _ _).2 ⟨⟨j, hj⟩, hc⟩)) (by simp [e])
      exact congrArg some (if_neg hne)
  exact congrArg (fun t => { w with coils := t }) hid

/-- Between `u` and `w` line `i`, while it has no coil, missed `n` defects, and the tallies of its
coil, if it has one, went by `g`. -/
structure Works.counts (u w : Works) (i : LineIx) (n : Nat)
    (g : Nat × Nat × Nat × Nat → Nat × Nat × Nat × Nat) : Prop where
  missed : u.currentCoil? i = none → (u.line i).unrecorded ≤ 65535 →
    (w.line i).unrecorded = min 65535 ((u.line i).unrecorded + n)
  kept : u.currentCoil? i ≠ none → (w.line i).unrecorded = (u.line i).unrecorded
  tallies : ∀ c b, u.currentCoil? i = some c → w.currentCoil? i = some b → b.tallies = g c.tallies

theorem Works.counts.trans {u v w : Works} {i : LineIx} {as : List ZoneRequest} {x : Half}
    {n m : Nat} {g g' : Nat × Nat × Nat × Nat → Nat × Nat × Nat × Nat} (h : u.counts v i n g)
    (hv : u.heeds v i as x) (h' : v.counts w i m g') : u.counts w i (n + m) (g' ∘ g) where
  missed hc hl := by
    have hn := h.missed hc hl
    rw [h'.missed (hv.none hc) (by rw [hn]; exact Nat.min_le_left _ _), hn]
    omega
  kept hc := by
    obtain ⟨c, hc⟩ := Option.ne_none_iff_exists'.1 hc
    obtain ⟨-, b, hb, -⟩ := hv.reached c hc
    rw [h'.kept (by rw [hb]; exact Option.some_ne_none b), h.kept (by rw [hc]; exact Option.some_ne_none c)]
  tallies c d hc hd := by
    obtain ⟨-, b, hb, -⟩ := hv.reached c hc
    rw [h'.tallies b d hb hd, h.tallies c b hc hb]
    rfl

/-- Records that kept the line's defects and its coil's tallies. -/
theorem Works.counts.of_same {u w : Works} {i : LineIx}
    (hl : (w.line i).unrecorded = (u.line i).unrecorded)
    (hc : ∀ c b, u.currentCoil? i = some c → w.currentCoil? i = some b → b.tallies = c.tallies) :
    u.counts w i 0 id where
  missed _ h := by rw [hl]; omega
  kept _ := hl
  tallies := hc

theorem Coil.regraded_fixed (c : Coil) (len : Nat) :
    (c.regraded len).key = c.key ∧ (c.regraded len).tallies = c.tallies := by
  rw [Coil.regraded_eq]; exact ⟨rfl, rfl⟩

theorem Coil.openZone_fixed (c : Coil) (q : Cause) (pos : Nat) (x : Int) :
    (c.openZone q pos x).key = c.key ∧ (c.openZone q pos x).tallies = c.tallies := by
  rw [Coil.openZone_frame]; exact ⟨rfl, rfl⟩

theorem Coil.closeZone_fixed (c : Coil) (q : Cause) (pos len : Nat) :
    (c.closeZone q pos len).key = c.key ∧ (c.closeZone q pos len).tallies = c.tallies := by
  rw [Coil.closeZone_frame]; exact ⟨rfl, rfl⟩

/-- R100: a request of a line without a coil: an opening is a defect that no coil records. -/
theorem Works.ask_none {u : Works} {i : LineIx} (hc : u.currentCoil? i = none) (r : ZoneRequest) :
    u.ask i r = if r.opens then u.countUnrecorded i 1 else u := by
  cases r <;> simp only [Works.ask, Works.requestOpen, Works.requestClose, Works.raiseExtreme, hc,
    ZoneRequest.opens] <;> rfl

/-- R100 to R103: a request of a line with a coil changes that coil alone, or nothing. -/
theorem Works.ask_some {u : Works} {i : LineIx} {c : Coil} (hc : u.currentCoil? i = some c)
    (r : ZoneRequest) : (u.ask i r = u ∧ c.asked r = (c, false)) ∨
    ∃ f : Coil → Coil, (∀ b, (f b).key = b.key) ∧ (c.asked r).1.alike (f c) ∧
      (f c).tallies = c.tallies ∧
      u.ask i r = if (c.asked r).2 then (u.modifyCoil c.key f).raiseLine c.line 0x10
        else u.modifyCoil c.key f := by
  obtain ⟨-, hk⟩ := Works.currentCoil?_key hc
  cases r with
  | openAt q pos x =>
    cases ho : c.hasOpen q with
    | true =>
      refine .inl ⟨?_, Coil.asked_openAt_again ho pos x⟩
      simp [Works.ask, Works.requestOpen, Works.openZone, hc, hk, ho]
    | false =>
      refine .inr ⟨fun b => (b.openZone q (pos - c.start) x).regraded (u.coilLength b),
        fun b => ?_, (Coil.openZone_alike ho pos x).trans (Coil.regraded_alike _ _), ?_, ?_⟩
      · exact (Coil.regraded_fixed _ _).1.trans (Coil.openZone_fixed _ _ _ _).1
      · exact (Coil.regraded_fixed _ _).2.trans (Coil.openZone_fixed _ _ _ _).2
      · rw [Coil.asked_openAt ho]
        simp only [Works.ask, Works.requestOpen, Works.openZone, hc, hk, ho]
        rfl
  | closeAt q pos =>
    have hn : (c.asked (.closeAt q pos)).2 = false := by
      unfold Coil.asked; dsimp only; split <;> rfl
    refine .inr ⟨fun b => b.closeZone q (pos - b.start) (u.coilLength b),
      fun b => (b.closeZone_fixed q _ _).1, Coil.closeZone_alike c q pos _,
      (c.closeZone_fixed q _ _).2, ?_⟩
    rw [hn, if_neg Bool.false_ne_true]
    simp only [Works.ask, Works.requestClose, hc]
  | raise q x =>
    refine .inr ⟨fun b => { b with
      zones := b.zones.map fun z =>
        if z.openOf q then { z with extreme := raisedExtreme q z.extreme x } else z },
      fun _ => rfl, by rw [Coil.asked_raise]; exact .refl _, rfl, ?_⟩
    rw [Coil.asked_raise]
    simp only [Works.ask, Works.raiseExtreme, hc]
    rfl

/-- R100: a request reaches the coil, and no other record but the line's. -/
theorem Works.ask_heeds (u : Works) (i : LineIx) (r : ZoneRequest) :
    u.heeds (u.ask i r) i [r] 0 := by
  cases hc : u.currentCoil? i with
  | none =>
    have h : u.heeds (u.ask i r) i [] 0 := by
      rw [Works.ask_none hc]
      split
      · exact .of_modifyLine u i _ rfl rfl
      · exact .refl u i
    exact { h with
      told := fun j => by rw [h.told j, hc]; rfl
      reached := fun c h => by rw [hc] at h; exact nomatch h }
  | some c =>
    rcases Works.ask_some hc r with ⟨hw, hr⟩ | ⟨f, hf, hal, -, hw⟩
    · have h := Works.heeds.refl u i
      rw [hw]
      exact { h with
        told := fun j => by simp [hc, Coil.askedAll_one, hr]
        reached := fun c' hc' => by
          obtain rfl : c = c' := Option.some.inj (hc.symm.trans hc')
          exact ⟨fun _ _ => rfl, c, hc, by rw [Coil.askedAll_one, hr]; exact .refl c⟩ }
    · rw [hw]
      rw [← Coil.askedAll_one] at hal
      split
      · next hn => exact .of_opened hc [r] f hf hal (by rw [Coil.askedAll_one]; exact hn)
      · next hn =>
        exact .of_modifyCoil hc [r] f hf hal (by rw [Coil.askedAll_one]; exact Bool.not_eq_true _ ▸ hn)

/-- R100: a request and the counters. -/
theorem Works.ask_counts (u : Works) (i : LineIx) (r : ZoneRequest) :
    u.counts (u.ask i r) i (if r.opens then 1 else 0) id := by
  cases hc : u.currentCoil? i with
  | none =>
    refine ⟨fun _ hl => ?_, fun h => absurd hc h, fun c b h _ => by rw [hc] at h; exact nomatch h⟩
    rw [Works.ask_none hc]
    cases r.opens with
    | true =>
      show ((u.countUnrecorded i 1).line i).unrecorded = _
      rw [Works.countUnrecorded, Works.line_modifyLine_self]
      rfl
    | false => exact (Nat.min_eq_right hl).symm
  | some c =>
    have hkept : ((u.ask i r).line i).unrecorded = (u.line i).unrecorded ∧
        ∀ b, (u.ask i r).currentCoil? i = some b → b.tallies = c.tallies := by
      rcases Works.ask_some hc r with ⟨hw, -⟩ | ⟨f, hf, -, ht, hw⟩
      · rw [hw]
        exact ⟨rfl, fun b hb => by rw [Option.some.inj (hc.symm.trans hb)]⟩
      · obtain ⟨hkey, hk⟩ := Works.currentCoil?_key hc
        have hnow : (u.modifyCoil c.key f).currentCoil? i = some (f c) :=
          Works.currentCoil?_of (by rw [hf]; exact hkey)
            (by rw [hf]; exact Works.coil?_modifyCoil_self u _ f c hf hk)
        rw [hw]
        split
        · exact ⟨rfl, fun b hb => by rw [← Option.some.inj (hnow.symm.trans hb), ht]⟩
        · exact ⟨rfl, fun b hb => by rw [← Option.some.inj (hnow.symm.trans hb), ht]⟩
    refine ⟨fun h => absurd (hc.symm.trans h) (Option.some_ne_none c), fun _ => hkept.1,
      fun c' b h hb => ?_⟩
    rw [← Option.some.inj (hc.symm.trans h)]
    exact hkept.2 b hb

/-- R100: a request leaves the line but its counter of unrecorded defects. -/
theorem Works.line_ask (u : Works) (i : LineIx) (r : ZoneRequest) :
    (u.ask i r).line i = { u.line i with unrecorded := ((u.ask i r).line i).unrecorded } := by
  cases hc : u.currentCoil? i with
  | none =>
    rw [Works.ask_none hc]
    cases r.opens with
    | true =>
      show (u.countUnrecorded i 1).line i = _
      rw [Works.countUnrecorded, if_pos rfl, Works.line_modifyLine_self]
    | false => rfl
  | some c =>
    rcases Works.ask_some hc r with ⟨hw, -⟩ | ⟨f, -, -, -, hw⟩
    · rw [hw]
    · rw [hw]
      split <;> rfl

/-- R100: requests of a line, one after the other. -/
def Works.askAll (u : Works) (i : LineIx) (as : List ZoneRequest) : Works :=
  as.foldl (fun w r => w.ask i r) u

theorem Works.askAll_heeds (i : LineIx) (as : List ZoneRequest) : ∀ u : Works,
    u.heeds (u.askAll i as) i as 0 := by
  induction as with
  | nil => exact fun u => .refl u i
  | cons r as ih => exact fun u => (u.ask_heeds i r).trans (ih (u.ask i r))

theorem Works.askAll_counts (i : LineIx) (as : List ZoneRequest) : ∀ u : Works,
    u.counts (u.askAll i as) i (as.filter ZoneRequest.opens).length id := by
  induction as with
  | nil => exact fun u => .of_same rfl fun c b h h' => by rw [Option.some.inj (h.symm.trans h')]
  | cons r as ih =>
    intro u
    have h := (u.ask_counts i r).trans (u.ask_heeds i r) (ih (u.ask i r))
    have hn : (if r.opens then 1 else 0) + (as.filter ZoneRequest.opens).length =
        ((r :: as).filter ZoneRequest.opens).length := by
      cases hr : r.opens <;> simp [hr, Nat.add_comm]
    rw [hn] at h
    exact h

theorem Works.line_askAll (i : LineIx) (as : List ZoneRequest) : ∀ u : Works,
    (u.askAll i as).line i =
      { u.line i with unrecorded := ((u.askAll i as).line i).unrecorded } := by
  induction as with
  | nil => exact fun u => rfl
  | cons r as ih =>
    intro u
    refine (ih (u.ask i r)).trans ?_
    rw [Works.line_ask]
    rfl

end Sys2Proof.Machine
end

section
namespace Sys2Proof.Machine

/-! # LINE_WHEELS (R32, R34) -/

theorem measureCode_none {n : Nat} (h : n = 0 ∨ 3 < n) : measureCode n = none := by
  unfold measureCode
  split
  iterate 3 omega
  rfl

theorem measureCode_code (m : MeasureSource) : measureCode m.code = some m := by cases m <;> rfl

theorem checkCode_none {n : Nat} (h : 2 < n) : checkCode n = none := by
  unfold checkCode
  split
  iterate 3 omega
  rfl

theorem checkCode_code (c : CheckSource) : checkCode c.code = some c := by cases c <;> rfl

theorem measureCode_some {n : Nat} (h : ¬ (n = 0 ∨ 3 < n)) : ∃ m, measureCode n = some m := by
  obtain rfl | rfl | rfl : n = 1 ∨ n = 2 ∨ n = 3 := by omega
  · exact ⟨_, rfl⟩
  · exact ⟨_, rfl⟩
  · exact ⟨_, rfl⟩

theorem checkCode_some {n : Nat} (h : ¬ 2 < n) : ∃ c, checkCode n = some c := by
  obtain rfl | rfl | rfl : n = 0 ∨ n = 1 ∨ n = 2 := by omega
  · exact ⟨_, rfl⟩
  · exact ⟨_, rfl⟩
  · exact ⟨_, rfl⟩

theorem exec_lineWheels {args : List Byte} {s : State} (hl : args.length = 3)
    (ht : s.takesRecordCommands) : exec (.lineWheels args) s = .next
      ((s.release 0x0A args).lineWheels (bytesAt args 0 1) (bytesAt args 1 1) (bytesAt args 2 1)) := by
  rw [exec_recordCommand rfl ht hl]

/-- R102: a close request changes coils alone. -/
theorem Works.requestClose_frame (u : Works) (i : LineIx) (q : Cause) (pos : Nat) :
    u.requestClose i q pos = { u with coils := (u.requestClose i q pos).coils } := by
  unfold Works.requestClose
  split <;> rfl

/-- R32: the two ways in which a pair conflicts on a line's kind. -/
theorem pairConflicts_eq {kind : LineKind} (h : kind ≠ .unused) (m : MeasureSource)
    (c : CheckSource) : pairConflicts kind m c =
      ((decide (kind = .knot) && decide (m ≠ .rows)) || (decide (kind = .twist) &&
        (decide (m = .rows) || (decide (m = .wheelA) && decide (c = .wheelA)) ||
          (decide (m = .wheelB) && decide (c = .wheelB))))) := by
  cases kind with
  | unused => exact absurd rfl h
  | twist => rfl
  | knot => simp [pairConflicts]

theorem kindDefaults_eq {kind : LineKind} (h : kind ≠ .unused) : kindDefaults kind =
    (if kind = .knot then .rows else .wheelA, if kind = .knot then .off else .wheelB) := by
  cases kind with
  | unused => exact absurd rfl h
  | twist => rfl
  | knot => rfl

/-- R34: the coils when a line's slip detector returns to NORMAL. -/
def Works.slipClosed (u : Works) (i : LineIx) : Vector (Option Coil) 96 :=
  if (u.line i).slip.slipping then (u.requestClose i .slip (u.line i).position).coils else u.coils

theorem Works.resetSlip_eq (u : Works) (i : LineIx) : u.resetSlip i =
    { (u.modifyLine i fun l => { l with slip := l.slip.toNormal }) with
      coils := u.slipClosed i } := by
  unfold Works.resetSlip Works.slipClosed
  split
  · rw [Works.requestClose_frame]; rfl
  · rfl

/-- R32, R34: what an accepted LINE_WHEELS leaves, with the pair that is placed. -/
theorem Works.setWheels_eq (u : Works) (i : LineIx) (m : MeasureSource) (c : CheckSource)
    {pair : MeasureSource × CheckSource} (hp : judgedPair (u.line i).kind m c = pair) :
    u.setWheels i m c = { (u.modifyLine i fun l =>
        { l with
          measure := pair.1, check := pair.2,
          slip := if pair.2 = (u.line i).check then l.slip else l.slip.toNormal }) with
      coils := if pair.2 = (u.line i).check then u.coils else u.slipClosed i,
      notices := (u.raiseLineIf (pairConflicts (u.line i).kind m c) i 0x200).notices } := by
  unfold Works.setWheels
  dsimp only
  rw [hp]
  have hw : (if pair.2 = (u.line i).check then u else u.resetSlip i).modifyLine i
      (fun l => { l with measure := pair.1, check := pair.2 }) = { (u.modifyLine i fun l =>
        { l with
          measure := pair.1, check := pair.2,
          slip := if pair.2 = (u.line i).check then l.slip else l.slip.toNormal }) with
      coils := if pair.2 = (u.line i).check then u.coils else u.slipClosed i } := by
    split
    · rfl
    · rw [Works.resetSlip_eq]
      have h := u.modifyLine_modifyLine i (fun l => { l with slip := l.slip.toNormal })
        (fun l => { l with measure := pair.1, check := pair.2 })
      exact congrArg (fun v : Works => { v with coils := u.slipClosed i }) h
  rw [hw]
  unfold Works.raiseLineIf
  split <;> rfl

/-- R102: a close request of the current coil, by its key. -/
theorem Works.requestClose_coil? {u : Works} {i : LineIx} {c : Coil}
    (hc : u.currentCoil? i = some c) (q : Cause) (pos : Nat) :
    (u.requestClose i q pos).coil? c.key =
      some (c.closeZone q (pos - c.start) (u.coilLength c)) ∧
    ∀ k, k ≠ c.key → (u.requestClose i q pos).coil? k = u.coil? k := by
  obtain ⟨-, hk⟩ := Works.currentCoil?_key hc
  have hf : ∀ b : Coil, (b.closeZone q (pos - b.start) (u.coilLength b)).key = b.key := fun b =>
    (b.closeZone_fixed q _ _).1
  have hw : u.requestClose i q pos =
      u.modifyCoil c.key fun b => b.closeZone q (pos - b.start) (u.coilLength b) := by
    simp only [Works.requestClose, hc]
  rw [hw]
  exact ⟨Works.coil?_modifyCoil_self u _ _ c hf hk,
    fun k hne => Works.coil?_modifyCoil_other u _ k _ hf hne⟩

/-- R102: closing a listed zone changes the list. -/
theorem Coil.asked_closeAt_zones {c : Coil} {q : Cause} {pos : Nat}
    (h : ∃ z ∈ c.zones, z.cause = q ∧ z.stop = none) :
    (c.asked (.closeAt q pos)).1.zones ≠ c.zones := by
  obtain ⟨z, hz, hq⟩ := h
  intro heq
  unfold Coil.asked at heq
  dsimp only at heq
  rw [if_pos ⟨z, hz, hq⟩] at heq
  have hstop := List.map_inj_left.1 (heq.trans (List.map_id _).symm) z hz
  rw [if_pos hq] at hstop
  have hnone : some _ = z.stop := congrArg Zone.stop hstop
  exact nomatch hnone.trans hq.2

theorem Coil.asked_closeAt_same {c : Coil} {q : Cause} {pos : Nat}
    (h : ¬ ∃ z ∈ c.zones, z.cause = q ∧ z.stop = none) :
    (c.asked (.closeAt q pos)).1.zones = c.zones := by
  unfold Coil.asked
  dsimp only
  rw [if_neg h]

/-- R34: the coils of a slipping line whose check source changes. -/
theorem Works.coil?_slipClosed {u w : Works} {i : LineIx} {c : Coil}
    (hw : w.coils = u.slipClosed i) (hs : (u.line i).slip.slipping = true)
    (hc : u.currentCoil? i = some c) :
    w.coil? c.key = some (c.closeZone .slip ((u.line i).position - c.start) (u.coilLength c)) ∧
    ∀ k, k ≠ c.key → w.coil? k = u.coil? k := by
  have hcoils : w.coils = (u.requestClose i .slip (u.line i).position).coils := by
    rw [hw, Works.slipClosed, if_pos hs]
  obtain ⟨hself, hothers⟩ := Works.requestClose_coil? hc .slip (u.line i).position
  exact ⟨(Works.coil?_congr hcoils c.key).trans hself,
    fun k hk => (Works.coil?_congr hcoils k).trans (hothers k hk)⟩

/-- Settles O15: the checks; and the accepted command, whose coil is that of one close request. -/
theorem lineWheelsSetsTheSources : Obligations.LineWheelsSetsTheSources := by
  refine ⟨fun args s st hl ht => ?_, fun args s i m c hl ht hi hm hck => ?_⟩
  · intro line m hst
    rw [exec_lineWheels hl ht]
    refine congrArg _ ?_
    show (s.release 0x0A args).lineWheels line m (bytesAt args 2 1) = _
    unfold State.lineWheels
    by_cases h15 : 15 < line
    · rw [if_pos (.inl h15)] at hst
      rw [lineOf_none h15, ← Option.some.inj hst]
      rfl
    rw [lineOf_of_le (by omega)]
    by_cases hm : m = 0 ∨ 3 < m
    · rw [if_pos (by omega)] at hst
      rw [measureCode_none hm, ← Option.some.inj hst]
      rfl
    obtain ⟨m', hm'⟩ := measureCode_some hm
    rw [hm']
    by_cases hc : 2 < bytesAt args 2 1
    · rw [if_pos (by omega)] at hst
      rw [checkCode_none hc, ← Option.some.inj hst]
      rfl
    obtain ⟨c', hc'⟩ := checkCode_some hc
    rw [hc']
    rw [if_neg (by omega)] at hst
    by_cases hk : (s.works.line (Fin.ofNat 16 line)).kind = .unused
    · rw [if_pos hk] at hst
      rw [← Option.some.inj hst]
      exact if_pos hk
    · rw [if_neg hk] at hst
      exact nomatch hst
  · intro l hkind conflict check
    have hconf : pairConflicts l.kind m c = conflict := pairConflicts_eq hkind m c
    have hpair : judgedPair (s.works.line i).kind m c =
        (if conflict then (if l.kind = .knot then .rows else .wheelA) else m, check) := by
      show judgedPair l.kind m c = _
      rw [judgedPair, hconf, kindDefaults_eq hkind]
      cases hc : conflict <;> simp [check, hc]
    have hset := s.works.setWheels_eq i m c hpair
    rw [show pairConflicts (s.works.line i).kind m c = conflict from hconf] at hset
    have hlines : (s.works.setWheels i m c).lines = (s.works.modifyLine i fun l' => { l' with
        measure := if conflict then (if l.kind = .knot then .rows else .wheelA) else m,
        check := check,
        slip := if check = l.check then l'.slip else l'.slip.toNormal }).lines :=
      (congrArg Works.lines hset).trans rfl
    have hcoils : (s.works.setWheels i m c).coils =
        if check = l.check then s.works.coils else s.works.slipClosed i := congrArg Works.coils hset
    refine ⟨s.works.setWheels i m c, ?_, Works.line_of_lines hlines,
      fun j hj => Works.line_of_lines_other hlines hj, fun h => ?_, fun b hck hs hc => ?_,
      (congrArg Works.notices hset).trans ?_, (congrArg Works.lots hset).trans rfl,
      (congrArg Works.waitList hset).trans rfl, (congrArg Works.lanes hset).trans rfl, (congrArg Works.queues hset).trans rfl,
      (congrArg Works.held hset).trans rfl⟩
    · rw [exec_lineWheels hl ht, hi, hm, hck]
      refine congrArg _ ?_
      unfold State.lineWheels
      rw [lineOf_val, measureCode_code, checkCode_code]
      exact (if_neg hkind).trans (s.release_accept 0x0A args _)
    · rw [hcoils]
      split
      · rfl
      · next hne =>
        unfold Works.slipClosed
        split
        · next hs =>
          have hc := (h.resolve_left hne).resolve_left
            fun h' => Bool.false_ne_true (h'.symm.trans hs)
          simp only [Works.requestClose, hc]
        · rfl
    · intro x
      rw [if_neg hck] at hcoils
      obtain ⟨hself, hothers⟩ := Works.coil?_slipClosed hcoils hs hc
      refine ⟨hothers, ?_⟩
      by_cases hlist : ∃ z ∈ b.zones, z.cause = .slip ∧ z.stop = none
      · have hx := Coil.closeZone_listed hlist l.position (s.works.coilLength b)
        refine ⟨(x.regraded (s.works.coilLength b)).grade, ?_, fun hf _ => ?_,
          fun heq => absurd heq (Coil.asked_closeAt_zones hlist)⟩
        · rw [hself, hx, Coil.regraded_eq]
        · have hfinal : x.final = false := (b.asked_kept _).2.trans hf
          have := Coil.regraded_grade hfinal (s.works.coilLength b)
          rw [Coil.regraded_eq] at this
          exact this
      · have hx := Coil.closeZone_unlisted hlist l.position (s.works.coilLength b)
        refine ⟨x.grade, by rw [hself, hx], fun _ hne =>
          absurd (Coil.asked_closeAt_same hlist) hne, fun _ => ?_⟩
        exact (b.asked_kept _).1
    · unfold Works.raiseLineIf
      rfl

end Sys2Proof.Machine
end

section
namespace Sys2Proof.Machine

/-! # Resync (R37, R50, R51) -/

/-- R37: whether a frame's counts cannot be trusted, by its flag and the four differences. -/
theorem CountFrame.untrusted_iff (f : CountFrame) (l : Line) : f.untrusted l = true ↔
    f.restarted = true ∨ 32768 ≤ (f.counts.spindle - l.baselines.spindle).toNat ∨
      32768 ≤ (f.counts.wheelA - l.baselines.wheelA).toNat ∨
      32768 ≤ (f.counts.wheelB - l.baselines.wheelB).toNat ∨
      32768 ≤ (f.counts.rows - l.baselines.rows).toNat := by
  simp [CountFrame.untrusted, Counts.implausible, Counts.minus, BitVec.msb_eq_decide, or_assoc]

/-- The current coil of a line, unless it is final, has the grade of its length. -/
def Works.graded (w : Works) (i : LineIx) : Prop :=
  ∀ c, w.currentCoil? i = some c → c.final = false → c.grade = c.gradeAt (w.coilLength c)

theorem Coil.closeZone_graded {c : Coil} {len : Nat} (q : Cause) (pos : Nat) (hf : c.final = false)
    (hg : c.grade = c.gradeAt len) :
    (c.closeZone q pos len).grade = (c.closeZone q pos len).gradeAt len := by
  unfold Coil.closeZone
  split
  · refine Coil.regraded_grade ?_ len
    exact hf
  · exact hg

/-- R102: the current coil after a close request. -/
theorem Works.requestClose_current {u : Works} {i : LineIx} {c : Coil}
    (hc : u.currentCoil? i = some c) (q : Cause) (pos : Nat) :
    (u.requestClose i q pos).currentCoil? i =
      some (c.closeZone q (pos - c.start) (u.coilLength c)) := by
  obtain ⟨hkey, -⟩ := Works.currentCoil?_key hc
  have hfix := (c.closeZone_fixed q (pos - c.start) (u.coilLength c)).1
  refine Works.currentCoil?_of ?_ ?_
  · rw [Works.requestClose_frame, hfix]; exact hkey
  · rw [hfix]; exact (Works.requestClose_coil? hc q pos).1

theorem Works.requestClose_none {u : Works} {i : LineIx} (hc : u.currentCoil? i = none) (q : Cause)
    (pos : Nat) : u.requestClose i q pos = u := by
  simp only [Works.requestClose, hc]

theorem Works.graded.requestClose {u : Works} {i : LineIx} (h : u.graded i) (q : Cause)
    (pos : Nat) : (u.requestClose i q pos).graded i := by
  cases hc : u.currentCoil? i with
  | none => rw [Works.requestClose_none hc]; exact h
  | some c =>
    intro b hb hf
    rw [Works.requestClose_current hc] at hb
    obtain rfl := Option.some.inj hb
    have hlen : (u.requestClose i q pos).coilLength
        (c.closeZone q (pos - c.start) (u.coilLength c)) = u.coilLength c := by
      rw [Works.requestClose_frame, Coil.closeZone_frame]; rfl
    have hfinal : c.final = false := by rw [← hf, Coil.closeZone_frame]
    rw [hlen]
    exact Coil.closeZone_graded q _ hfinal (h c hc hfinal)

/-- R51: the close requests of a resync. -/
def resyncAsks (pos : Nat) : List ZoneRequest :=
  [.closeAt .twist pos, .closeAt .knot pos, .closeAt .slip pos]

theorem Works.closeMonitorZones_eq (u : Works) (i : LineIx) :
    u.closeMonitorZones i = u.askAll i (resyncAsks (u.line i).position) := rfl

/-- R102: closes find nothing but the zones and leave the reasons. -/
theorem Coil.asked_closeAt_reasons (c : Coil) (rs : List Reason) (g : Grade) (q : Cause)
    (pos : Nat) : ({ c with reasons := rs, grade := g }.asked (.closeAt q pos)).1 =
      { (c.asked (.closeAt q pos)).1 with reasons := rs, grade := g } ∧
    (c.asked (.closeAt q pos)).1.reasons = c.reasons := by
  unfold Coil.asked
  dsimp only
  split <;> exact ⟨rfl, rfl⟩

theorem Coil.resyncAsks_reasons (c : Coil) (rs : List Reason) (g : Grade) (pos : Nat) :
    ({ c with reasons := rs, grade := g }.askedAll (resyncAsks pos)).1 =
      { (c.askedAll (resyncAsks pos)).1 with reasons := rs, grade := g } := by
  simp only [resyncAsks, Coil.askedAll]
  rw [(c.asked_closeAt_reasons rs g _ _).1, (Coil.asked_closeAt_reasons _ rs g _ _).1,
    (Coil.asked_closeAt_reasons _ rs g _ _).1]

/-- R102: an open zone that is left after a close request was there, and is of another cause. -/
theorem Coil.mem_asked_closeAt {c : Coil} {q : Cause} {pos : Nat} {z : Zone}
    (hz : z ∈ (c.asked (.closeAt q pos)).1.zones) (hs : z.stop = none) : z ∈ c.zones ∧ z.cause ≠ q := by
  by_cases h : ∃ z ∈ c.zones, z.cause = q ∧ z.stop = none
  · unfold Coil.asked at hz
    dsimp only at hz
    rw [if_pos h] at hz
    obtain ⟨y, hy, rfl⟩ := List.mem_map.1 hz
    split at hs
    · exact nomatch hs
    · next hne =>
      rw [if_neg hne]
      exact ⟨hy, fun hq => hne ⟨hq, hs⟩⟩
  · rw [Coil.asked_closeAt_same h] at hz
    exact ⟨hz, fun hq => h ⟨z, hz, hq, hs⟩⟩

/-- R51: no TWIST, KNOT or SLIP zone is open after the requests of a resync. -/
theorem Coil.resyncAsks_closed {c : Coil} {pos : Nat} {z : Zone}
    (hz : z ∈ (c.askedAll (resyncAsks pos)).1.zones) (hs : z.stop = none) :
    z.cause ≠ .twist ∧ z.cause ≠ .knot ∧ z.cause ≠ .slip := by
  obtain ⟨h3, hslip⟩ := Coil.mem_asked_closeAt hz hs
  obtain ⟨h2, hknot⟩ := Coil.mem_asked_closeAt h3 hs
  exact ⟨(Coil.mem_asked_closeAt h2 hs).2, hknot, hslip⟩

theorem Line.resynced_eq (l : Line) (counts : Counts) : l.resynced counts = { l with
    baselines := counts, baselinesValid := true, resyncs := min 65535 (l.resyncs + 1),
    slip := { l.slip with slipping := false, slipRun := 0, cleanRun := 0 },
    twist := if l.kind = .twist then .reset else l.twist,
    knot := if l.kind = .knot then .reset else l.knot } := by
  rw [Line.resynced, Line.resetMonitor_eq]
  rfl

theorem Works.markUncertain_none {u : Works} {i : LineIx} (hc : u.currentCoil? i = none) :
    u.markUncertain i = u := by
  unfold Works.markUncertain
  cases hk : (u.line i).coil with
  | none => rfl
  | some k =>
    rw [Works.currentCoil?, hk] at hc
    exact Works.modifyCoil_absent hc _

theorem Works.markUncertain_some {u : Works} {i : LineIx} {c : Coil}
    (hc : u.currentCoil? i = some c) :
    u.markUncertain i = u.gainReason c.key .lengthUncertain := by
  obtain ⟨hkey, -⟩ := Works.currentCoil?_key hc
  simp only [Works.markUncertain, hkey]

/-- R110: a current coil that gains a reason. -/
theorem Works.gainReason_current {u : Works} {i : LineIx} {c : Coil}
    (hc : u.currentCoil? i = some c) (r : Reason) :
    (u.gainReason c.key r).currentCoil? i = some (c.gains r (u.coilLength c)) ∧
    ∀ k, k ≠ c.key → (u.gainReason c.key r).coil? k = u.coil? k := by
  obtain ⟨hkey, hk⟩ := Works.currentCoil?_key hc
  have hf : ∀ b : Coil, (b.gains r (u.coilLength b)).key = b.key := fun b => by rw [Coil.gains_eq]
  rw [Works.gainReason_eq]
  exact ⟨Works.currentCoil?_of (by rw [hf]; exact hkey)
    (by rw [hf]; exact Works.coil?_modifyCoil_self u _ _ c hf hk),
    fun k hne => Works.coil?_modifyCoil_other u _ k _ hf hne⟩

/-- R50, R51: what a resync leaves of the records. -/
structure Works.resynced (u w : Works) (i : LineIx) (counts : Counts) : Prop where
  line : w.line i = (u.line i).resynced counts
  others : ∀ j, j ≠ i → w.line j = u.line j
  lots : w.lots = u.lots
  waitList : w.waitList = u.waitList
  lanes : w.lanes = u.lanes
  queues : w.queues = u.queues
  held : w.held = u.held
  notices : w.notices = (u.raiseLine i 0x20).notices
  idle : u.currentCoil? i = none → w.coils = u.coils
  reached : ∀ c, u.currentCoil? i = some c → (∀ k, k ≠ c.key → w.coil? k = u.coil? k) ∧
    ∃ b, w.currentCoil? i = some b ∧
      b = { (c.askedAll (resyncAsks (u.line i).position)).1 with
        reasons := b.reasons, grade := b.grade } ∧
      (∀ r, r ∈ b.reasons ↔ r ∈ c.reasons ∨ r = .lengthUncertain) ∧
      (c.final = false →
        Reason.lengthUncertain ∉ c.reasons ∨ c.grade = c.gradeAt (u.coilLength c) →
        b.grade = b.gradeAt (w.coilLength b))

theorem Works.resync_frame (u : Works) (i : LineIx) (counts : Counts) :
    u.resync i counts = { u with
      lines := (u.modifyLine i fun l => l.resynced counts).lines,
      coils := (u.resync i counts).coils, notices := (u.raiseLine i 0x20).notices } := by
  have hmark : ∀ v : Works, v.markUncertain i = { v with coils := (v.markUncertain i).coils } :=
    fun v => by unfold Works.markUncertain; split <;> rfl
  unfold Works.resync Works.closeMonitorZones
  dsimp only
  rw [Works.requestClose_frame, Works.requestClose_frame, Works.requestClose_frame, hmark]
  rfl

theorem Works.resynced_resync (u : Works) (i : LineIx) (counts : Counts) :
    u.resynced (u.resync i counts) i counts := by
  have hframe := u.resync_frame i counts
  have hlines : (u.resync i counts).lines = (u.modifyLine i fun l => l.resynced counts).lines :=
    (congrArg Works.lines hframe).trans rfl
  have hres : ∀ l : Line, (l.resynced counts).coil = l.coil ∧
      (l.resynced counts).position = l.position := fun l => by
    rw [Line.resynced_eq]; exact ⟨rfl, rfl⟩
  let v0 := u.modifyLine i fun l => l.resynced counts
  have h0 : u.heeds v0 i [] 0 := .of_modifyLine u i _ (hres _).1 (hres _).2
  refine ⟨Works.line_of_lines hlines, fun j hj => Works.line_of_lines_other hlines hj,
    (congrArg Works.lots hframe).trans rfl, (congrArg Works.waitList hframe).trans rfl,
    (congrArg Works.lanes hframe).trans rfl, (congrArg Works.queues hframe).trans rfl,
    (congrArg Works.held hframe).trans rfl, (congrArg Works.notices hframe).trans rfl,
    fun hc => ?_, fun c hc => ?_⟩
  · have hnone := h0.none hc
    show ((v0.markUncertain i).raiseLine i 0x20 |>.closeMonitorZones i).coils = _
    rw [Works.markUncertain_none hnone, Works.closeMonitorZones_eq]
    exact (Works.askAll_heeds i _ (v0.raiseLine i 0x20)).idle hnone
  · have hc0 : v0.currentCoil? i = some c :=
      (Works.currentCoil?_congr (w := u) (w' := v0) h0.coil rfl).trans hc
    let v1 := (v0.gainReason c.key .lengthUncertain).raiseLine i 0x20
    have hw : u.resync i counts = v1.askAll i (resyncAsks (u.line i).position) := by
      show ((v0.markUncertain i).raiseLine i 0x20 |>.closeMonitorZones i) = _
      rw [Works.markUncertain_some hc0, Works.closeMonitorZones_eq]
      exact congrArg (fun p => v1.askAll i (resyncAsks p)) h0.position
    obtain ⟨hgain, hothers⟩ := Works.gainReason_current hc0 .lengthUncertain
    have hc1 : v1.currentCoil? i = some (c.gains .lengthUncertain (v0.coilLength c)) := hgain
    have hlen0 : v0.coilLength = u.coilLength := h0.coilLength
    rw [hlen0] at hc1
    have hasks := Works.askAll_heeds i (resyncAsks (u.line i).position) v1
    have hcounts := Works.askAll_counts i (resyncAsks (u.line i).position) v1
    obtain ⟨hothers1, b, hb, hal⟩ := hasks.reached _ hc1
    have hkey : (c.gains .lengthUncertain (u.coilLength c)).key = c.key := by rw [Coil.gains_eq]
    rw [hw]
    refine ⟨fun k hk => (hothers1 k (by rw [hkey]; exact hk)).trans (hothers k hk), b, hb, ?_,
      fun r => ?_, fun hf hg => ?_⟩
    · have hex := hal.exact ((hcounts.tallies _ b hc1 hb).trans (Coil.askedAll_tallies _ _).symm)
      refine hex.trans ?_
      rw [Coil.gains_eq, Coil.resyncAsks_reasons]
    · rw [hal.2, Coil.gains_eq, Coil.resyncAsks_reasons]
      exact Coil.mem_gains c .lengthUncertain r _
    · have hg1 : v1.graded i := fun c' hc' _ => by
        obtain rfl := Option.some.inj (hc1.symm.trans hc')
        have hlen1 : v1.coilLength (c.gains .lengthUncertain (u.coilLength c)) =
            u.coilLength c := by
          show v0.coilLength _ = _
          rw [hlen0, Coil.gains_eq]
          rfl
        rw [hlen1]
        exact Coil.gains_grade c _ _ hf hg
      have hfinal : b.final = false := by
        rw [hal.final, Coil.askedAll_frame, Coil.gains_eq]; exact hf
      exact (((hg1.requestClose .twist _).requestClose .knot _).requestClose .slip _) b hb hfinal

/-- Settles O41. -/
theorem implausibleTallyResyncs : Obligations.ImplausibleTallyResyncs := by
  intro s d i a q payload h hl l counts hstate huntrusted
  have hw : s.works.tally s.settings.slipPermille i (countFrameOf payload 1
      (entriesOf (payload.drop 9)) ((statusOf payload).getLsbD 2)) = s.works.resync i counts := by
    have hun := (CountFrame.untrusted_iff (countFrameOf payload 1
      (entriesOf (payload.drop 9)) ((statusOf payload).getLsbD 2)) l).2 huntrusted
    have htally : s.works.countTally s.settings.slipPermille i (countFrameOf payload 1
      (entriesOf (payload.drop 9)) ((statusOf payload).getLsbD 2)) = s.works.resync i counts :=
      if_pos hun
    rw [Works.tally]
    rcases hstate with hs | hs | hs <;> rw [show (s.works.line i).state = _ from hs] <;>
      exact htally
  have hr := Works.resynced_resync s.works i counts
  refine ⟨s.works.resync i counts, by rw [h.exec_tally hl, hw],
    hr.line.trans (Line.resynced_eq l counts), hr.others, hr.lots, hr.idle, fun c hc => ?_,
    hr.notices, hr.waitList, hr.lanes, hr.queues, hr.held⟩
  obtain ⟨hothers, b, hb, hframe, hreasons, hgrade⟩ := hr.reached c hc
  refine ⟨b, hb, hframe, fun z hz hq hs => ?_, hreasons, hgrade, hothers⟩
  have hz' : z ∈ (c.askedAll (resyncAsks l.position)).1.zones := by rw [hframe] at hz; exact hz
  obtain ⟨h1, h2, h3⟩ := Coil.resyncAsks_closed hz' hs
  exact hq.elim h1 fun hq => hq.elim h2 h3

end Sys2Proof.Machine
end

section
namespace Sys2Proof.Machine

/-! # A credited tally (R38 to R45, R57, R81) -/

/-! ## Requests and counters together -/

/-- Between `u` and `w` the requests `as` of line `i` were heeded, with `n` defects missed and the
coil's tallies gone by `g`. -/
structure Works.attended (u w : Works) (i : LineIx) (as : List ZoneRequest) (own : Half) (n : Nat)
    (g : Nat × Nat × Nat × Nat → Nat × Nat × Nat × Nat) : Prop where
  asked : u.heeds w i as own
  counted : u.counts w i n g

theorem Works.attended.trans {u v w : Works} {i : LineIx} {as bs : List ZoneRequest} {x y : Half}
    {n m : Nat} {g g' : Nat × Nat × Nat × Nat → Nat × Nat × Nat × Nat}
    (h : u.attended v i as x n g) (h' : v.attended w i bs y m g') :
    u.attended w i (as ++ bs) (x ||| y) (n + m) (g' ∘ g) :=
  ⟨h.asked.trans h'.asked, h.counted.trans h.asked h'.counted⟩

theorem Works.attended.refl (u : Works) (i : LineIx) : u.attended u i [] 0 0 id :=
  ⟨.refl u i, .of_same rfl fun c b h h' => by rw [Option.some.inj (h.symm.trans h')]⟩

theorem Works.attended.of_askAll (u : Works) (i : LineIx) (as : List ZoneRequest) :
    u.attended (u.askAll i as) i as 0 (as.filter ZoneRequest.opens).length id :=
  ⟨u.askAll_heeds i as, u.askAll_counts i as⟩

/-- A line record alone changed, but not its coil, position or defects. -/
theorem Works.attended.of_modifyLine (u : Works) (i : LineIx) (f : Line → Line)
    (hc : (f (u.line i)).coil = (u.line i).coil)
    (hp : (f (u.line i)).position = (u.line i).position)
    (hu : (f (u.line i)).unrecorded = (u.line i).unrecorded) :
    u.attended (u.modifyLine i f) i [] 0 0 id := by
  refine ⟨.of_modifyLine u i f hc hp, .of_same ?_ fun c b h h' => ?_⟩
  · rw [Works.line_modifyLine_self]; exact hu
  · have hsame := (Works.currentCoil?_congr (w := u) (w' := u.modifyLine i f) (i := i)
      (by rw [Works.line_modifyLine_self]; exact hc) rfl).trans h
    rw [Option.some.inj (h'.symm.trans hsame)]

/-- The current coil's counters, or its grade, alone changed. -/
theorem Works.attended.of_modifyCoil {u : Works} {i : LineIx} {c : Coil}
    (hc : u.currentCoil? i = some c) (f : Coil → Coil) (hf : ∀ b, (f b).key = b.key)
    (ha : c.alike (f c)) {g : Nat × Nat × Nat × Nat → Nat × Nat × Nat × Nat}
    (hg : (f c).tallies = g c.tallies) : u.attended (u.modifyCoil c.key f) i [] 0 0 g := by
  have h := Works.heeds.of_modifyCoil hc [] f hf ha rfl
  refine ⟨h, fun hn => absurd (hc.symm.trans hn) (Option.some_ne_none c), fun _ => rfl,
    fun c' b hc' hb => ?_⟩
  obtain rfl := Option.some.inj (hc.symm.trans hc')
  obtain ⟨hkey, hk⟩ := Works.currentCoil?_key hc
  have hnow : (u.modifyCoil c.key f).currentCoil? i = some (f c) :=
    Works.currentCoil?_of (by rw [hf]; exact hkey)
      (by rw [hf]; exact Works.coil?_modifyCoil_self u _ f c hf hk)
  rw [← Option.some.inj (hnow.symm.trans hb), hg]

theorem Works.attended.of_raiseLine (u : Works) (i : LineIx) (bits : Half) :
    u.attended (u.raiseLine i bits) i [] bits 0 id :=
  ⟨.of_raiseLine u i bits, .of_same rfl fun c b h h' => by
    rw [Option.some.inj (h.symm.trans h')]⟩

/-! ## The monitors (R57, R81) -/

theorem Works.applyTwist_eq (u : Works) (i : LineIx) (r : TwistRequest) :
    u.applyTwist i r = u.askAll i r.asks := by cases r <;> rfl

theorem Works.applyKnot_eq (u : Works) (i : LineIx) (r : KnotRequest) :
    u.applyKnot i r = u.askAll i r.asks := by cases r <;> rfl

/-- R89 to R91: the Knot Monitor after the rows of a tally. -/
def KnotMonitor.rows (m : KnotMonitor) (sp : Spec) (rs : List Row) : KnotMonitor :=
  rs.foldl (fun m r => (m.row sp r).1) m

/-- R92: how many zones the rows of a tally ask for. -/
def KnotMonitor.rowsOpen (sp : Spec) (rs : List Row) (m : KnotMonitor) : Nat :=
  ((KnotMonitor.rowsAsk sp rs m).filter ZoneRequest.opens).length

/-- R89, R92: the rows of a tally. -/
theorem Works.foldl_knotRow (i : LineIx) (rs : List Row) : ∀ u : Works,
    let w := rs.foldl (fun w r => w.knotRow i r) u
    u.attended w i (KnotMonitor.rowsAsk (u.line i).spec rs (u.line i).knot) 0
      (KnotMonitor.rowsOpen (u.line i).spec rs (u.line i).knot) id ∧
    w.line i = { u.line i with
      knot := (u.line i).knot.rows (u.line i).spec rs, unrecorded := (w.line i).unrecorded } := by
  induction rs with
  | nil => exact fun u => ⟨.refl u i, rfl⟩
  | cons r rs ih =>
    intro u w
    let x := (u.line i).knot.row (u.line i).spec r
    let v := u.modifyLine i fun l => { l with knot := x.1 }
    have hv : v.line i = { u.line i with knot := x.1 } := Works.line_modifyLine_self u i _
    have hstep : u.knotRow i r = v.askAll i x.2.asks := v.applyKnot_eq i x.2
    have h1 : u.attended v i [] 0 0 id := .of_modifyLine u i _ rfl rfl rfl
    have h2 := Works.attended.of_askAll v i x.2.asks
    have hline : (v.askAll i x.2.asks).line i = { u.line i with
        knot := x.1, unrecorded := ((v.askAll i x.2.asks).line i).unrecorded } := by
      rw [Works.line_askAll, hv]
    obtain ⟨hrest, hlast⟩ := ih (v.askAll i x.2.asks)
    rw [← hstep] at hrest hlast hline h2
    rw [hline] at hrest
    have h := (h1.trans h2).trans hrest
    refine ⟨?_, ?_⟩
    · have hn : 0 + (x.2.asks.filter ZoneRequest.opens).length +
          KnotMonitor.rowsOpen (u.line i).spec rs x.1 =
          KnotMonitor.rowsOpen (u.line i).spec (r :: rs) (u.line i).knot := by
        simp only [KnotMonitor.rowsOpen, KnotMonitor.rowsAsk, List.filter_append,
          List.length_append, Nat.zero_add]
        rfl
      rw [← hn]
      exact h
    · refine hlast.trans ?_
      rw [hline]
      rfl

/-- R93: the fault rows of a tally, which a line without a coil counts as missed. -/
def faultRows (rs : List Row) : Nat := (rs.filter fun r => r.kind.fault).length

/-- R87: the counters of a coil after the rows of a tally. -/
def rowTallies (kpr : Nat) (rs : List Row) (x : Nat × Nat × Nat × Nat) : Nat × Nat × Nat × Nat :=
  (x.1, countUp x.2.1 (faultRows rs), countUp x.2.2.1 (rs.map fun r => r.kind.missed kpr).sum,
    countUp x.2.2.2 (rs.map fun r => r.kind.excess kpr).sum)

/-- R87, R93: the rows of a tally are counted. -/
theorem Works.countRows_attended (u : Works) (i : LineIx) (rs : List Row) :
    u.attended (u.countRows i rs) i [] 0 (faultRows rs) (rowTallies (u.line i).spec.knotsPerRow rs) ∧
    (u.countRows i rs).line i =
      { u.line i with unrecorded := ((u.countRows i rs).line i).unrecorded } := by
  cases hc : u.currentCoil? i with
  | none =>
    have hw : u.countRows i rs = u.countUnrecorded i (faultRows rs) := by
      simp only [Works.countRows, hc]; rfl
    have hline : (u.countUnrecorded i (faultRows rs)).line i = _ := Works.line_modifyLine_self u i _
    rw [hw]
    refine ⟨⟨.of_modifyLine u i _ rfl rfl, fun _ _ => by rw [hline]; rfl, fun h => absurd hc h,
      fun c b h => absurd (hc.symm.trans h) (Option.some_ne_none c).symm⟩, by rw [hline]⟩
  | some c =>
    have hw : u.countRows i rs =
        u.modifyCoil c.key fun c => c.countRows (u.line i).spec.knotsPerRow rs := by
      simp only [Works.countRows, hc]
    have h := Works.attended.of_modifyCoil hc (fun c => c.countRows (u.line i).spec.knotsPerRow rs)
      (fun _ => rfl) ⟨rfl, fun _ => Iff.rfl⟩
      (g := rowTallies (u.line i).spec.knotsPerRow rs) rfl
    rw [hw]
    exact ⟨⟨h.asked, fun hn => absurd (hc.symm.trans hn) (Option.some_ne_none c), h.counted.kept,
      h.counted.tallies⟩, rfl⟩

/-- The rows of a tally as a line whose baselines have moved classifies them. -/
def Line.rowsOf (l : Line) (rows : Nat) (es : List FaultEntry) (overflow : Bool) (pre : Nat) :
    List Row := classifyRows l.spec l.baselines.rows rows es overflow pre

/-- R41: the line after its monitor, with the measure length and differences of a credited tally. -/
def Line.watched (l : Line) (measure : Nat) (d : Counts) (f : CountFrame) (pre : Nat) : Line :=
  match l.kind with
  | .unused => l
  | .twist => { l with
      twist := (l.twist.tally l.spec measure d.spindle.toNat pre l.position).1 }
  | .knot => { l with
      staleEntries := countUp l.staleEntries (staleCount l.baselines.rows d.rows.toNat f.entries),
      knot := l.knot.rows l.spec (l.rowsOf d.rows.toNat f.entries f.overflow pre) }

/-- R41: what the monitor asks for. -/
def Line.watchAsks (l : Line) (measure : Nat) (d : Counts) (f : CountFrame) (pre : Nat) :
    List ZoneRequest :=
  match l.kind with
  | .unused => []
  | .twist => (l.twist.tally l.spec measure d.spindle.toNat pre l.position).2.asks
  | .knot => KnotMonitor.rowsAsk l.spec (l.rowsOf d.rows.toNat f.entries f.overflow pre) l.knot

/-- R93: the fault rows that a tally brings. -/
def Line.watchFaults (l : Line) (d : Counts) (f : CountFrame) (pre : Nat) : Nat :=
  match l.kind with
  | .unused | .twist => 0
  | .knot => faultRows (l.rowsOf d.rows.toNat f.entries f.overflow pre)

/-- R87: the counters of a line's coil after a tally. -/
def Line.watchTallies (l : Line) (d : Counts) (f : CountFrame) (pre : Nat) :
    Nat × Nat × Nat × Nat → Nat × Nat × Nat × Nat :=
  match l.kind with
  | .unused | .twist => id
  | .knot => rowTallies l.spec.knotsPerRow (l.rowsOf d.rows.toNat f.entries f.overflow pre)

/-- R73: a Twist Monitor that has moved, and what it asks for. -/
theorem Works.applyTwist_attended {u w : Works} {i : LineIx} {m : TwistMonitor} {r : TwistRequest}
    (hw : w = (u.modifyLine i fun l => { l with twist := m }).applyTwist i r) :
    u.attended w i r.asks 0 (r.asks.filter ZoneRequest.opens).length id ∧
    w.line i = { u.line i with twist := m, unrecorded := (w.line i).unrecorded } := by
  let v := u.modifyLine i fun l => { l with twist := m }
  rw [Works.applyTwist_eq] at hw
  have h1 : u.attended v i [] 0 0 id := .of_modifyLine u i _ rfl rfl rfl
  have h := h1.trans (.of_askAll v i r.asks)
  have hv : v.line i = { u.line i with twist := m } := Works.line_modifyLine_self u i _
  rw [hw]
  rw [Nat.zero_add] at h
  refine ⟨h, ?_⟩
  conv_lhs => rw [Works.line_askAll, hv]

/-- A line of a kind that it is not. -/
theorem LineKind.absurd_of {k a b : LineKind} (h : k = a) (h' : k = b) (hne : a ≠ b) {P : Prop} : P :=
  absurd (h.symm.trans h') hne

section
variable {l : Line} (measure : Nat) (d : Counts) (f : CountFrame) (pre : Nat)

theorem Line.watch_unused (h : l.kind = .unused) : l.watched measure d f pre = l ∧
    l.watchAsks measure d f pre = [] ∧ l.watchFaults d f pre = 0 ∧ l.watchTallies d f pre = id := by
  unfold Line.watched Line.watchAsks Line.watchFaults Line.watchTallies
  rw [h]
  exact ⟨rfl, rfl, rfl, rfl⟩

theorem Line.watch_twist (h : l.kind = .twist) {r : TwistMonitor × TwistRequest}
    (hr : l.twist.tally l.spec measure d.spindle.toNat pre l.position = r) :
    l.watched measure d f pre = { l with twist := r.1 } ∧
    l.watchAsks measure d f pre = r.2.asks ∧
    l.watchFaults d f pre = 0 ∧ l.watchTallies d f pre = id := by
  refine ⟨?_, ?_, ?_, ?_⟩
  · unfold Line.watched
    split
    · next h' => exact LineKind.absurd_of h h' nofun
    · rw [hr]
    · next h' => exact LineKind.absurd_of h h' nofun
  · unfold Line.watchAsks
    rw [h, ← hr]
  · unfold Line.watchFaults
    rw [h]
  · unfold Line.watchTallies
    rw [h]

theorem Line.watch_knot (h : l.kind = .knot) : l.watched measure d f pre = { l with
      staleEntries := countUp l.staleEntries (staleCount l.baselines.rows d.rows.toNat f.entries),
      knot := l.knot.rows l.spec (l.rowsOf d.rows.toNat f.entries f.overflow pre) } ∧
    l.watchAsks measure d f pre =
      KnotMonitor.rowsAsk l.spec (l.rowsOf d.rows.toNat f.entries f.overflow pre) l.knot ∧
    l.watchFaults d f pre = faultRows (l.rowsOf d.rows.toNat f.entries f.overflow pre) ∧
    l.watchTallies d f pre =
      rowTallies l.spec.knotsPerRow (l.rowsOf d.rows.toNat f.entries f.overflow pre) := by
  refine ⟨?_, ?_, ?_, ?_⟩
  · unfold Line.watched
    split
    · next h' => exact LineKind.absurd_of h h' nofun
    · next h' => exact LineKind.absurd_of h h' nofun
    · rfl
  · unfold Line.watchAsks
    rw [h]
  · unfold Line.watchFaults
    rw [h]
  · unfold Line.watchTallies
    rw [h]

end

theorem Works.monitorTally_unused {u : Works} {i : LineIx} (h : (u.line i).kind = .unused)
    (measure : Nat) (d : Counts) (f : CountFrame) (pre : Nat) :
    u.monitorTally i measure d f pre = u := by
  rw [Works.monitorTally, h]

theorem Works.monitorTally_twist {u : Works} {i : LineIx} (h : (u.line i).kind = .twist)
    (measure : Nat) (d : Counts) (f : CountFrame) (pre : Nat) :
    u.monitorTally i measure d f pre = u.twistTally i measure d.spindle.toNat pre := by
  rw [Works.monitorTally, h]

theorem Works.monitorTally_knot {u : Works} {i : LineIx} (h : (u.line i).kind = .knot)
    (measure : Nat) (d : Counts) (f : CountFrame) (pre : Nat) :
    u.monitorTally i measure d f pre = u.knotTally i d.rows.toNat f.entries f.overflow pre := by
  rw [Works.monitorTally, h]

/-- R57: a credited tally of a TWIST line. -/
theorem Works.twistTally_attended (u : Works) (i : LineIx) (dl dq pre : Nat)
    {r : TwistMonitor × TwistRequest}
    (hr : (u.line i).twist.tally (u.line i).spec dl dq pre (u.line i).position = r) :
    u.attended (u.twistTally i dl dq pre) i r.2.asks 0
      (r.2.asks.filter ZoneRequest.opens).length id ∧
    (u.twistTally i dl dq pre).line i = { u.line i with
      twist := r.1, unrecorded := ((u.twistTally i dl dq pre).line i).unrecorded } := by
  unfold Works.twistTally
  dsimp only
  rw [hr]
  exact Works.applyTwist_attended rfl

/-- R81: a credited tally of a KNOT line. -/
theorem Works.knotTally_attended (u : Works) (i : LineIx) (rows : Nat) (es : List FaultEntry)
    (overflow : Bool) (pre : Nat) {rs : List Row}
    (hrs : (u.line i).rowsOf rows es overflow pre = rs) :
    u.attended (u.knotTally i rows es overflow pre) i
      (KnotMonitor.rowsAsk (u.line i).spec rs (u.line i).knot) 0
      (faultRows rs + KnotMonitor.rowsOpen (u.line i).spec rs (u.line i).knot)
      (rowTallies (u.line i).spec.knotsPerRow rs) ∧
    (u.knotTally i rows es overflow pre).line i = { u.line i with
      staleEntries := countUp (u.line i).staleEntries (staleCount (u.line i).baselines.rows rows es),
      knot := (u.line i).knot.rows (u.line i).spec rs,
      unrecorded := ((u.knotTally i rows es overflow pre).line i).unrecorded } := by
  let stale := staleCount (u.line i).baselines.rows rows es
  let v := u.modifyLine i fun l => { l with staleEntries := countUp l.staleEntries stale }
  have hw : u.knotTally i rows es overflow pre =
      rs.foldl (fun w r => w.knotRow i r) (v.countRows i rs) := by rw [← hrs]; rfl
  have h1 : u.attended v i [] 0 0 id := .of_modifyLine u i _ rfl rfl rfl
  have hv : v.line i = { u.line i with staleEntries := countUp (u.line i).staleEntries stale } :=
    Works.line_modifyLine_self u i _
  obtain ⟨h2, hl2⟩ := v.countRows_attended i rs
  obtain ⟨h3, hl3⟩ := Works.foldl_knotRow i rs (v.countRows i rs)
  rw [hl2, hv] at h3 hl3
  rw [hv] at h2
  have h := (h1.trans h2).trans h3
  rw [Nat.zero_add] at h
  rw [hw]
  exact ⟨h, hl3⟩

/-- R41 step 1: a credited tally reaches the line's monitor. -/
theorem Works.monitorTally_attended (u : Works) (i : LineIx) (measure : Nat) (d : Counts)
    (f : CountFrame) (pre : Nat) :
    u.attended (u.monitorTally i measure d f pre) i ((u.line i).watchAsks measure d f pre) 0
      ((u.line i).watchFaults d f pre +
        (((u.line i).watchAsks measure d f pre).filter ZoneRequest.opens).length)
      ((u.line i).watchTallies d f pre) ∧
    (u.monitorTally i measure d f pre).line i = { (u.line i).watched measure d f pre with
      unrecorded := ((u.monitorTally i measure d f pre).line i).unrecorded } := by
  cases hk : (u.line i).kind with
  | unused =>
    obtain ⟨h1, h2, h3, h4⟩ := Line.watch_unused measure d f pre hk
    rw [h1, h2, h3, h4, Works.monitorTally_unused hk]
    exact ⟨.refl u i, rfl⟩
  | twist =>
    obtain ⟨r, hr⟩ : ∃ r, (u.line i).twist.tally (u.line i).spec measure d.spindle.toNat pre
        (u.line i).position = r := ⟨_, rfl⟩
    obtain ⟨e1, e2, e3, e4⟩ := Line.watch_twist measure d f pre hk hr
    rw [e1, e2, e3, e4, Nat.zero_add, Works.monitorTally_twist hk]
    exact u.twistTally_attended i measure d.spindle.toNat pre hr
  | knot =>
    obtain ⟨e1, e2, e3, e4⟩ := Line.watch_knot measure d f pre hk
    rw [e1, e2, e3, e4, Works.monitorTally_knot hk]
    exact u.knotTally_attended i d.rows.toNat f.entries f.overflow pre rfl

end Sys2Proof.Machine
end

section
namespace Sys2Proof.Machine

/-! ## The slip check (R42 to R45) -/

/-- R42 to R45: the slip detector after a tally with the given findings, and what it asks for. -/
def SlipDetector.checked (m : SlipDetector) (pre : Nat) : SlipFinding → SlipDetector × SlipRequest
  | .belowFloor => (m, .nothing)
  | .slip dis => m.slipTally pre dis
  | .clean => m.cleanTally pre

/-- R42: the finding on a tally; without a check source there is nothing to find. -/
def findingOf (permille measure : Nat) : Option Nat → SlipFinding
  | none => .belowFloor
  | some check => slipFinding permille measure check

/-- R43: a finding that counts a slip tally. -/
def SlipFinding.slips : SlipFinding → Bool
  | .slip _ => true
  | .belowFloor | .clean => false

/-- R44, R45: a slip detector's request as one of cause SLIP. -/
def SlipRequest.asks : SlipRequest → List ZoneRequest
  | .nothing => []
  | .openAt pos extreme => [.openAt .slip pos extreme]
  | .closeAt pos => [.closeAt .slip pos]
  | .raise extreme => [.raise .slip extreme]

def SlipRequest.opens : SlipRequest → Bool
  | .openAt .. => true
  | .nothing | .closeAt _ | .raise _ => false

theorem SlipRequest.asks_opens (r : SlipRequest) :
    (r.asks.filter ZoneRequest.opens).length = if r.opens then 1 else 0 := by cases r <;> rfl

/-- R44, R45: the slip detector opens a zone exactly when it begins to slip. -/
theorem SlipDetector.checked_opens (m : SlipDetector) (pre : Nat) (f : SlipFinding) :
    (m.checked pre f).2.opens = (!m.slipping && (m.checked pre f).1.slipping) := by
  cases f with
  | belowFloor =>
    show false = (!m.slipping && m.slipping)
    cases m.slipping <;> rfl
  | slip dis =>
    show (m.slipTally pre dis).2.opens = (!m.slipping && (m.slipTally pre dis).1.slipping)
    unfold SlipDetector.slipTally
    cases hs : m.slipping with
    | true => rfl
    | false =>
      rw [if_neg Bool.false_ne_true]
      split <;> rfl
  | clean =>
    show (m.cleanTally pre).2.opens = (!m.slipping && (m.cleanTally pre).1.slipping)
    unfold SlipDetector.cleanTally
    cases hs : m.slipping with
    | true =>
      rw [if_pos rfl]
      split <;> rfl
    | false =>
      rw [if_neg Bool.false_ne_true]
      rfl

/-- R42: the gap of the two lengths. -/
theorem slipGap (measure check : Nat) :
    measure - check + (check - measure) = max measure check - min measure check := by omega

/-- R42, R44, R45: what the slip detector asks for on a tally with a check length. -/
theorem SlipDetector.checked_asks (m : SlipDetector) (permille measure check pre : Nat) :
    (m.checked pre (slipFinding permille measure check)).2.asks = m.asks permille measure check := by
  unfold slipFinding SlipDetector.asks
  dsimp only
  rw [slipGap]
  have hfloor : Config.slipFloor = 100000 := rfl
  rw [hfloor]
  by_cases h1 : max measure check < 100000
  · rw [if_pos h1, if_pos h1]; rfl
  rw [if_neg h1, if_neg h1]
  generalize (max measure check - min measure check) * 1000 = gap
  by_cases h2 : permille * max measure check < gap
  · rw [if_pos h2, if_pos h2]
    show (m.slipTally pre _).2.asks = _
    unfold SlipDetector.slipTally
    cases m.slipping with
    | true => rfl
    | false =>
      rw [if_neg Bool.false_ne_true, if_neg Bool.false_ne_true]
      rcases m.slipRun with _ | _ | n
      · rfl
      · rfl
      · rw [if_pos (by omega)]; rfl
  · rw [if_neg h2, if_neg h2]
    show (m.cleanTally pre).2.asks = _
    unfold SlipDetector.cleanTally
    cases m.slipping with
    | false => rw [if_neg Bool.false_ne_true, if_neg (by simp)]; rfl
    | true =>
      rw [if_pos rfl]
      rcases m.cleanRun with _ | _ | n
      · rfl
      · rfl
      · rw [if_pos ⟨rfl, by omega⟩]; rfl

theorem half_zero_or (x : Half) : (0 : Half) ||| x = x := BitVec.zero_or

/-- R43: the line's counter of slip tallies, and its coil's. -/
theorem Works.countSlip_attended (u : Works) (i : LineIx) :
    u.attended (u.countSlip i) i [] 0 0 (fun x => (countUp x.1 1, x.2)) ∧
    (u.countSlip i).line i =
      { u.line i with slipTallies := countUp (u.line i).slipTallies 1 } := by
  let v := u.modifyLine i fun l => { l with slipTallies := countUp l.slipTallies 1 }
  have h1 : u.attended v i [] 0 0 id := .of_modifyLine u i _ rfl rfl rfl
  have hv : v.line i = { u.line i with slipTallies := countUp (u.line i).slipTallies 1 } :=
    Works.line_modifyLine_self u i _
  cases hc : v.currentCoil? i with
  | none =>
    have hw : u.countSlip i = v := by
      show (match v.currentCoil? i with | none => _ | some c => _) = v
      rw [hc]
    rw [hw]
    have hu : ∀ c, u.currentCoil? i ≠ some c := fun c h => by
      obtain ⟨-, b, hb, -⟩ := h1.asked.reached c h
      exact absurd (hc.symm.trans hb) (Option.some_ne_none b).symm
    exact ⟨⟨h1.asked, h1.counted.missed, h1.counted.kept, fun c b h => absurd h (hu c)⟩, hv⟩
  | some c =>
    have hw : u.countSlip i =
        v.modifyCoil c.key fun c => { c with slipTallies := countUp c.slipTallies 1 } := by
      show (match v.currentCoil? i with | none => _ | some c => _) = _
      rw [hc]
    have h2 := Works.attended.of_modifyCoil hc
      (fun c => { c with slipTallies := countUp c.slipTallies 1 }) (fun _ => rfl)
      ⟨rfl, fun _ => Iff.rfl⟩ (g := fun x => (countUp x.1 1, x.2)) rfl
    rw [hw]
    exact ⟨h1.trans h2, hv⟩

/-- R44, R45: the slip detector has moved, and asks. -/
theorem Works.applySlip_attended {u w : Works} {i : LineIx} {m : SlipDetector} {r : SlipRequest}
    (hw : w = (u.modifyLine i fun l => { l with slip := m }).applySlip i r) :
    u.attended w i r.asks (if r.opens then 0x40 else 0) (if r.opens then 1 else 0) id ∧
    w.line i = { u.line i with slip := m, unrecorded := (w.line i).unrecorded } := by
  let v := u.modifyLine i fun l => { l with slip := m }
  have hv : v.line i = { u.line i with slip := m } := Works.line_modifyLine_self u i _
  have h1 : u.attended v i [] 0 0 id := .of_modifyLine u i _ rfl rfl rfl
  have h2 := h1.trans (Works.attended.of_askAll v i r.asks)
  have hl2 : (v.askAll i r.asks).line i = { u.line i with
      slip := m, unrecorded := ((v.askAll i r.asks).line i).unrecorded } := by
    conv_lhs => rw [Works.line_askAll, hv]
  rw [SlipRequest.asks_opens, Nat.zero_add] at h2
  cases r with
  | nothing | closeAt _ | raise _ => subst hw; exact ⟨h2, hl2⟩
  | openAt pos x => subst hw; exact ⟨h2.trans (Works.attended.of_raiseLine _ i 0x40), hl2⟩

/-- R42 to R45: the slip check of a credited tally. -/
theorem Works.slipCheck_attended (u : Works) (permille : Nat) (i : LineIx) (measure : Nat)
    (check : Option Nat) (pre : Nat) {f : SlipFinding} (hf : findingOf permille measure check = f) :
    u.attended (u.slipCheck permille i measure check pre) i
      ((u.line i).slip.checked pre f).2.asks
      (if ((u.line i).slip.checked pre f).2.opens then 0x40 else 0)
      (if ((u.line i).slip.checked pre f).2.opens then 1 else 0)
      (fun x => (if f.slips then countUp x.1 1 else x.1, x.2)) ∧
    (u.slipCheck permille i measure check pre).line i = { u.line i with
      slip := ((u.line i).slip.checked pre f).1,
      slipTallies := if f.slips then countUp (u.line i).slipTallies 1 else (u.line i).slipTallies,
      unrecorded := ((u.slipCheck permille i measure check pre).line i).unrecorded } := by
  cases f with
  | belowFloor =>
    have hw : u.slipCheck permille i measure check pre = u := by
      unfold Works.slipCheck
      cases check with
      | none => rfl
      | some c =>
        dsimp only
        rw [show slipFinding permille measure c = _ from hf]
    rw [hw]
    exact ⟨.refl u i, rfl⟩
  | clean =>
    have hw : u.slipCheck permille i measure check pre =
        (u.modifyLine i fun l => { l with slip := ((u.line i).slip.cleanTally pre).1 }).applySlip i
          ((u.line i).slip.cleanTally pre).2 := by
      unfold Works.slipCheck
      cases check with
      | none => exact nomatch hf
      | some c =>
        dsimp only
        rw [show slipFinding permille measure c = _ from hf]
    exact Works.applySlip_attended hw
  | slip dis =>
    obtain ⟨h1, hl1⟩ := u.countSlip_attended i
    have hslip : ((u.countSlip i).line i).slip = (u.line i).slip := by rw [hl1]
    have hw : u.slipCheck permille i measure check pre = ((u.countSlip i).modifyLine i fun l =>
        { l with slip := ((u.line i).slip.slipTally pre dis).1 }).applySlip i
          ((u.line i).slip.slipTally pre dis).2 := by
      unfold Works.slipCheck
      cases check with
      | none => exact nomatch hf
      | some c =>
        dsimp only
        rw [show slipFinding permille measure c = _ from hf]
        dsimp only
        rw [hslip]
    obtain ⟨h2, hl2⟩ := Works.applySlip_attended hw
    rw [hl1] at hl2
    have h := h1.trans h2
    rw [Nat.zero_add, half_zero_or] at h
    exact ⟨h, hl2⟩

/-! ## The pending joint close, and the grade (R105, R112) -/

theorem Works.closeJoint_attended (u : Works) (i : LineIx) :
    u.attended (u.closeJoint i) i (jointAsks (u.line i).jointClose (u.line i).position) 0 0 id ∧
    (u.closeJoint i).line i = { u.line i with
      jointClose := (u.line i).jointClose.filter fun p => decide ((u.line i).position < p) } := by
  cases hj : (u.line i).jointClose with
  | none =>
    have hw : u.closeJoint i = u := by rw [Works.closeJoint, hj]
    rw [hw]
    exact ⟨.refl u i, by rw [Option.filter_none, ← hj]⟩
  | some p =>
    by_cases hp : p ≤ (u.line i).position
    · let v := u.ask i (.closeAt .joint p)
      have hw : u.closeJoint i = v.modifyLine i fun l => { l with jointClose := none } := by
        rw [Works.closeJoint, hj]
        exact if_pos hp
      have hv : v.line i = u.line i := by
        have h : v.lines = u.lines := (congrArg Works.lines (u.requestClose_frame i .joint p)).trans rfl
        exact Works.line_congr h i
      have h1 : u.attended v i [.closeAt .joint p] 0 0 id := ⟨u.ask_heeds i _, u.ask_counts i _⟩
      have h2 : v.attended (v.modifyLine i fun l => { l with jointClose := none }) i [] 0 0 id :=
        .of_modifyLine v i _ rfl rfl rfl
      have hasks : jointAsks (some p) (u.line i).position = [.closeAt .joint p] := if_pos hp
      rw [hw, hasks, Works.line_modifyLine_self, hv]
      refine ⟨h1.trans h2, ?_⟩
      rw [Option.filter_some, decide_eq_false (by omega)]
      rfl
    · have hw : u.closeJoint i = u := by
        rw [Works.closeJoint, hj]
        exact if_neg hp
      have hasks : jointAsks (some p) (u.line i).position = [] := if_neg hp
      rw [hw, hasks]
      refine ⟨.refl u i, ?_⟩
      rw [Option.filter_some, decide_eq_true (by omega), if_pos rfl, ← hj]

/-- R112: the line's current coil is graded anew. -/
def Works.regradeLine (u : Works) (i : LineIx) : Works :=
  match (u.line i).coil with
  | none => u
  | some k => u.regrade k

theorem Works.regradeLine_attended (u : Works) (i : LineIx) :
    u.attended (u.regradeLine i) i [] 0 0 id ∧ (u.regradeLine i).line i = u.line i ∧
    (u.regradeLine i).graded i := by
  cases hc : u.currentCoil? i with
  | none =>
    have hw : u.regradeLine i = u := by
      unfold Works.regradeLine
      cases hk : (u.line i).coil with
      | none => rfl
      | some k =>
        rw [Works.currentCoil?, hk] at hc
        exact Works.modifyCoil_absent hc _
    rw [hw]
    exact ⟨.refl u i, rfl, fun c h => absurd (hc.symm.trans h) (Option.some_ne_none c).symm⟩
  | some c =>
    obtain ⟨hkey, hk⟩ := Works.currentCoil?_key hc
    have hf : ∀ b : Coil, (b.regraded (u.coilLength b)).key = b.key := fun b =>
      (b.regraded_fixed _).1
    have hw : u.regradeLine i = u.modifyCoil c.key fun b => b.regraded (u.coilLength b) := by
      unfold Works.regradeLine
      rw [hkey]
      rfl
    have hnow : (u.regradeLine i).currentCoil? i = some (c.regraded (u.coilLength c)) := by
      rw [hw]
      exact Works.currentCoil?_of (by rw [hf]; exact hkey)
        (by rw [hf]; exact Works.coil?_modifyCoil_self u _ _ c hf hk)
    refine ⟨?_, by rw [hw]; rfl, fun b hb hfin => ?_⟩
    · rw [hw]
      exact .of_modifyCoil hc _ hf (Coil.regraded_alike _ _) (c.regraded_fixed _).2
    · obtain rfl := Option.some.inj (hnow.symm.trans hb)
      have hlen : (u.regradeLine i).coilLength (c.regraded (u.coilLength c)) = u.coilLength c := by
        rw [hw, Coil.regraded_eq]; rfl
      rw [hlen]
      exact Coil.regraded_grade (by rw [← hfin, Coil.regraded_eq]) _

end Sys2Proof.Machine
end

section
namespace Sys2Proof.Machine

/-! ## The credit (R38 to R40) -/

/-- R9, R39: what a credit of `mm` adds to the lot of a line. -/
def Lot.credited (t : Lot) (starved : Bool) (mm : Nat) : Lot :=
  { t with
    produced := min 281474976710655 (t.produced + mm),
    unassigned := if starved then min 281474976710655 (t.unassigned + mm) else t.unassigned }

/-- Whether a lot is in the table and has a property. -/
def Works.lotHas (u : Works) (n : Nat) (p : Lot → Bool) : Bool := (u.lot? n).any p

/-- R39: whether a credit would carry the position of the line, or a total of its lot, past the
limit. -/
def Works.creditPasses (u : Works) (l : Line) (n mm : Nat) : Bool :=
  passesLimit l.position mm || (u.lotHas n (fun t => passesLimit t.produced mm) ||
    (decide (l.state = .starved) && u.lotHas n fun t => passesLimit t.unassigned mm))

/-- COUNT_SATURATED, when it is due. -/
def saturatedBit (due : Bool) : Half := if due then 0x8 else 0

theorem saturatedBit_or (p q : Bool) : saturatedBit p ||| saturatedBit q = saturatedBit (p || q) := by
  cases p <;> cases q <;> rfl

theorem Works.raiseSaturated_bit (u : Works) (due : Bool) :
    u.raiseSaturated due = u.raiseGlobal (saturatedBit due) := Works.raiseSaturated_eq u due

/-- Totals go to the lots and COUNT_SATURATED to the notices, so their order does not matter. -/
theorem Works.addProduced_eq (u : Works) (n mm : Nat) : u.addProduced n mm =
    (u.modifyLot n fun t => { t with produced := addLength t.produced mm }).raiseGlobal
      (saturatedBit (u.lotHas n fun t => passesLimit t.produced mm)) :=
  Works.raiseSaturated_bit _ _

theorem Works.addUnassigned_eq (u : Works) (n mm : Nat) : u.addUnassigned n mm =
    (u.modifyLot n fun t => { t with unassigned := addLength t.unassigned mm }).raiseGlobal
      (saturatedBit (u.lotHas n fun t => passesLimit t.unassigned mm)) :=
  Works.raiseSaturated_bit _ _

theorem Works.raiseGlobal_raiseGlobal (u : Works) (x y : Half) :
    (u.raiseGlobal x).raiseGlobal y = u.raiseGlobal (x ||| y) := by
  simp [Works.raiseGlobal, BitVec.or_assoc]

/-- The produced length of a lot does not bear on a property that does not read it. -/
theorem Works.lotHas_modifyLot (u : Works) (n : Nat) (f : Lot → Lot)
    (hf : ∀ t, (f t).number = t.number) (p : Lot → Bool) (hp : ∀ t, p (f t) = p t) :
    (u.modifyLot n f).lotHas n p = u.lotHas n p := by
  rw [Works.lotHas, Works.lot?_modifyLot _ _ _ _ hf, Works.lotHas]
  cases u.lot? n with
  | none => rfl
  | some t =>
    rw [Option.map_some, Option.any_some, Option.any_some]
    split
    · exact hp t
    · rfl

/-- R39: a line that has starved is credited to the lot's unassigned length too. -/
theorem Works.giveCredit_cases {u : Works} {i : LineIx} {n : Nat}
    (hs : (u.line i).state = .running ∨ (u.line i).state = .releasing ∨
      (u.line i).state = .starved) (hn : (u.line i).lot = some n) (counts : Counts)
    {mm : Nat} (hmm : (u.line i).credit counts = mm) {v : Works}
    (hv : (u.modifyLine i fun l => l.credited counts).raiseSaturated
      (passesLimit (u.line i).position mm) = v) :
    u.giveCredit i counts = if (u.line i).state = .starved then
      (v.addProduced n mm).addUnassigned n mm else v.addProduced n mm := by
  subst hmm hv
  unfold Works.giveCredit
  dsimp only
  rw [hn]
  rcases hs with hs | hs | hs <;> rw [hs] <;> rfl

/-- R38, R39: the records after the credit of a line that runs or has starved. -/
theorem Works.giveCredit_eq {u : Works} {i : LineIx} {n : Nat}
    (hs : (u.line i).state = .running ∨ (u.line i).state = .releasing ∨
      (u.line i).state = .starved) (hn : (u.line i).lot = some n) (counts : Counts) {mm : Nat}
    (hmm : (u.line i).credit counts = mm) :
    u.giveCredit i counts = ((u.modifyLine i fun l => l.credited counts).modifyLot n fun t =>
      t.credited (decide ((u.line i).state = .starved)) mm).raiseGlobal
        (saturatedBit (u.creditPasses (u.line i) n mm)) := by
  let v := u.modifyLine i fun l => l.credited counts
  rw [Works.giveCredit_cases hs hn counts hmm (v := v.raiseSaturated _) rfl,
    Works.raiseSaturated_bit]
  have hp : ∀ x, ((v.raiseGlobal x).addProduced n mm) = (v.modifyLot n fun t =>
      { t with produced := addLength t.produced mm }).raiseGlobal
        (x ||| saturatedBit (u.lotHas n fun t => passesLimit t.produced mm)) := fun x => by
    rw [Works.addProduced_eq, ← Works.raiseGlobal_raiseGlobal]
    rfl
  by_cases hst : (u.line i).state = .starved
  · have hmod := v.modifyLot_modifyLot n (fun t => { t with produced := addLength t.produced mm })
      (fun t => { t with unassigned := addLength t.unassigned mm }) fun _ => rfl
    have hhas : ∀ x, ((v.modifyLot n fun t =>
        { t with produced := addLength t.produced mm }).raiseGlobal x).lotHas n
          (fun t => passesLimit t.unassigned mm) =
        u.lotHas n fun t => passesLimit t.unassigned mm := fun x =>
      v.lotHas_modifyLot n (fun t => { t with produced := addLength t.produced mm }) (fun _ => rfl)
        _ fun _ => rfl
    rw [if_pos hst, hp, Works.addUnassigned_eq, hhas]
    show ((v.modifyLot n _).modifyLot n _ |>.raiseGlobal _).raiseGlobal _ = _
    rw [Works.raiseGlobal_raiseGlobal, BitVec.or_assoc, saturatedBit_or, saturatedBit_or, hmod,
      Works.creditPasses, hst]
    rfl
  · rw [if_neg hst, hp, saturatedBit_or, Works.creditPasses, decide_eq_false hst, Bool.false_and,
      Bool.or_false]
    rfl

end Sys2Proof.Machine
end

section
namespace Sys2Proof.Machine

/-! ## A credited tally as a whole (R38 to R45, R57, R81, R105) -/

/-- R57, R81: a monitor's tally moves the monitors and the stale entries alone. -/
theorem Line.watched_frame (l : Line) (measure : Nat) (d : Counts) (f : CountFrame) (pre : Nat) :
    l.watched measure d f pre = { l with
      twist := (l.watched measure d f pre).twist, knot := (l.watched measure d f pre).knot,
      staleEntries := (l.watched measure d f pre).staleEntries } := by
  obtain hk | hk | hk : l.kind = .unused ∨ l.kind = .twist ∨ l.kind = .knot := by
    cases l.kind <;> simp
  · rw [(Line.watch_unused measure d f pre hk).1]
  · obtain ⟨r, hr⟩ : ∃ r, l.twist.tally l.spec measure d.spindle.toNat pre l.position = r :=
      ⟨_, rfl⟩
    rw [(Line.watch_twist measure d f pre hk hr).1]
  · rw [(Line.watch_knot measure d f pre hk).1]

/-- R42: the finding of the slip check of a tally. -/
def Line.slipFound (l : Line) (permille : Nat) (d : Counts) : SlipFinding :=
  findingOf permille (l.measureLength d) (l.checkLength? d)

/-- R44, R45: the slip detector after a tally, and what it asks for. -/
def Line.slipAfter (l : Line) (permille : Nat) (d : Counts) : SlipDetector × SlipRequest :=
  l.slip.checked l.position (l.slipFound permille d)

/-- R41: the requests of a credited tally, by the unit that asks. -/
theorem Line.tallyAsks_eq (l : Line) (permille : Nat) (f : CountFrame) :
    ((l.credited f.counts).watchAsks (l.measureLength (f.counts.minus l.baselines))
      (f.counts.minus l.baselines) f l.position ++
      (l.slipAfter permille (f.counts.minus l.baselines)).2.asks) ++
      jointAsks l.jointClose (l.credited f.counts).position =
    l.tallyAsks permille f.counts f.entries f.overflow (l.credited f.counts).position := by
  unfold Line.tallyAsks
  dsimp only
  refine congrArg₂ _ (congrArg₂ _ ?_ ?_) rfl
  · unfold Line.watchAsks
    cases hk : l.kind <;> rw [show (l.credited f.counts).kind = _ from hk] <;> rfl
  · unfold Line.slipAfter Line.slipFound
    cases l.checkLength? (f.counts.minus l.baselines) with
    | none => rfl
    | some check => exact l.slip.checked_asks permille _ check l.position

/-- R41 to R45, R105: the records `v`, in which all but the planned-cut test of a credited tally is
done, when `u` are those after the credit and `l` was the line before it. -/
structure Works.tallied (u v : Works) (i : LineIx) (l : Line) (permille : Nat) (f : CountFrame) :
    Prop where
  asked : u.heeds v i
    (l.tallyAsks permille f.counts f.entries f.overflow (l.credited f.counts).position)
    (if (l.slipAfter permille (f.counts.minus l.baselines)).2.opens then 0x40 else 0)
  counted : u.counts v i
    ((l.credited f.counts).watchFaults (f.counts.minus l.baselines) f l.position +
      (((l.credited f.counts).watchAsks (l.measureLength (f.counts.minus l.baselines))
        (f.counts.minus l.baselines) f l.position).filter ZoneRequest.opens).length +
      (if (l.slipAfter permille (f.counts.minus l.baselines)).2.opens then 1 else 0))
    (fun x => let y := (l.credited f.counts).watchTallies (f.counts.minus l.baselines) f l.position x
      (if (l.slipFound permille (f.counts.minus l.baselines)).slips then countUp y.1 1 else y.1, y.2))
  line : v.line i = { (l.credited f.counts).watched (l.measureLength (f.counts.minus l.baselines))
      (f.counts.minus l.baselines) f l.position with
    slip := (l.slipAfter permille (f.counts.minus l.baselines)).1,
    slipTallies := if (l.slipFound permille (f.counts.minus l.baselines)).slips then
      countUp l.slipTallies 1 else l.slipTallies,
    jointClose := l.jointClose.filter fun p => decide ((l.credited f.counts).position < p),
    unrecorded := (v.line i).unrecorded }
  graded : v.graded i

theorem half_or_zero (x : Half) : x ||| (0 : Half) = x := BitVec.or_zero

/-- R41: a credited tally up to the planned-cut test. -/
theorem Works.tallied_of_credit {u : Works} {i : LineIx} {l : Line} {f : CountFrame}
    (hl : u.line i = l.credited f.counts) (permille : Nat) :
    let d := f.counts.minus l.baselines
    let checked := (u.monitorTally i (l.measureLength d) d f l.position).slipCheck permille i
      (l.measureLength d) (l.checkLength? d) l.position
    u.tallied (checked.gradeTally i) i l permille f := by
  intro d checked
  let v1 := u.monitorTally i (l.measureLength d) d f l.position
  obtain ⟨h1, hl1⟩ : u.attended v1 i _ 0 _ _ ∧ v1.line i = _ :=
    u.monitorTally_attended i (l.measureLength d) d f l.position
  obtain ⟨h2, hl2⟩ : v1.attended checked i _ _ _ _ ∧ checked.line i = _ :=
    v1.slipCheck_attended permille i (l.measureLength d) (l.checkLength? d) l.position
      (f := l.slipFound permille d) rfl
  obtain ⟨h3, hl3⟩ := checked.closeJoint_attended i
  obtain ⟨h4, hl4, hgraded⟩ := (checked.closeJoint i).regradeLine_attended i
  rw [hl] at h1 hl1
  obtain ⟨W, hW⟩ : ∃ W, (l.credited f.counts).watched (l.measureLength d) d f l.position = W :=
    ⟨_, rfl⟩
  have hframe := (l.credited f.counts).watched_frame (l.measureLength d) d f l.position
  rw [hW] at hl1 hframe
  have hkeep : W.slip = l.slip ∧ W.slipTallies = l.slipTallies ∧ W.jointClose = l.jointClose ∧
      W.position = (l.credited f.counts).position := by
    rw [hframe]; exact ⟨rfl, rfl, rfl, rfl⟩
  obtain ⟨hslip, htallies, hjoint, hpos⟩ := hkeep
  rw [hl1, hslip, htallies] at hl2
  rw [hl1, hslip] at h2
  rw [hl2, hjoint, hpos] at h3 hl3
  have h := (h1.trans h2).trans (h3.trans h4)
  rw [List.append_nil, half_zero_or, half_zero_or, half_or_zero, Nat.add_zero] at h
  refine ⟨?_, h.counted, ?_, hgraded⟩
  · rw [← l.tallyAsks_eq permille f]
    exact h.asked
  · have hline : ((checked.closeJoint i).regradeLine i).line i = _ := hl4.trans hl3
    have hun : ((checked.gradeTally i).line i).unrecorded = (checked.line i).unrecorded :=
      (congrArg Line.unrecorded hline).trans rfl
    rw [hW, hun]
    exact hline

end Sys2Proof.Machine
end

section
namespace Sys2Proof.Machine

/-! ## The planned-cut test of any line -/

/-- R118: what the planned-cut test does to any line, with or without a coil. -/
structure Works.planned (v w : Works) (i : LineIx) : Prop where
  line : w.line i = { v.line i with
    cut := (w.line i).cut, reserved := (w.line i).reserved, cutPoint := (w.line i).cutPoint,
    halted := (w.line i).halted }
  others : ∀ j, j ≠ i → w.line j = v.line j
  lots : w.lots = v.lots
  waitList : w.waitList = v.waitList
  lanes : w.lanes = v.lanes
  queues : w.queues = v.queues
  notices : w.notices = v.notices
  idle : v.currentCoil? i = none → w.coils = v.coils
  stands : (v.line i).state ≠ .running → w = v
  reached : ∀ c, v.currentCoil? i = some c → (∀ k, k ≠ c.key → w.coil? k = v.coil? k) ∧
    w.currentCoil? i = some (if (v.line i).state = .running ∧ (w.line i).cut = .held ∧
      (v.line i).halted = false ∧ (v.line i).overdue c.start = true then
        c.gains .overlength (v.coilLength c) else c)
  tested : ∀ c, v.currentCoil? i = some c → (v.line i).state = .running → v.cutTested w i c

theorem Works.plannedCutTest_idle {v : Works} {i : LineIx}
    (h : (v.line i).state ≠ .running ∨ v.currentCoil? i = none) : v.plannedCutTest i = v := by
  unfold Works.plannedCutTest
  dsimp only
  split
  · next hs hc => exact (h.elim (absurd hs) fun hn => absurd (hc.symm.trans hn) (Option.some_ne_none _))
  · rfl

theorem Works.planned_plannedCutTest (v : Works) (i : LineIx) : v.planned (v.plannedCutTest i) i := by
  obtain ⟨hlots, hwait, hlanes, hqueues, hnotices⟩ := Works.plannedCutTest_frame v i
  by_cases hs : (v.line i).state = .running
  · cases hc : v.currentCoil? i with
    | none =>
      have hw := Works.plannedCutTest_idle (v := v) (i := i) (.inr hc)
      rw [hw]
      exact ⟨rfl, fun _ _ => rfl, rfl, rfl, rfl, rfl, rfl, fun _ => rfl, fun _ => rfl,
        fun c h => absurd (hc.symm.trans h) (Option.some_ne_none c).symm,
        fun c h => absurd (hc.symm.trans h) (Option.some_ne_none c).symm⟩
    | some b =>
      have ht := Works.cutTested_plannedCutTest hs hc
      obtain ⟨hcur, hothers⟩ := ht.currentCoil? hc
      refine ⟨ht.line, ht.others, hlots, hwait, hlanes, hqueues, hnotices,
        fun h => absurd (hc.symm.trans h) (Option.some_ne_none b), fun h => absurd hs h,
        fun c h => ?_, fun c h _ => ?_⟩
      · obtain rfl := Option.some.inj (hc.symm.trans h)
        refine ⟨hothers, hcur.trans (congrArg some (if_congr ?_ rfl rfl))⟩
        exact ⟨fun h => ⟨hs, h⟩, fun h => h.2⟩
      · obtain rfl := Option.some.inj (hc.symm.trans h)
        exact ht
  · have hw := Works.plannedCutTest_idle (v := v) (i := i) (.inl hs)
    rw [hw]
    exact ⟨rfl, fun _ _ => rfl, rfl, rfl, rfl, rfl, rfl, fun _ => rfl, fun _ => rfl,
      fun c h => ⟨fun _ _ => rfl, by rw [if_neg fun h' => hs h'.1]; exact h⟩,
      fun c h h' => absurd h' hs⟩

theorem Works.planned.coilLength {v w : Works} {i : LineIx} (h : v.planned w i) :
    w.coilLength = v.coilLength :=
  Works.coilLength_congr fun j => by
    by_cases hj : j = i
    · rw [hj, h.line]
    · rw [h.others j hj]

/-! ## The records that a credited tally leaves -/

theorem Works.giveCredit_kept (u : Works) (i : LineIx) (counts : Counts) :
    (u.giveCredit i counts).lines = (u.modifyLine i fun l => l.credited counts).lines ∧
    (u.giveCredit i counts).coils = u.coils := by
  have hsat : ∀ (v : Works) (b : Bool), (v.raiseSaturated b).lines = v.lines ∧
      (v.raiseSaturated b).coils = v.coils := fun v b => by
    rw [Works.raiseSaturated_eq]; exact ⟨rfl, rfl⟩
  have hprod : ∀ (v : Works) (n mm : Nat), (v.addProduced n mm).lines = v.lines ∧
      (v.addProduced n mm).coils = v.coils := fun v n mm => hsat _ _
  have hun : ∀ (v : Works) (n mm : Nat), (v.addUnassigned n mm).lines = v.lines ∧
      (v.addUnassigned n mm).coils = v.coils := fun v n mm => hsat _ _
  unfold Works.giveCredit
  dsimp only
  split
  · exact hsat _ _
  · split
    · rw [(hun _ _ _).1, (hun _ _ _).2, (hprod _ _ _).1, (hprod _ _ _).2]; exact hsat _ _
    all_goals
      rw [(hprod _ _ _).1, (hprod _ _ _).2]
      exact hsat _ _

/-- R38 to R45: the records between the credit and the planned-cut test. -/
theorem Works.creditTally_tallied (u : Works) (permille : Nat) (i : LineIx) (f : CountFrame) :
    ∃ v, (u.giveCredit i f.counts).tallied v i (u.line i) permille f ∧
      u.creditTally permille i f = v.plannedCutTest i :=
  ⟨_, Works.tallied_of_credit (Works.line_of_lines (u.giveCredit_kept i f.counts).1) permille, rfl⟩

theorem Works.giveCredit_current (u : Works) (i : LineIx) (counts : Counts) :
    (u.giveCredit i counts).currentCoil? i = u.currentCoil? i :=
  Works.currentCoil?_congr
    (by rw [Works.line_of_lines (u.giveCredit_kept i counts).1]; rfl) (u.giveCredit_kept i counts).2

/-- R37: a TALLY that is credited. -/
theorem State.creditable.exec {s : State} {d : StationIx} {i : LineIx} {a q : Byte}
    {payload : List Byte} (h : s.creditable d i a q payload) :
    exec (.tally a q payload) s = .next (s.afterReply d q none
      (s.works.creditTally s.settings.slipPermille i (countFrameOf payload 1
        (entriesOf (payload.drop 9)) ((statusOf payload).getLsbD 2)))) := by
  have hno : (countFrameOf payload 1 (entriesOf (payload.drop 9))
      ((statusOf payload).getLsbD 2)).untrusted (s.works.line i) = false := by
    refine Bool.eq_false_iff.2 fun hun => ?_
    rcases (CountFrame.untrusted_iff _ _).1 hun with h' | h' | h' | h' | h'
    · exact Bool.false_ne_true (h.counting.symm.trans h')
    · exact absurd h.spindle (not_lt.2 h')
    · exact absurd h.wheelA (not_lt.2 h')
    · exact absurd h.wheelB (not_lt.2 h')
    · exact absurd h.rows (not_lt.2 h')
  rw [h.due.exec_tally h.length]
  refine congrArg (fun w => Host.Outcome.next (s.afterReply d q none w)) ?_
  have hcount : ∀ f : CountFrame, f.untrusted (s.works.line i) = false →
      s.works.countTally s.settings.slipPermille i f =
        s.works.creditTally s.settings.slipPermille i f :=
    fun f hf => if_neg (by rw [hf]; exact Bool.false_ne_true)
  rw [Works.tally]
  rcases h.runs with hs | hs | hs <;> rw [hs] <;> exact hcount _ hno

end Sys2Proof.Machine
end

section
namespace Sys2Proof.Machine

/-! # A plausible TALLY (R37 to R45, R118 to R121) -/

theorem slipFinding_below {permille measure check : Nat} (h : max measure check < 100000) :
    slipFinding permille measure check = .belowFloor := if_pos h

theorem slipFinding_clean {permille measure check : Nat} (h : 100000 ≤ max measure check)
    (hg : (max measure check - min measure check) * 1000 ≤ permille * max measure check) :
    slipFinding permille measure check = .clean := by
  rw [← slipGap] at hg
  exact (if_neg (not_lt.2 h)).trans (if_neg (not_lt.2 hg))

theorem slipFinding_slip {permille measure check : Nat} (h : 100000 ≤ max measure check)
    (hg : permille * max measure check < (max measure check - min measure check) * 1000) :
    slipFinding permille measure check =
      .slip ((max measure check - min measure check) * 1000 / max measure check) := by
  have hs : slipFinding permille measure check =
      .slip ((measure - check + (check - measure)) * 1000 / max measure check) :=
    (if_neg (not_lt.2 h)).trans (if_pos (by rw [slipGap]; exact hg))
  rw [hs, slipGap]

/-- R43: whether a tally counts as a slip tally. -/
theorem Line.slipFound_slips (l : Line) (permille : Nat) (d : Counts) :
    (l.slipFound permille d).slips = match l.checkLength? d with
      | none => false
      | some check => decide (100000 ≤ max (l.measureLength d) check ∧
          permille * max (l.measureLength d) check <
            (max (l.measureLength d) check - min (l.measureLength d) check) * 1000) := by
  unfold Line.slipFound
  cases l.checkLength? d with
  | none => rfl
  | some check =>
    show (slipFinding permille (l.measureLength d) check).slips = decide _
    by_cases h1 : 100000 ≤ max (l.measureLength d) check
    · by_cases h2 : permille * max (l.measureLength d) check <
          (max (l.measureLength d) check - min (l.measureLength d) check) * 1000
      · rw [slipFinding_slip h1 h2, decide_eq_true ⟨h1, h2⟩]; rfl
      · rw [slipFinding_clean h1 (not_lt.1 h2), decide_eq_false fun h => h2 h.2]; rfl
    · rw [slipFinding_below (not_le.1 h1), decide_eq_false fun h => h1 h.1]; rfl

theorem SlipDetector.cleanTally_eq (m : SlipDetector) (pre : Nat) : (m.cleanTally pre).1 =
    if m.slipping = false then { m with slipRun := 0 }
    else if m.cleanRun = 0 then { m with cleanRun := 1, cleanStart := pre }
    else if m.cleanRun = 1 then { m with cleanRun := 2 }
    else { m with slipping := false, slipRun := 0, cleanRun := 0 } := by
  unfold SlipDetector.cleanTally
  cases m.slipping with
  | false => rfl
  | true =>
    rw [if_pos rfl, if_neg (by simp)]
    rcases m.cleanRun with _ | _ | n
    · rfl
    · rfl
    · rw [if_neg (by omega), if_neg (by omega)]; rfl

theorem SlipDetector.slipTally_eq (m : SlipDetector) (pre dis : Nat) : (m.slipTally pre dis).1 =
    if m.slipping = true then { m with cleanRun := 0 }
    else if m.slipRun = 0 then { m with slipRun := 1, slipStart := pre, slipPeak := dis }
    else if m.slipRun = 1 then { m with slipRun := 2, slipPeak := max m.slipPeak dis }
    else { m with slipping := true, slipRun := 0, cleanRun := 0 } := by
  unfold SlipDetector.slipTally
  cases m.slipping with
  | true => rfl
  | false =>
    rw [if_neg Bool.false_ne_true, if_neg Bool.false_ne_true]
    rcases m.slipRun with _ | _ | n
    · rfl
    · rfl
    · rw [if_neg (by omega), if_neg (by omega)]; rfl

theorem SlipDetector.slipTally_opens {m : SlipDetector} (h : m.slipping = false) (h2 : 2 ≤ m.slipRun)
    (pre dis : Nat) : (m.slipTally pre dis).2.opens = true := by
  unfold SlipDetector.slipTally
  rw [h, if_neg Bool.false_ne_true]
  rcases hr : m.slipRun with _ | _ | n
  · omega
  · omega
  · rfl

/-- R121: a line whose cut is HELD after the test is halted as the target and allowance say. -/
theorem Works.cutTested.halted {u w : Works} {i : LineIx} {c : Coil} (h : u.cutTested w i c)
    (hw : (w.line i).cut = .held) :
    (w.line i).halted = ((u.line i).halted || (u.line i).overdue c.start) := by
  cases hcut : (u.line i).cut with
  | held => rw [(h.keeps hcut).1]
  | ordered =>
    rw [h.stands (.inl hcut), hcut] at hw
    exact nomatch hw
  | noCut =>
    by_cases hop : orderPoint c.start (u.line i).spec ≤ (u.line i).position
    · by_cases hfree : ∀ p, u.lanes[i] = some p → u.placesInUse p < 6
      · rw [h.orders hcut hop hfree, Works.orderCut, Works.line_modifyLine_self] at hw
        exact nomatch hw
      · obtain ⟨p, hp, h6⟩ : ∃ p, u.lanes[i] = some p ∧ 6 ≤ u.placesInUse p := by
          simpa [not_lt] using hfree
        rw [(h.waits hcut hop p hp h6).1]
    · rw [h.stands (.inr ⟨hcut, not_le.1 hop⟩), hcut] at hw
      exact nomatch hw

/-- R39 to R45: the line between the credit and the planned-cut test. -/
theorem Works.tallied.line_eq {u v : Works} {i : LineIx} {l : Line} {permille : Nat} {f : CountFrame}
    (h : u.tallied v i l permille f) : v.line i = { l.credited f.counts with
      twist := (v.line i).twist, knot := (v.line i).knot, staleEntries := (v.line i).staleEntries,
      slip := (l.slipAfter permille (f.counts.minus l.baselines)).1,
      slipTallies := if (l.slipFound permille (f.counts.minus l.baselines)).slips then
        countUp l.slipTallies 1 else l.slipTallies,
      jointClose := l.jointClose.filter fun p => decide ((l.credited f.counts).position < p),
      unrecorded := (v.line i).unrecorded } := by
  have hframe := (l.credited f.counts).watched_frame (l.measureLength (f.counts.minus l.baselines))
    (f.counts.minus l.baselines) f l.position
  have hline := h.line
  generalize (l.credited f.counts).watched (l.measureLength (f.counts.minus l.baselines))
    (f.counts.minus l.baselines) f l.position = W at hframe hline
  obtain ⟨n, hn⟩ : ∃ n, (v.line i).unrecorded = n := ⟨_, rfl⟩
  rw [hn] at hline ⊢
  rw [hline, hframe]

/-- R87: only a Knot Monitor moves the counters of fault rows and knots. -/
theorem Line.watchTallies_slip (l : Line) (d : Counts) (f : CountFrame) (pre : Nat)
    (x : Nat × Nat × Nat × Nat) : (l.watchTallies d f pre x).1 = x.1 := by
  unfold Line.watchTallies
  cases l.kind <;> rfl

theorem Line.watchTallies_id {l : Line} (h : l.kind ≠ .knot) (d : Counts) (f : CountFrame)
    (pre : Nat) : l.watchTallies d f pre = id := by
  unfold Line.watchTallies
  split
  · rfl
  · rfl
  · next hk => exact absurd hk h

end Sys2Proof.Machine
end

section
namespace Sys2Proof.Machine

/-! ## The parts of a credited tally's outcome -/

/-- R44, R45: the slip detector and its counter, by the check length. -/
theorem Line.slipAfter_eq (l : Line) (permille : Nat) (d : Counts) :
    (l.check = .off → (l.slipAfter permille d).1 = l.slip ∧ (l.slipFound permille d).slips = false) ∧
    ∀ check : Nat, l.checkLength? d = some check →
      let m := max (l.measureLength d) check
      let gap := (m - min (l.measureLength d) check) * 1000
      (m < 100000 → (l.slipAfter permille d).1 = l.slip ∧
        (l.slipFound permille d).slips = false) ∧
      (100000 ≤ m → gap ≤ permille * m → (l.slipFound permille d).slips = false ∧
        (l.slipAfter permille d).1 = (l.slip.cleanTally l.position).1) ∧
      (100000 ≤ m → permille * m < gap → (l.slipFound permille d).slips = true ∧
        l.slipAfter permille d = l.slip.slipTally l.position (gap / m)) := by
  refine ⟨fun h => ?_, fun check h => ?_⟩
  · have hf : l.slipFound permille d = .belowFloor := by
      rw [Line.slipFound, Line.checkLength?, h]; rfl
    rw [Line.slipAfter, hf]
    exact ⟨rfl, rfl⟩
  · intro m gap
    have hf : l.slipFound permille d = slipFinding permille (l.measureLength d) check := by
      rw [Line.slipFound, h]; rfl
    rw [Line.slipAfter, hf]
    refine ⟨fun h1 => ?_, fun h1 h2 => ?_, fun h1 h2 => ?_⟩
    · rw [slipFinding_below h1]; exact ⟨rfl, rfl⟩
    · rw [slipFinding_clean h1 h2]; exact ⟨rfl, rfl⟩
    · rw [slipFinding_slip h1 h2]; exact ⟨rfl, rfl⟩

theorem Line.checkLength?_of {l : Line} {counts : Counts} {check : Nat}
    (h : (l.check = .wheelA ∧ check = (counts.wheelA - l.baselines.wheelA).toNat * l.wheelA) ∨
      (l.check = .wheelB ∧ check = (counts.wheelB - l.baselines.wheelB).toNat * l.wheelB)) :
    l.checkLength? (counts.minus l.baselines) = some check := by
  rcases h with ⟨h, rfl⟩ | ⟨h, rfl⟩ <;> rw [Line.checkLength?, h] <;> rfl

theorem Line.measureLength_eq (l : Line) (counts : Counts) :
    l.measureLength (counts.minus l.baselines) = match l.measure with
      | .wheelA => (counts.wheelA - l.baselines.wheelA).toNat * l.wheelA
      | .wheelB => (counts.wheelB - l.baselines.wheelB).toNat * l.wheelB
      | .rows => (counts.rows - l.baselines.rows).toNat * (l.spec.rowPitch * 100) := by
  unfold Line.measureLength Line.measureUnit
  cases l.measure <;> rfl

/-- R118 to R121: the cut of a line with a coil after the planned-cut test. -/
theorem Works.planned.cut {v w : Works} {i : LineIx} {c : Coil} (h : v.planned w i)
    (hc : v.currentCoil? i = some c) :
    ((v.line i).state = .running ∧ (v.line i).cut = .noCut ∧
        orderPoint c.start (v.line i).spec ≤ (v.line i).position →
      (∀ p, v.lanes[i] = p → (∀ x, p = some x → v.placesInUse x < 6) →
        (w.line i).cut = .ordered ∧ (w.line i).reserved = p ∧
        (w.line i).cutPoint = c.start + (v.line i).spec.target ∧ (w.line i).halted = false ∧
        w.held = v.held) ∧
      (∀ p, v.lanes[i] = some p → 6 ≤ v.placesInUse p →
        (w.line i).cut = .held ∧ (w.line i).reserved = some p ∧
        w.held = v.held.set p (v.held[p] ++ [i]))) ∧
    ((v.line i).state ≠ .running ∨ (v.line i).cut ≠ .noCut ∨
        (v.line i).position < orderPoint c.start (v.line i).spec →
      (w.line i).cut = (v.line i).cut ∧ (w.line i).reserved = (v.line i).reserved ∧
        (w.line i).cutPoint = (v.line i).cutPoint ∧ w.held = v.held) := by
  refine ⟨fun ⟨hs, hcut, hop⟩ => ?_, fun h' => ?_⟩
  · have ht := h.tested c hc hs
    refine ⟨fun p hp hfree => ?_, fun p hp h6 => ?_⟩
    · have hw := ht.orders hcut hop fun x hx => hfree x (hp.symm.trans hx)
      have hline : w.line i = _ := (congrArg (fun w => w.line i) hw).trans
        (Works.line_modifyLine_self v i _)
      rw [hline]
      exact ⟨rfl, hp, rfl, rfl, by rw [hw]; rfl⟩
    · obtain ⟨hline, hheld⟩ := ht.waits hcut hop p hp h6
      rw [hline]
      exact ⟨rfl, rfl, hheld⟩
  · by_cases hs : (v.line i).state = .running
    · have ht := h.tested c hc hs
      cases hcut : (v.line i).cut with
      | ordered => rw [ht.stands (.inl hcut)]; exact ⟨hcut, rfl, rfl, rfl⟩
      | noCut =>
        have hlt := (h'.resolve_left fun hn => hn hs).resolve_left fun hn => hn hcut
        rw [ht.stands (.inr ⟨hcut, hlt⟩)]
        exact ⟨hcut, rfl, rfl, rfl⟩
      | held =>
        obtain ⟨hline, hheld⟩ := ht.keeps hcut
        rw [hline]
        exact ⟨hcut, rfl, rfl, hheld⟩
    · rw [h.stands hs]
      exact ⟨rfl, rfl, rfl, rfl⟩

/-- R41, R112, R121: the coil of a line after a credited tally, with `c` the coil before it. -/
theorem Works.tallied.coil {u v w : Works} {i : LineIx} {l : Line} {permille : Nat} {f : CountFrame}
    {c : Coil} (h : u.tallied v i l permille f) (hp : v.planned w i)
    (hc : u.currentCoil? i = some c) :
    let asks := l.tallyAsks permille f.counts f.entries f.overflow (l.credited f.counts).position
    let y := (l.credited f.counts).watchTallies (f.counts.minus l.baselines) f l.position c.tallies
    ∃ b b', v.currentCoil? i = some b ∧ (c.askedAll asks).1.alike b ∧
      w.currentCoil? i = some b' ∧
      b' = { b with reasons := b'.reasons, grade := b'.grade } ∧
      b'.tallies =
        (if (l.slipFound permille (f.counts.minus l.baselines)).slips then countUp y.1 1 else y.1,
          y.2) ∧
      (∀ r, r ∈ b'.reasons ↔ r ∈ (c.askedAll asks).1.reasons ∨ (r = .overlength ∧
        (v.line i).state = .running ∧ (w.line i).cut = .held ∧ (v.line i).halted = false ∧
        (v.line i).overdue c.start = true)) ∧
      (c.final = false → b'.grade = b'.gradeAt (w.coilLength b')) ∧
      (∀ k, k ≠ c.key → w.coil? k = u.coil? k) := by
  intro asks y
  obtain ⟨hothers, b, hb, hal⟩ := h.asked.reached c hc
  obtain ⟨hothers', hb'⟩ := hp.reached b hb
  have hkey : b.key = c.key := by rw [hal.key, Coil.askedAll_frame]
  have hstart : b.start = c.start := by rw [hal.start, Coil.askedAll_frame]
  have hfinal : b.final = c.final := by rw [hal.final, Coil.askedAll_frame]
  have htal := h.counted.tallies c b hc hb
  have hgraded := h.graded b hb
  rw [hstart] at hb'
  refine ⟨b, _, hb, hal, hb', ?_, ?_, fun r => ?_, fun hf => ?_, fun k hk =>
    (hothers' k (by rw [hkey]; exact hk)).trans (hothers k hk)⟩
  · split
    · exact Coil.gains_eq b _ _
    · rfl
  · refine Eq.trans ?_ htal
    split
    · rw [Coil.gains_eq]; rfl
    · rfl
  · rw [← hal.2 r]
    split
    · next hif => rw [Coil.mem_gains]; simp only [hif, and_self, and_true]
    · next hif => simp only [hif, and_false, or_false]
  · rw [hp.coilLength]
    split
    · have hlen : v.coilLength (b.gains .overlength (v.coilLength b)) = v.coilLength b := by
        rw [Coil.gains_eq]; rfl
      rw [hlen]
      exact Coil.gains_grade b _ _ (hfinal.trans hf) (.inr (hgraded (hfinal.trans hf)))
    · exact hgraded (hfinal.trans hf)

end Sys2Proof.Machine
end

section
namespace Sys2Proof.Machine

/-- R16, R39: what the credit of a line leaves to be heeded. -/
structure Works.creditedAs (u u0 : Works) (i : LineIx) (n : Nat) (counts : Counts) (mm : Nat) :
    Prop where
  line : u0.line i = (u.line i).credited counts
  others : ∀ j, j ≠ i → u0.line j = u.line j
  current : u0.currentCoil? i = u.currentCoil? i
  coils : u0.coils = u.coils
  lots : u0.lots = mapTable (Option.map fun t =>
    if t.number = n then t.credited (decide ((u.line i).state = .starved)) mm else t) u.lots
  waitList : u0.waitList = u.waitList
  lanes : u0.lanes = u.lanes
  queues : u0.queues = u.queues
  held : u0.held = u.held
  notices : u0.notices = (u.raiseGlobal (saturatedBit (u.creditPasses (u.line i) n mm))).notices

theorem Works.creditedAs_giveCredit {u : Works} {i : LineIx} {n : Nat}
    (hs : (u.line i).state = .running ∨ (u.line i).state = .releasing ∨
      (u.line i).state = .starved) (hn : (u.line i).lot = some n) (counts : Counts) {mm : Nat}
    (hmm : (u.line i).credit counts = mm) : u.creditedAs (u.giveCredit i counts) i n counts mm := by
  have hw := Works.giveCredit_eq hs hn counts hmm
  obtain ⟨hlines, hcoils⟩ := u.giveCredit_kept i counts
  exact ⟨Works.line_of_lines hlines, fun j hj => Works.line_of_lines_other hlines hj,
    u.giveCredit_current i counts, hcoils, (congrArg Works.lots hw).trans rfl,
    (congrArg Works.waitList hw).trans rfl, (congrArg Works.lanes hw).trans rfl,
    (congrArg Works.queues hw).trans rfl, (congrArg Works.held hw).trans rfl,
    (congrArg Works.notices hw).trans rfl⟩

/-- R39: COUNT_SATURATED in the words of the rule. -/
theorem Works.creditPasses_iff (u : Works) (l : Line) (n mm : Nat) :
    u.creditPasses l n mm = true ↔ 281474976710655 < l.position + mm ∨
      (u.lot? n).any (fun t => decide (281474976710655 < t.produced + mm ∨
        (l.state = .starved ∧ 281474976710655 < t.unassigned + mm))) = true := by
  have hlim : Config.positionLimit = 281474976710655 := rfl
  unfold Works.creditPasses Works.lotHas passesLimit
  rw [hlim, Bool.or_eq_true, decide_eq_true_iff]
  refine or_congr Iff.rfl ?_
  cases u.lot? n with
  | none => simp
  | some t => simp

/-- Settles O40. -/
theorem tallyCreditsTheLength : Obligations.TallyCreditsTheLength := by
  intro s d i a q payload n hexp hlen l counts delta mm pos asks slips hs hn hflag h1 h2 h3 h4
  have hcred : s.creditable d i a q payload := ⟨hexp, hlen, hs, hflag, h1, h2, h3, h4⟩
  let f := countFrameOf payload 1 (entriesOf (payload.drop 9)) ((statusOf payload).getLsbD 2)
  let diff := counts.minus l.baselines
  have hdelta : l.measureLength diff = delta := l.measureLength_eq counts
  have hmm : l.credit counts = mm := by rw [Line.credit, hdelta]
  have hpos : (l.credited counts).position = pos := by
    show addLength l.position ((l.measureLength diff + l.remainder) / 1000) = _
    rw [hdelta]; rfl
  have hrem : (l.credited counts).remainder = (delta + l.remainder) % 1000 := by
    show (l.measureLength diff + l.remainder) % 1000 = _
    rw [hdelta]
  have hasks : l.tallyAsks s.settings.slipPermille counts f.entries f.overflow
      (l.credited counts).position = asks := by rw [hpos]; rfl
  have hslips : (l.slipFound s.settings.slipPermille diff).slips = slips := by
    have h := l.slipFound_slips s.settings.slipPermille diff
    rw [hdelta] at h
    exact h
  let u0 := s.works.giveCredit i counts
  have h0 : s.works.creditedAs u0 i n counts mm := Works.creditedAs_giveCredit hs hn counts hmm
  obtain ⟨v, ht, hw⟩ := s.works.creditTally_tallied s.settings.slipPermille i f
  have hexec := hcred.exec
  have hp := v.planned_plannedCutTest i
  rw [← hw] at hp
  refine ⟨s.works.creditTally s.settings.slipPermille i f, hexec, ?_⟩
  clear hexec hw
  generalize s.works.creditTally s.settings.slipPermille i f = w at hp
  have hv := ht.line_eq
  have hwl := hp.line
  rw [hv] at hwl
  have hstate : (v.line i).state = l.state := by rw [hv]; rfl
  have hcut : (v.line i).cut = l.cut := by rw [hv]; rfl
  have hreserved : (v.line i).reserved = l.reserved := by rw [hv]; rfl
  have hpoint : (v.line i).cutPoint = l.cutPoint := by rw [hv]; rfl
  have hhalted : (v.line i).halted = l.halted := by rw [hv]; rfl
  have hspec : (v.line i).spec = l.spec := by rw [hv]; rfl
  have hvpos : (v.line i).position = pos := by rw [hv]; exact hpos
  have hvothers : ∀ j, j ≠ i → v.line j = s.works.line j := fun j hj =>
    (ht.asked.others j hj).trans (h0.others j hj)
  have hheld : v.held = s.works.held := ht.asked.held.trans h0.held
  have hlanes : v.lanes = s.works.lanes := ht.asked.lanes.trans h0.lanes
  have hqueues : v.queues = s.works.queues := ht.asked.queues.trans h0.queues
  have hplaces : ∀ p, v.placesInUse p = s.works.placesInUse p := fun p =>
    Works.placesInUse_congr p hqueues fun j => by
      by_cases hj : j = i
      · rw [hj]; exact ⟨hcut, hreserved⟩
      · rw [hvothers j hj]; exact ⟨rfl, rfl⟩
  have hslip : (w.line i).slip = (l.slipAfter s.settings.slipPermille diff).1 := by rw [hwl]; rfl
  have hslipTallies : (w.line i).slipTallies = if slips then countUp l.slipTallies 1 else
      l.slipTallies := by rw [hwl, ← hslips]; rfl
  have hcurrent : u0.currentCoil? i = s.works.currentCoil? i := h0.current
  have hcount : ∀ n, countUp n 1 = min 65535 (n + 1) := fun _ => rfl
  have htold : ∀ j : LineIx, w.notices.line[j] = s.works.notices.line[j] |||
      (if (s.works.currentCoil? i).any fun c =>
        decide (c.line = j) && (c.askedAll asks).2 then 0x10 else 0) |||
      (if j = i ∧ l.slip.slipping = false ∧ (w.line i).slip.slipping = true then 0x40 else 0) := by
    intro j
    have hline : u0.notices.line = s.works.notices.line :=
      (congrArg Notices.line h0.notices).trans rfl
    have hopens := l.slip.checked_opens l.position (l.slipFound s.settings.slipPermille diff)
    have hv0 : v.notices.line[j] = u0.notices.line[j] |||
        (if (u0.currentCoil? i).any fun c =>
          decide (c.line = j) && (c.askedAll asks).2 then 0x10 else 0) |||
        (if j = i then if (l.slipAfter s.settings.slipPermille diff).2.opens then 0x40 else 0
          else 0) := by rw [← hasks]; exact ht.asked.told j
    rw [hp.notices, hv0, hline, hcurrent, hslip]
    refine congrArg _ ?_
    show (if j = i then if (l.slip.checked l.position _).2.opens = true then _ else _ else _) = _
    rw [hopens, ← ite_and]
    refine if_congr (and_congr Iff.rfl ?_) rfl rfl
    rw [Bool.and_eq_true, Bool.not_eq_true']
    rfl
  refine ⟨by rw [hwl]; exact hpos, by rw [hwl]; exact hrem, by rw [hwl]; rfl, by rw [hwl]; rfl,
    by rw [hwl]; rfl, by rw [hwl]; rfl, by rw [hwl]; rfl, by rw [hwl]; rfl, by rw [hwl]; rfl,
    fun j hj => (hp.others j hj).trans (hvothers j hj), ?_,
    hp.waitList.trans (ht.asked.waitList.trans h0.waitList), hp.lanes.trans hlanes,
    hp.queues.trans hqueues, fun hoff => ?_, fun check hcheck => ?_, by rw [hwl, ← hpos]; rfl, htold,
    ?_, ?_, ?_, fun hnone => ?_, fun c hc => ?_⟩
  · refine (hp.lots.trans (ht.asked.lots.trans h0.lots)).trans ?_
    refine congrArg (fun g => mapTable (Option.map g) s.works.lots) (funext fun t => ?_)
    refine if_congr Iff.rfl ?_ rfl
    show { t with produced := _, unassigned := _ } = { t with produced := _, unassigned := _ }
    refine congrArg (fun x : Nat => { t with
      produced := min 281474976710655 (t.produced + mm), unassigned := x }) ?_
    exact if_congr decide_eq_true_iff rfl rfl
  · obtain ⟨hoff1, hoff2⟩ := (l.slipAfter_eq s.settings.slipPermille diff).1 hoff
    rw [hslip, hslipTallies, ← hslips, hoff1, hoff2]
    exact ⟨rfl, rfl⟩
  · intro m gap dis
    obtain ⟨hbelow, hclean, hslipping⟩ := (l.slipAfter_eq s.settings.slipPermille diff).2 check
      (Line.checkLength?_of hcheck)
    rw [hdelta] at hbelow hclean hslipping
    rw [hslip, hslipTallies, ← hslips]
    refine ⟨fun hm => ?_, fun hm hg => ?_, fun hm hg => ?_⟩
    · rw [(hbelow hm).1, (hbelow hm).2]
      exact ⟨rfl, rfl⟩
    · obtain ⟨e1, e2⟩ := hclean hm hg
      rw [e1, e2, SlipDetector.cleanTally_eq]
      exact ⟨rfl, rfl⟩
    · obtain ⟨e1, e2⟩ := hslipping hm hg
      rw [e1, e2, SlipDetector.slipTally_eq]
      refine ⟨rfl, rfl, fun hno h2 => ?_⟩
      have hopens := SlipDetector.slipTally_opens hno h2 l.position (gap / m)
      have hown : (l.slipAfter s.settings.slipPermille diff).2.opens = true := by
        rw [e2]; exact hopens
      have hv0 := ht.asked.told i
      rw [hp.notices, hv0, if_pos rfl]
      show BitVec.getLsbD (_ ||| if (l.slipAfter s.settings.slipPermille diff).2.opens = true then _
        else _) 6 = true
      rw [if_pos hown, BitVec.getLsbD_or]
      exact Bool.or_true _
  · rw [hp.notices]
    refine (ht.asked.global.trans (congrArg Notices.global h0.notices)).trans ?_
    exact congrArg (fun x : Half => s.works.notices.global ||| x)
      (if_congr (s.works.creditPasses_iff l n mm) rfl rfl)
  · rw [hp.notices]
    exact (ht.asked.packer.trans (congrArg Notices.packer h0.notices)).trans rfl
  · rw [hp.notices]
    exact (ht.asked.station.trans (congrArg Notices.station h0.notices)).trans rfl
  · have h0none := hcurrent.trans hnone
    exact (hp.idle (ht.asked.none h0none)).trans ((ht.asked.idle h0none).trans h0.coils)
  · have hc0 : u0.currentCoil? i = some c := hcurrent.trans hc
    obtain ⟨b, b', hb, hal, hb', hframe, htal, hreasons, hgrade, hothers⟩ := ht.coil hp hc0
    have hal' : (c.askedAll asks).1.alike b := by rw [← hasks]; exact hal
    have hbstart : b.start = c.start := by rw [hal'.start, Coil.askedAll_frame]
    have hreasons' : ∀ r, r ∈ b'.reasons ↔ r ∈ (c.askedAll asks).1.reasons ∨ (r = .overlength ∧
        l.state = .running ∧ (w.line i).cut = .held ∧ l.halted = false ∧
        c.start + l.spec.target + l.spec.allowance ≤ pos) := by
      intro r
      have h := hreasons r
      rw [hstate, hhalted, Line.overdue, hspec, hvpos, decide_eq_true_iff] at h
      rw [← hasks]
      exact h
    obtain ⟨hcutA, hcutB⟩ := hp.cut hb
    rw [hstate, hcut, hspec, hvpos, hbstart, hlanes, hheld] at hcutA
    rw [hstate, hcut, hspec, hvpos, hbstart, hreserved, hpoint, hheld] at hcutB
    simp only [hplaces] at hcutA
    have hcounts : b'.slipTallies = b.slipTallies ∧ b'.faultRows = b.faultRows ∧
        b'.missedKnots = b.missedKnots ∧ b'.excessKnots = b.excessKnots := by
      rw [hframe]; exact ⟨rfl, rfl, rfl, rfl⟩
    obtain ⟨n1, n2, n3, n4⟩ := hcounts
    refine ⟨b', hb', ?_, hreasons', hgrade, ?_, fun hk => ?_, fun k hk =>
      (hothers k hk).trans (Works.coil?_congr h0.coils k), ?_⟩
    · rw [n1, n2, n3, n4]
      refine hframe.trans ?_
      conv_lhs => rw [hal'.1]
    · have h1 : b'.slipTallies = _ := congrArg Prod.fst htal
      rw [h1, Line.watchTallies_slip]
      show (if (l.slipFound s.settings.slipPermille diff).slips = true then _ else _) = _
      rw [hslips]
      rfl
    · rw [Line.watchTallies_id (show ((s.works.line i).credited f.counts).kind ≠ .knot from hk)]
        at htal
      have h2 : b'.tallies.2 = c.tallies.2 := (congrArg Prod.snd htal).trans rfl
      simpa only [Coil.tallies, Prod.mk.injEq] using h2
    · intro orderPoint same
      refine ⟨hcutA, hcutB, fun hrun hwheld hnot => ?_⟩
      have hh := (hp.tested b hb (hstate.trans hrun)).halted hwheld
      rw [hhalted, hnot, Bool.false_or, Line.overdue, hspec, hvpos, hbstart] at hh
      rw [hh, decide_eq_true_iff]
      exact ⟨Iff.rfl, fun hle => (hreasons' _).2 (.inr ⟨rfl, hrun, hwheld, hnot, hle⟩)⟩

end Sys2Proof.Machine
end

section
namespace Sys2Proof.Machine

/-! # The Twist Monitor (R57 to R73) -/

/-! ## The verdict (R65) -/

theorem verdict_iff (sp : Spec) (t : Nat) :
    (verdict sp t = .high ↔ sp.nominalTwist + bandTolerance sp < t) ∧
    (verdict sp t = .low ↔ t < sp.nominalTwist - bandTolerance sp) ∧
    (verdict sp t = .inside ↔ sp.nominalTwist - bandTolerance sp ≤ t ∧
      t ≤ sp.nominalTwist + bandTolerance sp) := by
  unfold verdict
  generalize bandTolerance sp = tol
  by_cases h1 : sp.nominalTwist + tol < t
  · rw [if_pos h1]
    exact ⟨⟨fun _ => h1, fun _ => rfl⟩, ⟨nofun, fun h => absurd h (by omega)⟩,
      ⟨nofun, fun h => absurd h.2 (by omega)⟩⟩
  · rw [if_neg h1]
    by_cases h2 : t < sp.nominalTwist - tol
    · rw [if_pos h2]
      exact ⟨⟨nofun, fun h => absurd h h1⟩, ⟨fun _ => h2, fun _ => rfl⟩,
        ⟨nofun, fun h => absurd h.1 (by omega)⟩⟩
    · rw [if_neg h2]
      exact ⟨⟨nofun, fun h => absurd h h1⟩, ⟨nofun, fun h => absurd h h2⟩,
        ⟨fun _ => ⟨by omega, by omega⟩, fun _ => rfl⟩⟩

/-- R65: the half-width is at most three tenths of the nominal twist. -/
theorem bandTolerance_le (sp : Spec) (h : sp.twistTolerance ≤ 300) :
    bandTolerance sp * 10 ≤ sp.nominalTwist * 3 := by
  have hmul := Nat.mul_le_mul_left sp.nominalTwist h
  unfold bandTolerance
  omega

/-! ## The window (R58 to R61) -/

theorem spanDrop_spec (span : Nat) (ws : List Segment) : ∃ dropped, ws = dropped ++ spanDrop span ws ∧
    (∀ g rest, spanDrop span ws = g :: rest →
      rest = [] ∨ windowLength rest < span * 1000000) ∧
    (dropped ≠ [] → spanDrop span ws ≠ [] ∧ span * 1000000 ≤ windowLength (spanDrop span ws)) := by
  induction ws with
  | nil => exact ⟨[], rfl, fun g rest h => (nomatch h), fun h => absurd rfl h⟩
  | cons g rest ih =>
    unfold spanDrop
    by_cases h : rest ≠ [] ∧ span * 1000000 ≤ windowLength rest
    · rw [if_pos h]
      obtain ⟨dropped, hrest, hnewest, hlen⟩ := ih
      refine ⟨g :: dropped, by rw [List.cons_append, ← hrest], hnewest, fun _ => ?_⟩
      cases dropped with
      | nil =>
        rw [List.nil_append] at hrest
        rw [← hrest]
        exact h
      | cons d ds => exact hlen (List.cons_ne_nil d ds)
    · rw [if_neg h]
      refine ⟨[], rfl, fun g' rest' he => ?_, fun hn => absurd rfl hn⟩
      obtain ⟨-, rfl⟩ := List.cons.inj he
      by_cases hr : rest = []
      · exact .inl hr
      · exact .inr (not_le.1 fun hle => h ⟨hr, hle⟩)

theorem addToNewest_eq (q : Nat) (ws : List Segment) : addToNewest q ws =
    match ws.getLast? with
    | some g => ws.dropLast ++ [{ g with quarters := g.quarters + q }]
    | none => [{ length := 0, quarters := q }] := by
  induction ws with
  | nil => rfl
  | cons g rest ih =>
    cases rest with
    | nil => rfl
    | cons h t =>
      rw [addToNewest, ih, List.getLast?_cons_cons]
      cases hl : (h :: t).getLast? with
      | none => simp at hl
      | some x => rfl

/-- R58 to R60: the window takes a tally. -/
theorem takeSegment_eq (ws : List Segment) (dl dq : Nat) : takeSegment ws dl dq =
    if 0 < dl then
      (match ws with
        | g :: h :: rest => if 16 ≤ ws.length then
            { length := g.length + h.length, quarters := g.quarters + h.quarters } :: rest
          else ws
        | _ => ws) ++ [{ length := dl, quarters := dq }]
    else match ws.getLast? with
      | some g => ws.dropLast ++ [{ g with quarters := g.quarters + dq }]
      | none => if 0 < dq then [{ length := 0, quarters := dq }] else [] := by
  have hlim : Config.windowLimit = 16 := rfl
  unfold takeSegment
  rw [hlim]
  by_cases hdl : 0 < dl
  · rw [if_pos hdl, if_pos hdl]
    refine congrArg (fun x => x ++ [({ length := dl, quarters := dq } : Segment)]) ?_
    rcases ws with _ | ⟨g, _ | ⟨h, rest⟩⟩
    · rfl
    · rfl
    · dsimp only
      split <;> rfl
  · rw [if_neg hdl, if_neg hdl]
    by_cases hdq : 0 < dq
    · rw [if_pos hdq, if_pos hdq, addToNewest_eq]
    · rw [if_neg hdq, if_neg hdq]
      obtain rfl : dq = 0 := by omega
      cases hl : ws.getLast? with
      | none => exact List.getLast?_eq_none_iff.1 hl
      | some x => exact (List.dropLast_append_getLast? x hl).symm

/-! ## The band (R66 to R72) -/

/-- R66 to R68: SUSPECT from a position with an extreme, unless the persistence is reached. -/
def TwistMonitor.suspects (m : TwistMonitor) (persistence pos start : Nat) (extreme : Int) :
    TwistMonitor × TwistRequest :=
  if persistence ≤ pos - start then
    ({ m with suspectStart := start, extreme := extreme, band := .out }, .openAt start extreme)
  else ({ m with suspectStart := start, extreme := extreme, band := .suspect }, .nothing)

/-- R69, R70: RECOVERING from a position, unless the persistence is reached. -/
def TwistMonitor.recovers (m : TwistMonitor) (persistence pos start : Nat) :
    TwistMonitor × TwistRequest :=
  if persistence ≤ pos - start then
    ({ m with recoveryStart := start, band := .inBand, extreme := 0 }, .closeAt start)
  else ({ m with recoveryStart := start, band := .recovering }, .nothing)

theorem TwistMonitor.judge_inside (m : TwistMonitor) (sp : Spec) (dev : Int) (pre pos : Nat) :
    ((m.band = .warming ∨ m.band = .inBand) →
      m.judge sp .inside dev pre pos = ({ m with band := .inBand }, .nothing)) ∧
    (m.band = .suspect →
      m.judge sp .inside dev pre pos = ({ m with band := .inBand, extreme := 0 }, .nothing)) ∧
    (m.band = .out → m.judge sp .inside dev pre pos = m.recovers sp.persistence pos pre) ∧
    (m.band = .recovering →
      m.judge sp .inside dev pre pos = m.recovers sp.persistence pos m.recoveryStart) := by
  obtain ⟨window, value, band, suspectStart, recoveryStart, extreme⟩ := m
  refine ⟨fun h => ?_, fun h => ?_, fun h => ?_, fun h => ?_⟩
  · rcases h with h | h <;> (dsimp only at h; subst h; rfl)
  · dsimp only at h; subst h; rfl
  · dsimp only at h; subst h; rfl
  · dsimp only at h; subst h; rfl

theorem TwistMonitor.judge_outside (m : TwistMonitor) (sp : Spec) {v : Verdict} (hv : v ≠ .inside)
    (dev : Int) (pre pos : Nat) :
    ((m.band = .warming ∨ m.band = .inBand) →
      m.judge sp v dev pre pos = m.suspects sp.persistence pos pre dev) ∧
    (m.band = .suspect → m.judge sp v dev pre pos =
      m.suspects sp.persistence pos m.suspectStart (furtherExtreme m.extreme dev)) ∧
    ((m.band = .out ∨ m.band = .recovering) → m.judge sp v dev pre pos =
      ({ m with band := .out, extreme := furtherExtreme m.extreme dev },
        if m.extreme.natAbs < dev.natAbs then .raise dev else .nothing)) := by
  obtain ⟨window, value, band, suspectStart, recoveryStart, extreme⟩ := m
  cases v with
  | inside => exact absurd rfl hv
  | high | low =>
    refine ⟨fun h => ?_, fun h => ?_, fun h => ?_⟩
    · rcases h with h | h <;> (dsimp only at h; subst h; rfl)
    · dsimp only at h; subst h; rfl
    · rcases h with h | h <;> (dsimp only at h; subst h; rfl)

/-- R57, R63: what a tally leaves, below half the span and from half the span on. -/
theorem TwistMonitor.tally_cases (m : TwistMonitor) (sp : Spec) (dl dq pre pos : Nat)
    {ws : List Segment} (hws : spanDrop sp.twistSpan (takeSegment m.window dl dq) = ws) :
    (m.tally sp dl dq pre pos).1.window = ws ∧
    (windowLength ws < sp.twistSpan * 500000 →
      m.tally sp dl dq pre pos = ({ m with window := ws }, .nothing)) ∧
    ∀ t, t = min 65535 ((windowQuarters ws * 25000000 + windowLength ws / 2) / windowLength ws) →
      sp.twistSpan * 500000 ≤ windowLength ws → m.tally sp dl dq pre pos =
        { m with window := ws, lastValue := t }.judge sp (verdict sp t)
          ((t : Int) - (sp.nominalTwist : Int)) pre pos := by
  have hnone : windowLength ws < sp.twistSpan * 500000 →
      m.tally sp dl dq pre pos = ({ m with window := ws }, .nothing) := fun h => by
    rw [m.tally_none sp dl dq pre pos (by rw [hws]; exact if_pos h), hws]
  have hsome : ∀ t,
      t = min 65535 ((windowQuarters ws * 25000000 + windowLength ws / 2) / windowLength ws) →
      sp.twistSpan * 500000 ≤ windowLength ws → m.tally sp dl dq pre pos =
        { m with window := ws, lastValue := t }.judge sp (verdict sp t)
          ((t : Int) - (sp.nominalTwist : Int)) pre pos := fun t ht h => by
    rw [m.tally_some sp dl dq pre pos t
      (by rw [hws, ht]; exact if_neg (not_lt.2 h)), hws]
  refine ⟨?_, hnone, hsome⟩
  by_cases h : windowLength ws < sp.twistSpan * 500000
  · rw [hnone h]
  · obtain ⟨t, ht⟩ : ∃ t, t = min 65535
      ((windowQuarters ws * 25000000 + windowLength ws / 2) / windowLength ws) := ⟨_, rfl⟩
    rw [hsome t ht (not_lt.1 h)]
    exact (TwistMonitor.judge_frame _ _ _ _ _ _).1

end Sys2Proof.Machine
end

section
namespace Sys2Proof.Machine

/-! ## The monitors after a credited tally (R57, R81, R93, R100) -/

/-- R57, R81, R87, R93, R100: what a credited tally of the line `l` leaves of its monitors, of its
counters of stale entries and defects, and of its coil's counters. -/
structure Works.watches (u w : Works) (i : LineIx) (l : Line) (f : CountFrame) : Prop where
  position : (w.line i).position = (l.credited f.counts).position
  twist : (w.line i).twist = ((l.credited f.counts).watched
    (l.measureLength (f.counts.minus l.baselines)) (f.counts.minus l.baselines) f l.position).twist
  knot : (w.line i).knot = ((l.credited f.counts).watched
    (l.measureLength (f.counts.minus l.baselines)) (f.counts.minus l.baselines) f l.position).knot
  stale : (w.line i).staleEntries = ((l.credited f.counts).watched
    (l.measureLength (f.counts.minus l.baselines)) (f.counts.minus l.baselines) f
      l.position).staleEntries
  missed : u.currentCoil? i = none → l.unrecorded ≤ 65535 →
    (w.line i).unrecorded = min 65535 (l.unrecorded +
      ((l.credited f.counts).watchFaults (f.counts.minus l.baselines) f l.position +
        (((l.credited f.counts).watchAsks (l.measureLength (f.counts.minus l.baselines))
          (f.counts.minus l.baselines) f l.position).filter ZoneRequest.opens).length +
        if l.slip.slipping = false ∧ (w.line i).slip.slipping = true then 1 else 0))
  kept : u.currentCoil? i ≠ none → (w.line i).unrecorded = l.unrecorded
  tallies : ∀ c, u.currentCoil? i = some c → ∃ c', w.currentCoil? i = some c' ∧
    c'.tallies.2 = ((l.credited f.counts).watchTallies (f.counts.minus l.baselines) f l.position
      c.tallies).2

theorem Works.watches_creditTally (u : Works) (permille : Nat) (i : LineIx) (f : CountFrame) :
    u.watches (u.creditTally permille i f) i (u.line i) f := by
  obtain ⟨v, ht, hw⟩ := u.creditTally_tallied permille i f
  have hp := v.planned_plannedCutTest i
  rw [← hw] at hp
  generalize u.creditTally permille i f = w at hp
  have hcur := u.giveCredit_current i f.counts
  have hcredit : ((u.giveCredit i f.counts).line i).unrecorded = (u.line i).unrecorded := by
    rw [Works.line_of_lines (u.giveCredit_kept i f.counts).1]; rfl
  obtain ⟨W, hW⟩ : ∃ W, ((u.line i).credited f.counts).watched
      ((u.line i).measureLength (f.counts.minus (u.line i).baselines))
      (f.counts.minus (u.line i).baselines) f (u.line i).position = W := ⟨_, rfl⟩
  have hline := ht.line
  have hframe := ((u.line i).credited f.counts).watched_frame
      ((u.line i).measureLength (f.counts.minus (u.line i).baselines))
      (f.counts.minus (u.line i).baselines) f (u.line i).position
  rw [hW] at hline hframe
  have hpos : W.position = ((u.line i).credited f.counts).position := by rw [hframe]
  have hopens := (u.line i).slip.checked_opens (u.line i).position
    ((u.line i).slipFound permille (f.counts.minus (u.line i).baselines))
  have hslip : (w.line i).slip =
      ((u.line i).slipAfter permille (f.counts.minus (u.line i).baselines)).1 := by
    rw [hp.line, hline]
  have hun : (w.line i).unrecorded = (v.line i).unrecorded := by rw [hp.line]
  refine ⟨by rw [hp.line, hline]; exact hpos, by rw [hp.line, hline, hW], by rw [hp.line, hline, hW],
    by rw [hp.line, hline, hW], fun hn hl => ?_, fun hc => ?_, fun c hc => ?_⟩
  · have hm := ht.counted.missed (hcur.trans hn) (by rw [hcredit]; exact hl)
    rw [hun, hm, hcredit, hslip]
    have hown : (((u.line i).slipAfter permille (f.counts.minus (u.line i).baselines)).2.opens =
        true) = ((u.line i).slip.slipping = false ∧
          ((u.line i).slipAfter permille (f.counts.minus (u.line i).baselines)).1.slipping = true) := by
      refine propext ?_
      show ((u.line i).slip.checked _ _).2.opens = true ↔ _
      rw [hopens, Bool.and_eq_true, Bool.not_eq_true']
      rfl
    simp only [hown]
  · rw [hun, ht.counted.kept (by rw [hcur]; exact hc), hcredit]
  · obtain ⟨b, b', -, -, hb', -, htal, -⟩ := ht.coil hp (hcur.trans hc)
    exact ⟨b', hb', by rw [htal]⟩

theorem TwistRequest.asks_opens (r : TwistRequest) : (r.asks.filter ZoneRequest.opens).length =
    match r with
    | .openAt _ _ => 1
    | _ => 0 := by cases r <;> rfl

/-- R57: the monitor of a TWIST line after a credited tally. -/
theorem Works.watches.twistLine {u w : Works} {i : LineIx} {l : Line} {f : CountFrame}
    (h : u.watches w i l f) (hk : l.kind = .twist) {r : TwistMonitor × TwistRequest}
    (hr : l.twist.tally l.spec (l.measureLength (f.counts.minus l.baselines))
      (f.counts.minus l.baselines).spindle.toNat l.position (l.credited f.counts).position = r) :
    (w.line i).knot = l.knot ∧ (w.line i).twist = r.1 ∧
    (u.currentCoil? i = none → l.unrecorded ≤ 65535 → (w.line i).unrecorded =
      min 65535 (l.unrecorded + ((r.2.asks.filter ZoneRequest.opens).length +
        if l.slip.slipping = false ∧ (w.line i).slip.slipping = true then 1 else 0))) := by
  obtain ⟨e1, e2, e3, -⟩ := Line.watch_twist (l := l.credited f.counts)
    (l.measureLength (f.counts.minus l.baselines)) (f.counts.minus l.baselines) f l.position hk hr
  refine ⟨by rw [h.knot, e1]; rfl, by rw [h.twist, e1], fun hn hl => ?_⟩
  rw [h.missed hn hl, e2, e3, Nat.zero_add]

/-- Settles O50. -/
theorem twistVerdictFollowsTheBand : Obligations.TwistVerdictFollowsTheBand := by
  refine ⟨fun sp t => ?_, fun m sp dl dq pre pos => ?_, fun s d i a q payload h hk => ?_⟩
  · intro tol
    obtain ⟨hhigh, hlow, hin⟩ := verdict_iff sp t
    have htol : bandTolerance sp = tol := rfl
    refine ⟨hhigh, hlow, hin, fun h100 h300 => ?_, fun ht hN => ?_, fun h100 h65 h300 hN => ?_⟩
    · have hle := bandTolerance_le sp h300
      rw [htol] at hle
      exact ⟨by omega, (verdict_iff sp 0).2.1.2 (by rw [htol]; omega)⟩
    · exact fun hv => absurd (hhigh.1 hv) (by rw [htol]; omega)
    · have hle := bandTolerance_le sp h300
      rw [htol] at hle
      exact (verdict_iff sp 65535).2.2.2 (by rw [htol]; omega)
  · obtain ⟨ws, hws⟩ : ∃ ws, spanDrop sp.twistSpan (takeSegment m.window dl dq) = ws := ⟨_, rfl⟩
    obtain ⟨hwin, hnone, hsome⟩ := m.tally_cases sp dl dq pre pos hws
    obtain ⟨r, hr⟩ : ∃ r, m.tally sp dl dq pre pos = r := ⟨_, rfl⟩
    rw [hr] at hwin hnone hsome ⊢
    intro r room grown len t dev inside m' further suspect recover
    have hwin' : r.1.window = ws := hwin
    have hgrown : takeSegment m.window dl dq = grown := takeSegment_eq m.window dl dq
    have hlen : len = windowLength ws := congrArg windowLength hwin'
    have ht : t = min 65535
        ((windowQuarters ws * 25000000 + windowLength ws / 2) / windowLength ws) := by
      show min 65535 ((windowQuarters r.1.window * 25000000 + len / 2) / len) = _
      rw [hwin', hlen]
    clear_value t
    refine ⟨?_, fun hlt => ?_, fun hle => ?_⟩
    · obtain ⟨dropped, hkeep, hnewest, hlong⟩ := spanDrop_spec sp.twistSpan (takeSegment m.window dl dq)
      rw [hws] at hkeep hnewest hlong
      rw [hwin', hlen]
      exact ⟨dropped, hgrown.symm.trans hkeep, hnewest, hlong⟩
    · rw [hwin']
      exact hnone (by rw [← hlen]; exact hlt)
    · have hm' : m' = { m with window := ws, lastValue := t } := by
        show { m with window := r.1.window, lastValue := t } = _
        rw [hwin']
      have hj : r = m'.judge sp (verdict sp t) dev pre pos := by
        rw [hm']
        exact hsome t ht (by rw [← hlen]; exact hle)
      obtain ⟨hcalm, hsus, hout, hrec⟩ := m'.judge_inside sp dev pre pos
      have hinside : inside → r = m'.judge sp .inside dev pre pos := fun hi => by
        rw [hj, show verdict sp t = .inside from hi]
      refine ⟨fun hb hi => (hinside hi).trans (hcalm hb), fun hb hi => ?_,
        fun hb hi => (hinside hi).trans (hsus hb), fun hb hi => ?_,
        fun hb hi => (hinside hi).trans (hout hb), fun hb hi => (hinside hi).trans (hrec hb),
        fun hb hi => ?_⟩
      · exact hj.trans ((m'.judge_outside sp hi dev pre pos).1 hb)
      · exact hj.trans ((m'.judge_outside sp hi dev pre pos).2.1 hb)
      · exact hj.trans ((m'.judge_outside sp hi dev pre pos).2.2 hb)
  · intro l diff
    have hw := s.works.watches_creditTally s.settings.slipPermille i (countFrameOf payload 1
      (entriesOf (payload.drop 9)) ((statusOf payload).getLsbD 2))
    refine ⟨_, h.exec, ?_⟩
    generalize s.works.creditTally s.settings.slipPermille i (countFrameOf payload 1
      (entriesOf (payload.drop 9)) ((statusOf payload).getLsbD 2)) = w at hw
    obtain ⟨r, hr⟩ : ∃ r, l.twist.tally l.spec (l.measureLength diff) diff.spindle.toNat l.position
      (l.credited (countsAt payload 1)).position = r := ⟨_, rfl⟩
    obtain ⟨hknot, htwist, hmissed⟩ := hw.twistLine hk hr
    rw [show (w.line i).position = (l.credited (countsAt payload 1)).position from hw.position, hr]
    refine ⟨hknot, htwist, ?_⟩
    intro opened slips
    refine ⟨fun hn hl => ?_, hw.kept⟩
    have h := hmissed hn hl
    rw [TwistRequest.asks_opens, ← Nat.add_assoc] at h
    exact h

end Sys2Proof.Machine
end

section
namespace Sys2Proof.Machine

/-! # The Knot Monitor (R81 to R93) -/

/-! ## Fault entries and rows (R82 to R85) -/

/-- R82: the low byte of a row's number, by how far the row lies behind the last. -/
theorem rowLow_iff {last : Half} {rows j : Nat} (low : Byte) (hr : rows ≤ 32767) (hj : j ≤ rows) :
    (last.toNat + 65536 - rows + j) % 65536 % 256 = low.toNat ↔
      (rows - j) % 256 = (last.toNat + 256 - low.toNat) % 256 := by
  have h1 := last.isLt
  have h2 := low.isLt
  omega

/-- R83: an entry maps to the newest row that has its low byte. -/
theorem mapEntry_iff {last : Half} {rows : Nat} (low : Byte) (hr : rows ≤ 32767) (off : Nat) :
    mapEntry last rows low = some off ↔ 1 ≤ off ∧ off ≤ rows ∧
      (last.toNat + 65536 - rows + off) % 65536 % 256 = low.toNat ∧
      ∀ j, off < j → j ≤ rows → (last.toNat + 65536 - rows + j) % 65536 % 256 ≠ low.toNat := by
  have hmap : mapEntry last rows low = some off ↔
      (last.toNat + 256 - low.toNat) % 256 < rows ∧
        off = rows - (last.toNat + 256 - low.toNat) % 256 := by
    unfold mapEntry
    dsimp only
    split
    · next h => simp [h, eq_comm]
    · next h => simp [h]
  rw [hmap]
  constructor
  · rintro ⟨hlt, rfl⟩
    refine ⟨by omega, by omega, (rowLow_iff low hr (by omega)).2 (by omega), fun j h1 h2 hj => ?_⟩
    have := (rowLow_iff low hr h2).1 hj
    omega
  · rintro ⟨h1, h2, hlow, hnewest⟩
    have hback := (rowLow_iff low hr h2).1 hlow
    have hlt : (last.toNat + 256 - low.toNat) % 256 < rows := by omega
    refine ⟨hlt, ?_⟩
    by_contra hne
    exact hnewest (rows - (last.toNat + 256 - low.toNat) % 256) (by omega) (by omega)
      ((rowLow_iff low hr (by omega)).2 (by omega))

theorem mapEntry_none_iff {last : Half} {rows : Nat} (low : Byte) (hr : rows ≤ 32767) :
    mapEntry last rows low = none ↔
      ∀ j, 1 ≤ j → j ≤ rows → (last.toNat + 65536 - rows + j) % 65536 % 256 ≠ low.toNat := by
  have hmap : mapEntry last rows low = none ↔ rows ≤ (last.toNat + 256 - low.toNat) % 256 := by
    unfold mapEntry
    dsimp only
    split
    · next h => simp [h]
    · next h => simpa using not_lt.1 h
  rw [hmap]
  constructor
  · intro hle j h1 h2 hj
    have := (rowLow_iff low hr h2).1 hj
    omega
  · intro h
    by_contra hlt
    exact h (rows - (last.toNat + 256 - low.toNat) % 256) (by omega) (by omega)
      ((rowLow_iff low hr (by omega)).2 (by omega))

/-- The last of a list that a property holds of. -/
theorem getLast?_filter_iff {α : Type} (p : α → Bool) (es : List α) (e : α) :
    (es.filter p).getLast? = some e ↔
      ∃ before later, es = before ++ e :: later ∧ p e = true ∧ ∀ e' ∈ later, ¬ p e' = true := by
  constructor
  · intro h
    obtain ⟨ys, hys⟩ := List.getLast?_eq_some_iff.1 h
    obtain ⟨l1, l2, rfl, h1, h2⟩ := List.filter_eq_append_iff.1 hys
    obtain ⟨a, b, rfl, ha, hpe, hb⟩ := List.filter_eq_cons_iff.1 h2
    refine ⟨l1 ++ a, b, by simp, hpe, fun e' he' => ?_⟩
    exact List.filter_eq_nil_iff.1 hb e' he'
  · rintro ⟨before, later, rfl, hpe, hlater⟩
    rw [List.filter_append, List.filter_cons_of_pos hpe, List.filter_eq_nil_iff.2 hlater]
    simp

theorem mappedEntry_iff (last : Half) (rows : Nat) (es : List FaultEntry) (off : Nat)
    (e : FaultEntry) : mappedEntry last rows es off = some e ↔ ∃ before later,
      es = before ++ e :: later ∧ mapEntry last rows e.lowByte = some off ∧
        ∀ e' ∈ later, ¬ mapEntry last rows e'.lowByte = some off := by
  rw [mappedEntry, getLast?_filter_iff]
  simp only [decide_eq_true_eq]

/-- R84: whether an entry maps to a row. -/
theorem mappedEntry_isSome (last : Half) (rows : Nat) (es : List FaultEntry) (off : Nat) :
    (mappedEntry last rows es off).isSome =
      es.any fun e => decide (mapEntry last rows e.lowByte = some off) := by
  rw [mappedEntry, Bool.eq_iff_iff, List.getLast?_isSome, List.any_eq_true]
  constructor
  · intro h
    obtain ⟨e, he⟩ := List.exists_mem_of_ne_nil _ h
    obtain ⟨hmem, hp⟩ := List.mem_filter.1 he
    exact ⟨e, hmem, hp⟩
  · rintro ⟨e, hmem, hp⟩
    exact List.ne_nil_of_mem (List.mem_filter.2 ⟨hmem, hp⟩)

/-- One more number counted among those below a bound. -/
theorem length_filter_range_or (p : Nat → Bool) (m rows : Nat) :
    ((List.range rows).filter fun n => decide (n = m) || p n).length =
      ((List.range rows).filter p).length + if m < rows ∧ p m = false then 1 else 0 := by
  induction rows with
  | zero => rfl
  | succ k ih =>
    rw [List.range_succ, List.filter_append, List.filter_append, List.length_append,
      List.length_append, ih]
    by_cases hk : k = m
    · subst hk
      cases hp : p k <;> simp [hp]
    · have hlt : m < k + 1 ↔ m < k := by omega
      cases hp : p k <;> simp [hp, hk, hlt, Nat.add_right_comm]

/-- R84, R85: every entry is stale, or is the mapped entry of its row. -/
theorem staleCount_add (last : Half) (rows : Nat) (es : List FaultEntry) :
    staleCount last rows es +
      ((List.range rows).filter fun n => (mappedEntry last rows es (n + 1)).isSome).length =
      es.length := by
  simp only [mappedEntry_isSome]
  induction es with
  | nil => simp [staleCount]
  | cons e es ih =>
    rw [List.length_cons, ← ih, staleCount]
    cases hm : mapEntry last rows e.lowByte with
    | none => simp [hm]; omega
    | some off =>
      have hoff : 1 ≤ off ∧ off ≤ rows := by
        unfold mapEntry at hm
        dsimp only at hm
        split at hm
        · have := Option.some.inj hm
          omega
        · exact nomatch hm
      have hany : ∀ n, ((e :: es).any fun e => decide (mapEntry last rows e.lowByte = some (n + 1)))
          = (decide (n = off - 1) ||
            es.any fun e => decide (mapEntry last rows e.lowByte = some (n + 1))) := fun n => by
        rw [List.any_cons, hm]
        congr 1
        rw [decide_eq_decide, Option.some_inj]
        omega
      simp only [hany]
      rw [length_filter_range_or (fun n => es.any fun e =>
        decide (mapEntry last rows e.lowByte = some (n + 1))), Nat.sub_add_cancel hoff.1]
      cases es.any fun e => decide (mapEntry last rows e.lowByte = some off) with
      | true => simp; omega
      | false =>
        have hlt : off - 1 < rows := by omega
        simp [hlt]; omega

/-! ## One row (R86, R89 to R91) -/

theorem RowKind.deviation (kpr tied : Nat) : rowDeviation kpr (.known tied) =
    some (max tied kpr - min tied kpr) := by
  show some _ = some _
  congr 1
  omega

/-- R90, R91: a fault row. -/
theorem KnotMonitor.row_fault (m : KnotMonitor) (sp : Spec) (start : Nat) {kind : RowKind}
    (hk : kind.fault = true) {dev : Option Nat} (hd : rowDeviation sp.knotsPerRow kind = dev) :
    let n := { m with
      faultStart := if m.faultRun = 0 then start else m.faultStart,
      faultRun := min 65535 (m.faultRun + 1), soundRun := 0 }
    let extreme := if m.faultRun = 0 then dev.getD 0 else max m.extreme (dev.getD 0)
    (m.faulted = false → m.row sp { start := start, kind := kind } =
      if sp.faultRowsToOpen ≤ n.faultRun then
        ({ n with extreme := extreme, faulted := true }, .openAt n.faultStart extreme)
      else ({ n with extreme := extreme }, .nothing)) ∧
    (m.faulted = true → m.row sp { start := start, kind := kind } =
      if m.extreme < dev.getD 0 then ({ n with extreme := dev.getD 0 }, .raise (dev.getD 0))
      else (n, .nothing)) := by
  intro n extreme
  subst hd
  refine ⟨fun hf => ?_, fun hf => ?_⟩
  · unfold KnotMonitor.row
    dsimp only
    rw [if_pos hk, if_neg (by rw [hf]; exact Bool.false_ne_true)]
    rfl
  · unfold KnotMonitor.row
    dsimp only
    rw [if_pos hk, if_pos hf]
    unfold KnotMonitor.faultWhileFaulted
    cases hd : rowDeviation sp.knotsPerRow kind with
    | none => exact (if_neg (Nat.not_lt_zero _)).symm
    | some d => rfl

theorem KnotMonitor.row_sound (m : KnotMonitor) (sp : Spec) (start : Nat) :
    let n := { m with
      soundStart := if m.soundRun = 0 then start else m.soundStart,
      soundRun := min 65535 (m.soundRun + 1), faultRun := 0 }
    (m.faulted = false →
      m.row sp { start := start, kind := .sound } = ({ n with extreme := 0 }, .nothing)) ∧
    (m.faulted = true → m.row sp { start := start, kind := .sound } =
      if sp.soundRowsToClose ≤ n.soundRun then
        ({ n with faulted := false, extreme := 0 }, .closeAt n.soundStart)
      else (n, .nothing)) := by
  intro n
  refine ⟨fun hf => ?_, fun hf => ?_⟩ <;> unfold KnotMonitor.row <;> dsimp only
  · rw [if_neg (show ¬ RowKind.sound.fault = true from Bool.false_ne_true),
      if_neg (by rw [hf]; exact Bool.false_ne_true)]
    rfl
  · rw [if_neg (show ¬ RowKind.sound.fault = true from Bool.false_ne_true), if_pos hf]
    rfl

end Sys2Proof.Machine
end

section
namespace Sys2Proof.Machine

theorem KnotRequest.asks_opens (r : KnotRequest) : (r.asks.filter ZoneRequest.opens).length =
    match r with
    | .openAt _ _ => 1
    | _ => 0 := by cases r <;> rfl

/-- R92: the openings that the rows of a tally ask for, counted row by row. -/
theorem KnotMonitor.foldl_opens (sp : Spec) (rs : List Row) : ∀ (m : KnotMonitor) (n : Nat),
    (rs.foldl (fun (x : KnotMonitor × Nat) r => ((x.1.row sp r).1, x.2 +
      ((x.1.row sp r).2.asks.filter ZoneRequest.opens).length)) (m, n)).2 =
      n + KnotMonitor.rowsOpen sp rs m := by
  induction rs with
  | nil => exact fun m n => rfl
  | cons r rs ih =>
    intro m n
    rw [List.foldl_cons, ih, KnotMonitor.rowsOpen, KnotMonitor.rowsOpen, KnotMonitor.rowsAsk,
      List.filter_append, List.length_append, Nat.add_assoc]

theorem faultRows_eq (rs : List Row) :
    faultRows rs = (rs.filter fun r => decide (r.kind ≠ .sound)).length := by
  refine congrArg List.length (List.filter_congr fun r _ => ?_)
  cases r.kind <;> simp [RowKind.fault]

/-- R81: the monitor of a KNOT line after a credited tally, and its coil. -/
theorem Works.watches.knotLine {u w : Works} {i : LineIx} {l : Line} {f : CountFrame}
    (h : u.watches w i l f) (hk : l.kind = .knot) {rs : List Row}
    (hrs : classifyRows l.spec f.counts.rows (f.counts.minus l.baselines).rows.toNat f.entries
      f.overflow l.position = rs) :
    (w.line i).twist = l.twist ∧ (w.line i).knot = l.knot.rows l.spec rs ∧
    (w.line i).staleEntries = countUp l.staleEntries
      (staleCount f.counts.rows (f.counts.minus l.baselines).rows.toNat f.entries) ∧
    (u.currentCoil? i = none → l.unrecorded ≤ 65535 → (w.line i).unrecorded =
      min 65535 (l.unrecorded + (faultRows rs + KnotMonitor.rowsOpen l.spec rs l.knot +
        if l.slip.slipping = false ∧ (w.line i).slip.slipping = true then 1 else 0))) ∧
    ∀ c, u.currentCoil? i = some c → ∃ c', w.currentCoil? i = some c' ∧
      c'.tallies.2 = (rowTallies l.spec.knotsPerRow rs c.tallies).2 := by
  obtain ⟨e1, e2, e3, e4⟩ := Line.watch_knot (l := l.credited f.counts)
    (l.measureLength (f.counts.minus l.baselines)) (f.counts.minus l.baselines) f l.position hk
  have hrows : (l.credited f.counts).rowsOf (f.counts.minus l.baselines).rows.toNat f.entries
      f.overflow l.position = rs := hrs
  rw [hrows] at e1 e2 e3 e4
  refine ⟨by rw [h.twist, e1]; rfl, by rw [h.knot, e1]; rfl, by rw [h.stale, e1]; rfl,
    fun hn hl => ?_, fun c hc => ?_⟩
  · rw [h.missed hn hl, e2, e3]
    rfl
  · obtain ⟨c', hc', ht⟩ := h.tallies c hc
    rw [e4] at ht
    exact ⟨c', hc', ht⟩

/-- Settles O51. -/
theorem faultEntryMapsToTheNewestRow : Obligations.FaultEntryMapsToTheNewestRow := by
  refine ⟨fun last rows low hr => ?_, fun last rows es sp overflow pre => ?_, fun m sp start => ?_,
    fun s d i a q payload h hk => ?_⟩
  · intro lowByte
    refine ⟨fun off => mapEntry_iff low hr off, mapEntry_none_iff low hr, fun h256 hn => ?_⟩
    unfold mapEntry at hn
    dsimp only at hn
    rw [if_pos (by omega)] at hn
    exact nomatch hn
  · intro maps rs
    refine ⟨fun off e => mappedEntry_iff last rows es off e, staleCount_add last rows es,
      by simp [rs, classifyRows], fun n r hn => ?_⟩
    obtain ⟨k, hk, rfl⟩ : ∃ k, (List.range rows)[n]? = some k ∧ Row.mk (rowStart pre sp.rowPitch (k + 1))
        (rowKind sp.knotsPerRow overflow (mappedEntry last rows es (k + 1))) = r := by
      simpa only [rs, classifyRows, List.getElem?_map, Option.map_eq_some_iff] using hn
    obtain ⟨hlt, rfl⟩ := List.getElem?_eq_some_iff.1 hk
    rw [List.getElem_range]
    exact ⟨rfl, by cases mappedEntry last rows es (n + 1) <;> rfl⟩
  · intro fault n
    exact ⟨fun tied => m.row_fault sp start rfl (RowKind.deviation _ _), m.row_fault sp start rfl rfl,
      (m.row_sound sp start).1, (m.row_sound sp start).2⟩
  · intro l counts rows es rs faults knots
    have hw := s.works.watches_creditTally s.settings.slipPermille i (countFrameOf payload 1
      (entriesOf (payload.drop 9)) ((statusOf payload).getLsbD 2))
    refine ⟨_, h.exec, ?_⟩
    generalize s.works.creditTally s.settings.slipPermille i (countFrameOf payload 1
      (entriesOf (payload.drop 9)) ((statusOf payload).getLsbD 2)) = w at hw
    obtain ⟨htwist, hknot, hstale, hmissed, htallies⟩ := hw.knotLine hk (rs := rs) rfl
    have hfaults : faultRows rs = faults := faultRows_eq rs
    refine ⟨htwist, hknot, hstale, ?_⟩
    intro opened slips
    have hopened : KnotMonitor.rowsOpen l.spec rs l.knot = opened := by
      have h := KnotMonitor.foldl_opens l.spec rs l.knot 0
      simp only [KnotRequest.asks_opens, Nat.zero_add] at h
      exact h.symm
    refine ⟨fun hn hl => ?_, hw.kept, fun c hc => ?_⟩
    · have h := hmissed hn hl
      rw [show faultRows rs + KnotMonitor.rowsOpen _ rs _ = faults + opened by
        rw [hfaults]; exact congrArg _ hopened] at h
      rw [h, ← Nat.add_assoc, ← Nat.add_assoc]
    · obtain ⟨c', hc', ht⟩ := htallies c hc
      have hmiss : ∀ kpr, (rs.map fun r => r.kind.missed kpr).sum = knots fun tied => kpr - tied :=
        fun kpr => congrArg List.sum (List.map_congr_left fun r _ => by cases r.kind <;> rfl)
      have hexc : ∀ kpr, (rs.map fun r => r.kind.excess kpr).sum = knots fun tied => tied - kpr :=
        fun kpr => congrArg List.sum (List.map_congr_left fun r _ => by cases r.kind <;> rfl)
      simp only [Coil.tallies, rowTallies, Prod.mk.injEq, hfaults, hmiss, hexc] at ht
      exact ⟨c', hc', ht⟩

end Sys2Proof.Machine
end

section
namespace Sys2Proof.Machine

/-! # Marks and cuts: the records handed on (R46 to R49) -/

/-- A counting frame that carries counts and the counters-restarted flag alone. -/
def plainFrame (restarted : Bool) (counts : Counts) : CountFrame :=
  { restarted := restarted, counts := counts, entries := [], overflow := false }

theorem countsAt_tallyPayload (status : Byte) (counts : Counts) :
    countsAt (tallyPayload status counts []) 1 = counts := by
  have h := countsAt_zero counts []
  rw [List.append_nil] at h
  have h1 : countsAt (tallyPayload status counts []) 1 = countsAt (counts.bytes ++ []) 0 := rfl
  rw [h1, List.append_nil, h]

theorem State.expects.payload {s : State} {d : StationIx} {role : Role} {a q : Byte}
    {p p' : List Byte} (h : s.expects d role a q p) (hl : p'.length ≤ Config.payloadLimit)
    (hm : moreOf p' = false) : s.expects d role a q p' :=
  { h with fits := hl, last := hm }

/-- Table 8.1: the status byte with the counters-restarted flag alone. -/
theorem statusBits (b : Bool) : (if b then 2 else 0 : Byte).getLsbD 0 = false ∧
    (if b then 2 else 0 : Byte).getLsbD 1 = b ∧ (if b then 2 else 0 : Byte).getLsbD 2 = false := by
  cases b <;> decide

/-- R37: the records that a TALLY of the same counts and flag would leave. -/
theorem State.countsTo.works {s : State} {d : StationIx} {i : LineIx} {a q : Byte}
    {p : List Byte} (h : s.expects d (.line i) a q p) {restarted : Bool} {counts : Counts} {w : Works}
    (hc : s.countsTo d a q restarted counts w) :
    w = s.works.tally s.settings.slipPermille i (plainFrame restarted counts) := by
  have hlen : (tallyPayload (if restarted then 2 else 0) counts []).length = 9 := by
    simp [tallyPayload]
  have hexp : s.expects d (.line i) a q (tallyPayload (if restarted then 2 else 0) counts []) :=
    h.payload (by rw [hlen]; decide) (statusBits restarted).1
  have hexec := hexp.exec_tally (by rw [hlen]; rfl)
  have hframe : countFrameOf (tallyPayload (if restarted then 2 else 0) counts []) 1
      (entriesOf ((tallyPayload (if restarted then 2 else 0) counts []).drop 9))
      ((statusOf (tallyPayload (if restarted then 2 else 0) counts [])).getLsbD 2) =
      plainFrame restarted counts := by
    have hentries : (tallyPayload (if restarted then 2 else 0) counts []).drop 9 = [] :=
      List.drop_eq_nil_of_le hlen.le
    rw [hentries]
    unfold countFrameOf
    obtain ⟨-, h1, h2⟩ := statusBits restarted
    have hst : statusOf (tallyPayload (if restarted then 2 else 0) counts []) =
        if restarted then 2 else 0 := rfl
    rw [countsAt_tallyPayload, hst, h1, h2]
    rfl
  rw [hframe] at hexec
  have heq := Host.Outcome.next.inj (hc.symm.trans hexec)
  have hworks : ∀ v, (s.afterReply d q none v).works = v := fun v => by
    rw [State.afterReply, State.endTurn_works]
  rw [← hworks w, heq, hworks]

theorem Line.signedMeasure_eq (l : Line) (counts : Counts) :
    l.signedMeasure counts = (l.measure.of (counts.minus l.baselines)).toInt := by
  unfold Line.signedMeasure
  cases l.measure <;> rfl

/-- R37, R47: a difference of -32,768 is implausible. -/
theorem Line.signedMeasure_untrusted {l : Line} {f : CountFrame}
    (h : f.restarted = true ∨ l.signedMeasure f.counts = -32768) : f.untrusted l = true := by
  rw [CountFrame.untrusted_iff]
  refine h.imp id fun h => ?_
  have hmsb : ∀ x : Half, x.toInt = -32768 → 32768 ≤ x.toNat := fun x hx => by
    have hlt := x.isLt
    rw [BitVec.toInt_eq_toNat_cond] at hx
    split at hx <;> omega
  unfold Line.signedMeasure at h
  cases hm : l.measure with
  | wheelA => rw [hm] at h; exact .inr (.inl (hmsb _ h))
  | wheelB => rw [hm] at h; exact .inr (.inr (.inl (hmsb _ h)))
  | rows => rw [hm] at h; exact .inr (.inr (.inr (hmsb _ h)))

theorem Works.tally_eq_countTally {u : Works} {i : LineIx} (h0 : (u.line i).state ≠ .idle)
    (h1 : (u.line i).state ≠ .primed) (permille : Nat) (f : CountFrame) :
    u.tally permille i f = u.countTally permille i f := by
  unfold Works.tally
  cases hs : (u.line i).state with
  | idle => exact absurd hs h0
  | primed => exact absurd hs h1
  | running | releasing | starved => rfl

/-- R47 to R49: how the position of a line that counts is resolved. -/
theorem Works.resolve_eq {u : Works} {i : LineIx} (h0 : (u.line i).state ≠ .idle)
    (h1 : (u.line i).state ≠ .primed) (permille : Nat) (restarted : Bool) (counts : Counts) :
    u.resolve permille i (plainFrame restarted counts) =
      if restarted = true ∨ (u.line i).signedMeasure counts = -32768 then
        (u.resync i counts, (u.resync i counts).clampPosition i ((u.resync i counts).line i).position)
      else if 0 < (u.line i).signedMeasure counts then
        (u.countTally permille i (plainFrame restarted counts),
          (u.countTally permille i (plainFrame restarted counts)).clampPosition i
            ((u.countTally permille i (plainFrame restarted counts)).line i).position)
      else (u, u.clampPosition i ((u.line i).backdated ((u.line i).signedMeasure counts))) := by
  unfold Works.resolve
  dsimp only
  rw [show (plainFrame restarted counts).counts = counts from rfl, ← Line.signedMeasure_eq]
  cases hs : (u.line i).state with
  | idle => exact absurd hs h0
  | primed => exact absurd hs h1
  | running | releasing | starved => rfl

/-- R46 to R49: a line that hands on records is not IDLE, and they and the position are those that
the Length Unit resolves. -/
theorem State.handsOn.resolve {s : State} {d : StationIx} {i : LineIx} {a q : Byte} {p : List Byte}
    (h : s.expects d (.line i) a q p) {restarted : Bool} {counts : Counts} {u : Works} {pos : Nat}
    (hon : s.handsOn d i a q restarted counts u pos) : (s.works.line i).state ≠ .idle ∧
      s.works.resolve s.settings.slipPermille i (plainFrame restarted counts) = (u, pos) := by
  cases hon with
  | primed _ hs hc =>
    refine ⟨by rw [hs]; exact nofun, ?_⟩
    rw [State.countsTo.works h hc]
    unfold Works.resolve Works.tally
    dsimp only
    rw [hs]
  | behind _ h0 h1 hr hlow hle hpos =>
    refine ⟨h0, ?_⟩
    rw [Works.resolve_eq h0 h1, if_neg (by
      rintro (hr' | hm)
      · exact Bool.false_ne_true (hr.symm.trans hr')
      · exact absurd hm (by show ¬ (s.works.line i).signedMeasure counts = _; omega)),
      if_neg (not_lt.2 hle), hpos]
    rfl
  | counted _ h0 h1 hcase hc =>
    refine ⟨h0, ?_⟩
    rw [State.countsTo.works h hc, Works.tally_eq_countTally h0 h1, Works.resolve_eq h0 h1]
    by_cases hun : restarted = true ∨ (s.works.line i).signedMeasure counts = -32768
    · have hres : s.works.countTally s.settings.slipPermille i (plainFrame restarted counts) =
          s.works.resync i counts :=
        if_pos (Line.signedMeasure_untrusted (f := plainFrame restarted counts) hun)
      rw [if_pos hun, hres]
      rfl
    · have hpos : 0 < (s.works.line i).signedMeasure counts := by
        rcases hcase with h' | h' | h'
        · exact absurd (.inl h') hun
        · exact absurd (.inr h') hun
        · exact h'
      rw [if_neg hun, if_pos hpos]
      rfl

/-- R46: a MARK that is due, with the records and the position that it is resolved to. -/
theorem State.handsOn.exec_mark {s : State} {d : StationIx} {i : LineIx} {a q : Byte}
    {payload : List Byte} (h : s.expects d (.line i) a q payload) (hl : payload.length = 10)
    {k : MarkKind} (hk : markKindOf (payload.getD 1 0) = some k) {u : Works} {pos : Nat}
    (hon : s.handsOn d i a q ((payload.getD 0 0).getLsbD 1) (countsAt payload 2) u pos) :
    exec (.mark a q payload) s = .next (s.afterReply d q none (u.applyMark i pos k)) := by
  obtain ⟨hidle, hres⟩ := hon.resolve h
  rw [h.exec_mark hl hk]
  refine congrArg (fun w => Host.Outcome.next (s.afterReply d q none w)) ?_
  have hmark : s.works.mark s.settings.slipPermille i k (countFrameOf payload 2 [] false) =
      (s.works.resolve s.settings.slipPermille i (countFrameOf payload 2 [] false)).1.applyMark i
        (s.works.resolve s.settings.slipPermille i (countFrameOf payload 2 [] false)).2 k := by
    unfold Works.mark
    cases hs : (s.works.line i).state with
    | idle => exact absurd hs hidle
    | primed | running | releasing | starved => rfl
  have hres' : s.works.resolve s.settings.slipPermille i (countFrameOf payload 2 [] false) =
      (u, pos) := hres
  rw [hmark, hres']

end Sys2Proof.Machine
end

section
namespace Sys2Proof.Machine

/-! # Marks (R104 to R106) -/

/-! ## A change of one line and its coil -/

/-- Between `u` and `w` the record of line `i` became `l'`, the coil of the key `k` went by `f`, and
the notices became `notices`; nothing else moved. -/
structure Works.puts (u w : Works) (i : LineIx) (k : CoilKey) (l' : Line) (f : Coil → Coil)
    (notices : Notices) : Prop where
  line : w.line i = l'
  others : ∀ j, j ≠ i → w.line j = u.line j
  coils : w.coils = (u.modifyCoil k f).coils
  key : ∀ b, (f b).key = b.key
  lots : w.lots = u.lots
  waitList : w.waitList = u.waitList
  lanes : w.lanes = u.lanes
  queues : w.queues = u.queues
  held : w.held = u.held
  notices : w.notices = notices

section
variable {u w : Works} {i : LineIx} {k : CoilKey} {l' : Line} {f : Coil → Coil} {ns : Notices}

theorem Works.puts.of_modifyCoil (u : Works) (i : LineIx) (k : CoilKey) (f : Coil → Coil)
    (hf : ∀ b, (f b).key = b.key) : u.puts (u.modifyCoil k f) i k (u.line i) f u.notices :=
  ⟨rfl, fun _ _ => rfl, rfl, hf, rfl, rfl, rfl, rfl, rfl, rfl⟩

theorem Works.puts.modifyLine (h : u.puts w i k l' f ns) (g : Line → Line) :
    u.puts (w.modifyLine i g) i k (g l') f ns :=
  { h with
    line := by rw [Works.line_modifyLine_self, h.line]
    others := fun j hj => (Works.line_modifyLine_other w i j g hj).trans (h.others j hj) }

theorem Works.puts.modifyCoil (h : u.puts w i k l' f ns) (g : Coil → Coil)
    (hg : ∀ b, (g b).key = b.key) :
    u.puts (w.modifyCoil k g) i k l' (fun b => g (f b)) ns :=
  { h with
    coils := by
      rw [← Works.modifyCoil_modifyCoil u k f g h.key]
      show (mapTable _ w.coils) = _
      rw [h.coils]
      rfl
    key := fun b => (hg (f b)).trans (h.key b) }

theorem Works.puts.raiseLine (h : u.puts w i k l' f ns) (hn : ns = u.notices) (j : LineIx)
    (bits : Half) : u.puts (w.raiseLine j bits) i k l' f (u.raiseLine j bits).notices :=
  { h with
    notices := by
      show { w.notices with line := w.notices.line.set j (w.notices.line[j] ||| bits) } = _
      rw [h.notices, hn]
      rfl }

theorem Works.puts.coil? (h : u.puts w i k l' f ns) {c : Coil} (hc : u.coil? k = some c) :
    w.coil? k = some (f c) :=
  (Works.coil?_congr h.coils k).trans (Works.coil?_modifyCoil_self u k f c h.key hc)

theorem Works.puts.other (h : u.puts w i k l' f ns) {k' : CoilKey} (hk : k' ≠ k) :
    w.coil? k' = u.coil? k' :=
  (Works.coil?_congr h.coils k').trans (Works.coil?_modifyCoil_other u k k' f h.key hk)

theorem Works.puts.current {c : Coil} (h : u.puts w i c.key l' f ns) (hl : l'.coil = (u.line i).coil)
    (hc : u.currentCoil? i = some c) : w.currentCoil? i = some (f c) := by
  obtain ⟨hkey, hk⟩ := Works.currentCoil?_key hc
  exact Works.currentCoil?_of (by rw [h.line, hl, h.key]; exact hkey)
    (by rw [h.key]; exact h.coil? hk)

theorem Works.puts.coilLength (h : u.puts w i k l' f ns)
    (hl : l'.position = (u.line i).position) : w.coilLength = u.coilLength :=
  Works.coilLength_congr fun j => by
    by_cases hj : j = i
    · rw [hj, h.line]; exact hl
    · rw [h.others j hj]

end

/-! ## What a mark makes of a coil -/

/-- The coil `x` is `b` but for its reasons, which are those of `c` and `joins`, and its grade. -/
structure Coil.marks (c b x : Coil) (joins : List Reason) : Prop where
  like : x = { b with reasons := x.reasons, grade := x.grade }
  reasons : ∀ r, r ∈ x.reasons ↔ r ∈ c.reasons ∨ r ∈ joins

theorem Coil.marks.regraded {c b x : Coil} {joins : List Reason} (h : c.marks b x joins)
    (len : Nat) : c.marks b (x.regraded len) joins := by
  rw [Coil.regraded_eq]
  exact ⟨by rw [h.like], h.reasons⟩

/-- R104: a joint is counted. -/
theorem Coil.marks_countJoint (c : Coil) : c.marks { c with joints := min 255 (c.joints + 1) }
    c.countJoint (if c.limits.maxJoints < min 255 (c.joints + 1) then [.jointsOver] else []) := by
  have hlim : Config.byteLimit = 255 := rfl
  unfold Coil.countJoint
  dsimp only
  rw [hlim]
  split
  · refine ⟨by rw [Coil.withReason_eq], fun r => ?_⟩
    rw [Coil.mem_withReason, List.mem_singleton]
  · exact ⟨rfl, by simp⟩

/-- R104: a joint joins the zone that is open. -/
theorem Coil.marks.mergeJoint {c b x : Coil} {joins : List Reason} (h : c.marks b x joins) :
    c.marks { b with zones := b.zones.map fun z =>
      if z.cause = .joint ∧ z.stop = none then { z with extreme := z.extreme + 1 } else z }
      x.mergeJoint joins := by
  refine ⟨?_, h.reasons⟩
  have hz : x.mergeJoint.zones = b.zones.map fun z =>
      if z.cause = .joint ∧ z.stop = none then { z with extreme := z.extreme + 1 } else z := by
    have hzones : x.zones = b.zones := by rw [h.like]
    show x.zones.map _ = _
    rw [hzones]
    exact List.map_congr_left fun z _ => if_congr (by simp [Zone.openOf]) rfl rfl
  rw [← hz, Coil.mergeJoint, h.like]

/-- R101: a zone that is opened, listed or not. -/
theorem Coil.marks.openZone {c b x : Coil} {joins : List Reason} (h : c.marks b x joins)
    (q : Cause) (pos : Nat) (extreme : Int) :
    let start := ((b.zones.filter fun z => decide (z.cause = q)).map fun z =>
      z.stop.getD 0).foldl max pos
    (b.zones.length < 8 → c.marks { b with
        zones := (b.zones.takeWhile fun z => decide (z.start ≤ start)) ++
          { cause := q, start := start, stop := none, extreme := extreme } ::
            b.zones.dropWhile fun z => decide (z.start ≤ start) }
      (x.openZone q pos extreme) (.zones :: joins)) ∧
    (8 ≤ b.zones.length → c.marks { b with
        unlisted := min 255 (b.unlisted + 1), unlistedOpen := b.unlistedOpen ++ [q] }
      (x.openZone q pos extreme) (.zoneOverflow :: joins)) := by
  intro start
  have hzones : x.zones = b.zones := by rw [h.like]
  have hstart : x.zoneStart q pos = start := by rw [Coil.zoneStart_eq, hzones]
  have hlim : Config.zoneLimit = 8 := rfl
  have hreasons := Coil.mem_openZone_reasons x q pos extreme
  rw [hzones] at hreasons
  refine ⟨fun h8 => ⟨?_, fun r => ?_⟩, fun h8 => ⟨?_, fun r => ?_⟩⟩
  · unfold Coil.openZone
    dsimp only
    rw [hlim, if_neg (by rw [hzones]; omega),
      Coil.placeZone_listed _ _ (by rw [hzones]; exact h8), Coil.withReason_eq, insertZone_eq,
      hstart, hzones, h.like]
  · rw [hreasons, if_neg (by omega), h.reasons, List.mem_cons]
    tauto
  · unfold Coil.openZone
    dsimp only
    rw [hlim, if_pos (by rw [hzones]; exact h8),
      Coil.placeZone_full _ _ (by rw [hzones]; exact h8), Coil.withReason_eq, h.like]
  · rw [hreasons, if_pos h8, h.reasons, List.mem_cons]
    tauto

/-- R102: a zone that is closed, listed or not. -/
theorem Coil.marks.closeZone {c b x : Coil} {joins : List Reason} (h : c.marks b x joins)
    (q : Cause) (pos len : Nat) :
    ((∃ z ∈ b.zones, z.cause = q ∧ z.stop = none) → c.marks { b with
        zones := b.zones.map fun z =>
          if z.cause = q ∧ z.stop = none then
            { z with stop := some (max z.start (pos - b.start)) }
          else z } (x.closeZone q (pos - x.start) len) joins) ∧
    ((¬ ∃ z ∈ b.zones, z.cause = q ∧ z.stop = none) → c.marks { b with
        unlistedOpen := b.unlistedOpen.filter fun y => decide (y ≠ q) }
      (x.closeZone q (pos - x.start) len) joins) := by
  have hzones : x.zones = b.zones := by rw [h.like]
  have hstart : x.start = b.start := by rw [h.like]
  refine ⟨fun hl => ?_, fun hl => ?_⟩
  · rw [← hzones] at hl
    rw [Coil.closeZone_listed hl]
    refine Coil.marks.regraded ?_ len
    unfold Coil.asked
    dsimp only
    rw [if_pos hl, hstart, hzones]
    exact ⟨by rw [h.like], h.reasons⟩
  · rw [← hzones] at hl
    rw [Coil.closeZone_unlisted hl]
    unfold Coil.asked
    dsimp only
    rw [if_neg hl]
    exact ⟨by rw [h.like], h.reasons⟩

end Sys2Proof.Machine
end

section
namespace Sys2Proof.Machine

theorem Works.coilLength_same (u : Works) {x c : Coil} (h1 : x.start = c.start)
    (h2 : x.stop = c.stop) (h3 : x.line = c.line) : u.coilLength x = u.coilLength c := by
  rw [Works.coilLength, Works.coilLength, Works.coilEnd, Works.coilEnd, h1, h2, h3]

section
variable {u w : Works} {i : LineIx} {c : Coil} {l' : Line} {f : Coil → Coil} {ns : Notices}

/-- R112: the coil is graded anew. -/
theorem Works.puts.regrade (h : u.puts w i c.key l' f ns)
    (hl : l'.position = (u.line i).position) :
    ∃ f', f' c = (f c).regraded (u.coilLength (f c)) ∧ u.puts (w.regrade c.key) i c.key l' f' ns := by
  refine ⟨_, ?_, h.modifyCoil (fun b => b.regraded (w.coilLength b)) fun b => (b.regraded_fixed _).1⟩
  rw [h.coilLength hl]

/-- R105: a pending joint close, reached or not. -/
theorem Works.puts.closeJoint (h : u.puts w i c.key l' f ns) (hc : u.currentCoil? i = some c)
    (hk : l'.coil = (u.line i).coil) (hl : l'.position = (u.line i).position) {p : Nat}
    (hj : l'.jointClose = some p) :
    ∃ f', f' c = (if p ≤ l'.position then
        (f c).closeZone .joint (p - (f c).start) (u.coilLength (f c)) else f c) ∧
      u.puts (w.closeJoint i) i c.key
        { l' with jointClose := if p ≤ l'.position then none else some p } f' ns := by
  have hcur := h.current hk hc
  by_cases hp : p ≤ l'.position
  · have hw : w.closeJoint i = (w.modifyCoil c.key fun b =>
        b.closeZone .joint (p - b.start) (w.coilLength b)).modifyLine i
          fun l => { l with jointClose := none } := by
      unfold Works.closeJoint
      rw [h.line, hj]
      dsimp only
      rw [if_pos hp, Works.requestClose, hcur]
      dsimp only
      rw [h.key]
    rw [hw, if_pos hp, if_pos hp]
    refine ⟨_, ?_, (h.modifyCoil (fun b => b.closeZone .joint (p - b.start) (w.coilLength b))
      fun b => (b.closeZone_fixed _ _ _).1).modifyLine _⟩
    rw [h.coilLength hl]
  · have hw : w.closeJoint i = w := by
      unfold Works.closeJoint
      rw [h.line, hj]
      exact if_neg hp
    rw [hw, if_neg hp, if_neg hp]
    refine ⟨f, rfl, ?_⟩
    rw [← hj]
    exact h

/-- R104, R106: the outcome of a mark of a line with the coil `c`, in the words of the rule. -/
theorem Works.puts.marked (h : u.puts w i c.key l' f ns) (hc : u.currentCoil? i = some c)
    (hk : l'.coil = (u.line i).coil) {b : Coil} {joins : List Reason} {graded : Bool}
    (hm : c.marks b (f c) joins)
    (hg : graded = true → c.final = false → (f c).grade = (f c).gradeAt (u.coilLength c))
    (hn : graded = false → (f c).grade = c.grade) :
    w.line i = l' ∧ (∀ j, j ≠ i → w.line j = u.line j) ∧ w.lots = u.lots ∧
      w.currentCoil? i = some (f c) ∧ (∀ k, k ≠ c.key → w.coil? k = u.coil? k) ∧
      f c = { b with reasons := (f c).reasons, grade := (f c).grade } ∧
      (∀ r, r ∈ (f c).reasons ↔ r ∈ c.reasons ∨ r ∈ joins) ∧
      (graded = true → c.final = false → (f c).grade = (f c).gradeAt (u.coilLength c)) ∧
      (graded = false → (f c).grade = c.grade) ∧ w.notices = ns ∧ w.queues = u.queues ∧
      w.held = u.held ∧ w.waitList = u.waitList ∧ w.lanes = u.lanes :=
  ⟨h.line, h.others, h.lots, h.current hk hc, fun _ hk' => h.other hk', hm.like, hm.reasons, hg, hn,
    h.notices, h.queues, h.held, h.waitList, h.lanes⟩

end

/-- R101: an open request that is no duplicate. -/
theorem Works.openZone_new {u : Works} {k : CoilKey} {c : Coil} (hk : u.coil? k = some c)
    {q : Cause} (ho : c.hasOpen q = false) (pos : Nat) (x : Int) :
    u.openZone k q pos x true =
      (u.modifyCoil k fun b => (b.openZone q pos x).regraded (u.coilLength b)).raiseLine c.line
        0x10 := by
  simp only [Works.openZone, hk, ho]
  rfl

theorem Works.puts.openZone {u w : Works} {i : LineIx} {c : Coil} {l' : Line} {f : Coil → Coil}
    (h : u.puts w i c.key l' f u.notices) (hk : u.coil? c.key = some c)
    (hl : l'.position = (u.line i).position) {q : Cause} (ho : (f c).hasOpen q = false)
    (hline : (f c).line = c.line) (pos : Nat) (x : Int) :
    ∃ f', f' c = ((f c).openZone q pos x).regraded (u.coilLength (f c)) ∧
      u.puts (w.openZone c.key q pos x true) i c.key l' f' (u.raiseLine c.line 0x10).notices := by
  rw [Works.openZone_new (h.coil? hk) ho, hline]
  refine ⟨_, ?_, (h.modifyCoil (fun b => (b.openZone q pos x).regraded (w.coilLength b))
    fun b => (Coil.regraded_fixed _ _).1.trans (Coil.openZone_fixed _ _ _ _).1).raiseLine rfl _ _⟩
  rw [h.coilLength hl]

/-- R104: what a joint makes of the coil, before its zone may close. -/
def Coil.jointed (c : Coil) (at0 len : Nat) : Coil :=
  (if c.hasOpen .joint then c.countJoint.mergeJoint
  else (c.countJoint.openZone .joint at0 1).regraded len).regraded len

/-- R104, R105: where a joint's zone is to close. -/
def Line.jointEnd (l : Line) (merged : Bool) (pos : Nat) : Nat :=
  if merged then max (l.jointClose.getD 0) (pos + l.spec.jointMargin) else pos + l.spec.jointMargin

theorem Coil.countJoint_frame (c : Coil) : c.countJoint = { c with
    joints := c.countJoint.joints, reasons := c.countJoint.reasons } := by
  unfold Coil.countJoint
  dsimp only
  split
  · rw [Coil.withReason_eq]
  · rfl

theorem Coil.countJoint_hasOpen (c : Coil) (q : Cause) : c.countJoint.hasOpen q = c.hasOpen q := by
  rw [Coil.countJoint_frame]; rfl

/-- R104: a MARK of kind JOINT, with the close of a zone whose margin is passed. -/
theorem Works.markJoint_puts {u : Works} {i : LineIx} {c : Coil} (hc : u.currentCoil? i = some c)
    (pos : Nat) {x : Coil} {p : Nat}
    (hx : c.jointed (pos - c.start - (u.line i).spec.jointMargin) (u.coilLength c) = x)
    (hp : (u.line i).jointEnd (c.hasOpen .joint) pos = p) :
    ∃ f, f c = (if p ≤ (u.line i).position then
        x.closeZone .joint (p - x.start) (u.coilLength x) else x) ∧
      u.puts (u.markJoint i pos) i c.key
        { u.line i with jointClose := if p ≤ (u.line i).position then none else some p } f
        (if c.hasOpen .joint then u.notices else (u.raiseLine c.line 0x10).notices) := by
  obtain ⟨-, hk⟩ := Works.currentCoil?_key hc
  subst hx hp
  have hfix : ∀ b : Coil, b.countJoint.key = b.key := fun b => by rw [Coil.countJoint_frame]
  have h1 := Works.puts.of_modifyCoil u i c.key Coil.countJoint hfix
  have hlen : u.coilLength c.countJoint = u.coilLength c := by rw [Coil.countJoint_frame]; rfl
  unfold Works.markJoint Coil.jointed Line.jointEnd
  rw [hc]
  dsimp only
  cases ho : c.hasOpen .joint with
  | true =>
    rw [if_pos rfl, if_pos rfl, if_pos rfl, if_pos rfl]
    have h2 := (h1.modifyCoil Coil.mergeJoint fun _ => rfl).modifyLine fun l => { l with
      jointClose := some (max (l.jointClose.getD 0) (pos + (u.line i).spec.jointMargin)) }
    obtain ⟨f3, e3, h3⟩ := h2.regrade rfl
    have hlen3 : u.coilLength (c.countJoint.mergeJoint) = u.coilLength c := hlen
    rw [hlen3] at e3
    obtain ⟨f4, e4, h4⟩ := h3.closeJoint hc rfl rfl rfl
    rw [e3] at e4
    exact ⟨f4, e4, h4⟩
  | false =>
    rw [if_neg Bool.false_ne_true, if_neg Bool.false_ne_true, if_neg Bool.false_ne_true,
      if_neg Bool.false_ne_true]
    obtain ⟨f2, e2, h2⟩ := h1.openZone hk rfl ((c.countJoint_hasOpen .joint).trans ho)
      (by rw [Coil.countJoint_frame]) (pos - c.start - (u.line i).spec.jointMargin) 1
    obtain ⟨f3, e3, h3⟩ := (h2.modifyLine fun l => { l with
      jointClose := some (pos + (u.line i).spec.jointMargin) }).regrade rfl
    have hlen3 : u.coilLength (f2 c) = u.coilLength c := by
      rw [e2, Coil.regraded_eq, Coil.openZone_frame, Coil.countJoint_frame]
      rfl
    rw [hlen3, e2, hlen] at e3
    obtain ⟨f4, e4, h4⟩ := h3.closeJoint hc rfl rfl rfl
    rw [e3] at e4
    exact ⟨f4, e4, h4⟩

end Sys2Proof.Machine
end

section
namespace Sys2Proof.Machine

/-! # Marks reach their coil (R104 to R106) -/

/-- R101, R102: a zone placed in a list that holds no open one of its cause is the one that a close
of the cause finds. -/
theorem map_close_placed {zs : List Zone} {q : Cause}
    (h : ¬ ∃ z ∈ zs, z.cause = q ∧ z.stop = none) (p : Zone → Bool) (start : Nat) (x : Int) (n : Nat) :
    (zs.takeWhile p ++ { cause := q, start := start, stop := none, extreme := x } ::
      zs.dropWhile p).map (fun z =>
        if z.cause = q ∧ z.stop = none then { z with stop := some (max z.start n) } else z) =
    zs.takeWhile p ++ { cause := q, start := start, stop := some (max start n), extreme := x } ::
      zs.dropWhile p := by
  have hsame : ∀ ys : List Zone, (∀ z ∈ ys, z ∈ zs) → ys.map (fun z =>
      if z.cause = q ∧ z.stop = none then { z with stop := some (max z.start n) } else z) = ys :=
    fun ys hys => (List.map_congr_left fun z hz => if_neg fun hq => h ⟨z, hys z hz, hq⟩).trans
      (List.map_id' _)
  rw [List.map_append, List.map_cons, if_pos ⟨rfl, rfl⟩,
    hsame _ fun z hz => (List.takeWhile_prefix p).subset hz,
    hsame _ fun z hz => (List.dropWhile_suffix p).subset hz]

/-- R104: the zone that a joint joins stays open. -/
theorem merged_open (zs : List Zone) :
    (∃ z ∈ zs.map fun z =>
      if z.cause = Cause.joint ∧ z.stop = none then { z with extreme := z.extreme + 1 } else z,
      z.cause = Cause.joint ∧ z.stop = none) ↔ ∃ z ∈ zs, z.cause = Cause.joint ∧ z.stop = none := by
  constructor
  · rintro ⟨y, hy, hq⟩
    obtain ⟨z, hz, rfl⟩ := List.mem_map.1 hy
    by_cases h : z.cause = Cause.joint ∧ z.stop = none
    · exact ⟨z, hz, h⟩
    · rw [if_neg h] at hq; exact ⟨z, hz, hq⟩
  · rintro ⟨z, hz, hq⟩
    exact ⟨_, List.mem_map_of_mem hz, by rw [if_pos hq]; exact hq⟩

/-- R104, R105: a joint that joins the open zone and closes it at once. -/
theorem map_close_merged (zs : List Zone) (n : Nat) :
    (zs.map fun z =>
      if z.cause = Cause.joint ∧ z.stop = none then { z with extreme := z.extreme + 1 } else z).map
      (fun z => if z.cause = Cause.joint ∧ z.stop = none then
        { z with stop := some (max z.start n) } else z) =
    zs.map fun z => if z.cause = Cause.joint ∧ z.stop = none then
      { z with extreme := z.extreme + 1, stop := some (max z.start n) } else z := by
  rw [List.map_map]
  refine List.map_congr_left fun z _ => ?_
  rw [Function.comp_apply]
  by_cases h : z.cause = Cause.joint ∧ z.stop = none
  · rw [if_pos h, if_pos h, if_pos h]
  · rw [if_neg h, if_neg h, if_neg h]

theorem map_unless_open {zs : List Zone} {q : Cause}
    (h : ¬ ∃ z ∈ zs, z.cause = q ∧ z.stop = none) (g : Zone → Zone) :
    (zs.map fun z => if z.cause = q ∧ z.stop = none then g z else z) = zs :=
  (List.map_congr_left fun z hz => if_neg fun hq => h ⟨z, hz, hq⟩).trans (List.map_id' _)

theorem filter_appended {qs : List Cause} {q : Cause} (h : q ∉ qs) :
    (qs ++ [q]).filter (fun x => decide (x ≠ q)) = qs := by
  have hq : qs.filter (fun x => decide (x ≠ q)) = qs :=
    List.filter_eq_self.2 fun x hx => decide_eq_true fun he => h (he ▸ hx)
  rw [List.filter_append, hq]
  simp

/-- R104, R112: a joint leaves the coil graded, whether its zone closes or not. -/
theorem Coil.jointed_graded (c : Coil) (at0 len : Nat) (hf : c.final = false) :
    (c.jointed at0 len).grade = (c.jointed at0 len).gradeAt len := by
  refine Coil.regraded_grade ?_ len
  split
  · rw [Coil.mergeJoint, Coil.countJoint_frame]; exact hf
  · rw [Coil.regraded_eq, Coil.openZone_frame, Coil.countJoint_frame]; exact hf

theorem Coil.jointed_frame (c : Coil) (at0 len : Nat) : c.jointed at0 len = { c with
    joints := (c.jointed at0 len).joints, zones := (c.jointed at0 len).zones,
    unlisted := (c.jointed at0 len).unlisted,
    unlistedOpen := (c.jointed at0 len).unlistedOpen, reasons := (c.jointed at0 len).reasons,
    grade := (c.jointed at0 len).grade } := by
  have h := c.marks_countJoint.like
  unfold Coil.jointed
  split
  · rw [Coil.regraded_eq, Coil.mergeJoint, Coil.countJoint_frame]
  · rw [Coil.regraded_eq, Coil.regraded_eq, Coil.openZone_frame, Coil.countJoint_frame]

/-- R104, R105: the coil after a joint whose zone is to close at `p`. -/
theorem Coil.jointed_closed_graded (c : Coil) (at0 len p pos : Nat) (hf : c.final = false) {x : Coil}
    (hx : x = if p ≤ pos then
      (c.jointed at0 len).closeZone .joint (p - (c.jointed at0 len).start) len
      else c.jointed at0 len) : x.grade = x.gradeAt len := by
  have hg := c.jointed_graded at0 len hf
  rw [hx]
  split
  · exact Coil.closeZone_graded .joint _ (by rw [Coil.jointed_frame]; exact hf) hg
  · exact hg

section
variable {u : Works} {i : LineIx} {c : Coil}

/-- R104: a MARK of kind JOINT does what `b` and `joins` say, when they are the joint's, with the
close of a zone whose margin is passed. -/
theorem Works.markJoint_marked (hc : u.currentCoil? i = some c) {pos p : Nat} {b : Coil}
    {joins : List Reason} {j : Option Nat}
    (hp : (u.line i).jointEnd (c.hasOpen .joint) pos = p)
    (hj : j = if p ≤ (u.line i).position then none else some p) {ns : Notices}
    (hns : ns = if c.hasOpen .joint then u.notices else (u.raiseLine c.line 0x10).notices)
    (hm : ∀ x, c.jointed (pos - c.start - (u.line i).spec.jointMargin) (u.coilLength c) = x →
      c.marks b (if p ≤ (u.line i).position then x.closeZone .joint (p - x.start) (u.coilLength x)
        else x) joins) :
    ∃ f : Coil → Coil, u.puts (u.markJoint i pos) i c.key
        { u.line i with jointClose := j } f ns ∧
      c.marks b (f c) joins ∧
      (c.final = false → (f c).grade = (f c).gradeAt (u.coilLength c)) := by
  obtain ⟨x, hx⟩ : ∃ x, c.jointed (pos - c.start - (u.line i).spec.jointMargin)
    (u.coilLength c) = x := ⟨_, rfl⟩
  obtain ⟨f, hf, hputs⟩ := Works.markJoint_puts hc pos hx hp
  subst hj hns
  refine ⟨f, hputs, hf ▸ hm x hx, fun hfin => ?_⟩
  have hlen : u.coilLength x = u.coilLength c := by
    rw [← hx, Coil.jointed_frame]
    exact u.coilLength_same rfl rfl rfl
  rw [hlen, ← hx] at hf
  exact Coil.jointed_closed_graded c _ _ p _ hfin hf

/-- R101: a fresh joint zone on a coil, listed. -/
theorem Coil.jointed_fresh (ho : c.hasOpen .joint = false) (at0 len : Nat) {b : Coil}
    {joins : List Reason} (h : c.marks b (c.countJoint.openZone .joint at0 1) joins) :
    c.marks b (c.jointed at0 len) joins := by
  unfold Coil.jointed
  rw [ho, if_neg Bool.false_ne_true]
  exact (h.regraded len).regraded len

end

end Sys2Proof.Machine
end

section
namespace Sys2Proof.Machine

section
variable {u : Works} {i : LineIx} {c : Coil}

/-- R106: a MARK of kind FLAW_START on a coil without an open OPERATOR zone. -/
theorem Works.flawStart_puts (hc : u.currentCoil? i = some c) (ho : c.hasOpen .operator = false)
    (pos : Nat) : ∃ f : Coil → Coil,
      f c = (c.openZone .operator (pos - c.start) 0).regraded (u.coilLength c) ∧
      u.puts (u.applyMark i pos .flawStart) i c.key (u.line i) f
        (u.raiseLine c.line 0x10).notices := by
  obtain ⟨-, hk⟩ := Works.currentCoil?_key hc
  have hw : u.applyMark i pos .flawStart = (u.modifyCoil c.key fun b =>
      (b.openZone .operator (pos - c.start) 0).regraded (u.coilLength b)).raiseLine c.line 0x10 := by
    rw [← Works.openZone_new hk ho]
    simp only [Works.applyMark, Works.requestOpen, hc]
  rw [hw]
  exact ⟨_, rfl, (Works.puts.of_modifyCoil u i c.key _ fun b =>
    (Coil.regraded_fixed _ _).1.trans (Coil.openZone_fixed _ _ _ _).1).raiseLine rfl _ _⟩

/-- R106: a MARK of kind FLAW_END. -/
theorem Works.flawEnd_puts (hc : u.currentCoil? i = some c) (pos : Nat) : ∃ f : Coil → Coil,
    f c = c.closeZone .operator (pos - c.start) (u.coilLength c) ∧
    u.puts (u.applyMark i pos .flawEnd) i c.key (u.line i) f u.notices := by
  have hw : u.applyMark i pos .flawEnd = u.modifyCoil c.key fun b =>
      b.closeZone .operator (pos - b.start) (u.coilLength b) := by
    simp only [Works.applyMark, Works.requestClose, hc]
  rw [hw]
  exact ⟨_, rfl, Works.puts.of_modifyCoil u i c.key _ fun b => (Coil.closeZone_fixed _ _ _ _).1⟩

theorem Works.flawStart_again (hc : u.currentCoil? i = some c) (ho : c.hasOpen .operator = true)
    (pos : Nat) : u.applyMark i pos .flawStart = u := by
  obtain ⟨-, hk⟩ := Works.currentCoil?_key hc
  simp only [Works.applyMark, Works.requestOpen, hc, Works.openZone, hk, ho, if_pos]

/-- R104, R106: a mark of a line without a coil. -/
theorem Works.applyMark_none (hc : u.currentCoil? i = none) (pos : Nat) (k : MarkKind) :
    u.applyMark i pos k = if k = .flawEnd then u else u.countUnrecorded i 1 := by
  cases k <;>
    simp only [Works.applyMark, Works.markJoint, Works.requestOpen, Works.requestClose, hc] <;> rfl

theorem Works.mark_idle {w : Works} {i : LineIx} (h : (w.line i).state = .idle) (permille : Nat)
    (k : MarkKind) (f : CountFrame) : w.mark permille i k f = w := by
  simp only [Works.mark, h]

/-- A coil that no mark has reached yet. -/
theorem Coil.marks.refl (c : Coil) : c.marks c c [] := ⟨rfl, fun r => by simp⟩

end

/-- Settles O42: the records are handed on as `State.handsOn.resolve` says, and the mark's outcome
is `Works.puts` with the coil of `Coil.marks`. -/
theorem backdatedMarkReachesItsCoil : Obligations.BackdatedMarkReachesItsCoil := by
  intro s d i a q payload h hl kind dropped
  have hkind1 : kind = 1 → markKindOf kind = some .joint := fun hk => by rw [hk]; rfl
  have hkind2 : kind = 2 → markKindOf kind = some .flawStart := fun hk => by rw [hk]; rfl
  have hkind3 : kind = 3 → markKindOf kind = some .flawEnd := fun hk => by rw [hk]; rfl
  refine ⟨fun hidle hkind => ?_, fun u pos hon => ?_⟩
  · have hdrop : ∀ k, markKindOf kind = some k → dropped s.works := fun k hk => by
      have hexec := h.exec_mark hl hk
      rw [Works.mark_idle hidle] at hexec
      exact hexec
    rcases hkind with hk | hk | hk
    · exact hdrop _ (hkind1 hk)
    · exact hdrop _ (hkind2 hk)
    · exact hdrop _ (hkind3 hk)
  intro l
  have hexec := fun {k} (hk : markKindOf kind = some k) => hon.exec_mark h hl hk
  refine ⟨fun hc => ⟨fun hk => ?_, fun hk => ?_⟩, fun c hc => ?_⟩
  · rcases hk with hk | hk
    · have := hexec (hkind1 hk)
      rw [Works.applyMark_none hc] at this
      exact this
    · have := hexec (hkind2 hk)
      rw [Works.applyMark_none hc] at this
      exact this
  · have := hexec (hkind3 hk)
    rw [Works.applyMark_none hc] at this
    exact this
  intro marked start opens listed unlisted raised joint closeAt pending joints tooMany
  have hfree : ∀ q : Cause, ¬ listed q → ¬ unlisted q → c.hasOpen q = false := fun q h1 h2 =>
    Bool.eq_false_iff.2 fun ho => ((c.hasOpen_iff q).1 ho).elim h1 h2
  have hmarked : ∀ {k} {l' ns b joins} {f : Coil → Coil}, markKindOf kind = some k →
      u.puts (u.applyMark i pos k) i c.key l' f ns → l'.coil = l.coil → c.marks b (f c) joins →
      (c.final = false → (f c).grade = (f c).gradeAt (u.coilLength c)) →
      marked l' ns b joins true := fun hk hp hcoil hm hg =>
    ⟨_, _, hexec hk, hp.marked hc hcoil hm (fun _ => hg) nofun⟩
  have hjoint : ∀ {p b joins j ns}, kind = 1 → l.jointEnd (c.hasOpen .joint) pos = p →
      j = (if p ≤ l.position then none else some p) →
      ns = (if c.hasOpen .joint then u.notices else raised) →
      (∀ x, c.jointed joint (u.coilLength c) = x →
        c.marks b (if p ≤ l.position then x.closeZone .joint (p - x.start) (u.coilLength x)
          else x) joins) →
      marked { l with jointClose := j } ns b joins true := fun hk hp hj hns hm => by
    obtain ⟨f, hputs, hm, hg⟩ := Works.markJoint_marked hc hp hj hns hm
    exact hmarked (hkind1 hk) hputs rfl hm hg
  have hfresh := c.marks_countJoint.openZone .joint joint 1
  have hmerge := c.marks_countJoint.mergeJoint
  refine ⟨fun hk h1 h2 h8 => ?_, fun hk h1 h2 h8 => ?_, fun hk ho => ?_, fun hk h1 h2 h8 => ?_,
    fun hk h1 h2 h8 => ?_, fun hk ho => ?_, fun hk ho => ?_, fun hk ho => ?_⟩
  · have hno := hfree _ h1 h2
    have hm := Coil.jointed_fresh hno joint (u.coilLength c) (hfresh.1 h8)
    refine ⟨fun hlt => hjoint hk (by rw [hno]; rfl) (if_neg (not_le.2 hlt)).symm (by rw [hno]; rfl)
      fun x hx => ?_, fun hle => hjoint hk (by rw [hno]; rfl) (if_pos hle).symm (by rw [hno]; rfl)
      fun x hx => ?_⟩
    · rw [if_neg (not_le.2 hlt)]
      subst hx; exact hm
    · rw [if_pos hle]
      subst hx
      have hclose := (hm.closeZone .joint closeAt
        (u.coilLength (c.jointed joint (u.coilLength c)))).1
        ⟨_, List.mem_append_right _ (List.mem_cons_self ..), rfl, rfl⟩
      rw [map_close_placed h1] at hclose
      exact hclose
  · have hno := hfree _ h1 h2
    have hm := Coil.jointed_fresh hno joint (u.coilLength c) (hfresh.2 h8)
    refine ⟨fun hlt => hjoint hk (by rw [hno]; rfl) (if_neg (not_le.2 hlt)).symm (by rw [hno]; rfl)
      fun x hx => ?_, fun hle => hjoint hk (by rw [hno]; rfl) (if_pos hle).symm (by rw [hno]; rfl)
      fun x hx => ?_⟩
    · rw [if_neg (not_le.2 hlt)]
      subst hx; exact hm
    · rw [if_pos hle]
      subst hx
      have hclose := (hm.closeZone .joint closeAt
        (u.coilLength (c.jointed joint (u.coilLength c)))).2 h1
      rw [filter_appended h2] at hclose
      exact hclose
  · have hyes : c.hasOpen .joint = true := (c.hasOpen_iff _).2 ho
    have hm := hmerge.regraded (u.coilLength c)
    have hmerged : c.jointed joint (u.coilLength c) =
        c.countJoint.mergeJoint.regraded (u.coilLength c) := by
      rw [Coil.jointed, hyes, if_pos rfl]
    rw [← hmerged] at hm
    refine ⟨fun hlt => hjoint hk (by rw [hyes]; rfl) (if_neg (not_le.2 hlt)).symm
      (by rw [hyes]; rfl) fun x hx => ?_, fun hle => hjoint hk (by rw [hyes]; rfl)
      (if_pos hle).symm (by rw [hyes]; rfl) fun x hx => ?_⟩
    · rw [if_neg (not_le.2 hlt)]
      subst hx; exact hm
    · rw [if_pos hle]
      subst hx
      have hclose := hm.closeZone .joint pending
        (u.coilLength (c.jointed joint (u.coilLength c)))
      by_cases hlisted : listed .joint
      · rw [if_pos hlisted]
        have hclosed := hclose.1 ((merged_open c.zones).2 hlisted)
        rw [map_close_merged] at hclosed
        exact hclosed
      · rw [if_neg hlisted]
        have hclosed := hclose.2 fun hz => hlisted ((merged_open c.zones).1 hz)
        have hsame := fun g => map_unless_open (q := .joint) hlisted g
        rw [hsame] at hclosed
        rw [hsame]
        exact hclosed
  · have hno := hfree _ h1 h2
    obtain ⟨f, hf, hputs⟩ := Works.flawStart_puts hc hno pos
    refine hmarked (hkind2 hk) hputs rfl (hf ▸ ?_) fun hfin => ?_
    · exact (((Coil.marks.refl c).openZone .operator (pos - c.start) 0).1 h8).regraded _
    · rw [hf]
      exact Coil.regraded_grade (by rw [Coil.openZone_frame]; exact hfin) _
  · have hno := hfree _ h1 h2
    obtain ⟨f, hf, hputs⟩ := Works.flawStart_puts hc hno pos
    refine hmarked (hkind2 hk) hputs rfl (hf ▸ ?_) fun hfin => ?_
    · exact (((Coil.marks.refl c).openZone .operator (pos - c.start) 0).2 h8).regraded _
    · rw [hf]
      exact Coil.regraded_grade (by rw [Coil.openZone_frame]; exact hfin) _
  · have := hexec (hkind2 hk)
    rw [Works.flawStart_again hc ((c.hasOpen_iff _).2 ho)] at this
    exact this
  · obtain ⟨f, hf, hputs⟩ := Works.flawEnd_puts hc pos
    refine hmarked (hkind3 hk) hputs rfl (hf ▸ ?_) fun hfin => ?_
    · exact ((Coil.marks.refl c).closeZone .operator pos (u.coilLength c)).1 ho
    · rw [hf, Coil.closeZone_listed ho]
      refine Coil.regraded_grade ?_ _
      rw [Coil.asked_frame]
      exact hfin
  · obtain ⟨f, hf, hputs⟩ := Works.flawEnd_puts hc pos
    refine ⟨_, _, hexec (hkind3 hk), hputs.marked hc rfl (hf ▸ ?_) nofun fun _ => ?_⟩
    · exact ((Coil.marks.refl c).closeZone .operator pos (u.coilLength c)).2 ho
    · rw [hf, Coil.closeZone_unlisted ho]
      exact (c.asked_kept _).1

end Sys2Proof.Machine
end

section
namespace Sys2Proof.Machine

/-! # The end of a coil (R108, R113, R124, R125) -/

/-- R124, R132: the reasons that the kind of end brings. -/
def EndKind.reasons : EndKind → List Reason
  | .unplanned => [.unplannedCut]
  | .suspendedRelease => [.lengthUncertain]
  | .planned | .release => []

theorem Coil.mem_withEndReason (c : Coil) (kind : EndKind) (r : Reason) :
    r ∈ (c.withEndReason kind).reasons ↔ r ∈ c.reasons ∨ r ∈ kind.reasons := by
  cases kind <;> simp [Coil.withEndReason, EndKind.reasons]

theorem Coil.withEndReason_eq (c : Coil) (kind : EndKind) :
    c.withEndReason kind = { c with reasons := (c.withEndReason kind).reasons } := by
  cases kind with
  | planned | release => rfl
  | unplanned | suspendedRelease => exact c.withReason_eq _

theorem Coil.judgeShort_eq (c : Coil) (len : Nat) :
    c.judgeShort len = { c with reasons := (c.judgeShort len).reasons } := by
  unfold Coil.judgeShort
  split
  · exact c.withReason_eq _
  · rfl

theorem Coil.mem_judgeShort (c : Coil) (len : Nat) (r : Reason) :
    r ∈ (c.judgeShort len).reasons ↔ r ∈ c.reasons ∨ (r = .short ∧ len < c.limits.minSound) := by
  unfold Coil.judgeShort
  split
  · next h => simp [h]
  · next h => simp [h]

theorem Coil.ended_eq (c : Coil) (stop : Nat) (kind : EndKind) : c.ended stop kind = { c with
    stop := some stop, reasons := (c.ended stop kind).reasons,
    grade := (c.ended stop kind).grade } := by
  unfold Coil.ended
  rw [Coil.regraded_eq, Coil.judgeShort_eq, Coil.withEndReason_eq]

theorem Coil.mem_ended (c : Coil) (stop : Nat) (kind : EndKind) (r : Reason) :
    r ∈ (c.ended stop kind).reasons ↔ r ∈ c.reasons ∨ r ∈ kind.reasons ∨
      (r = .short ∧ stop - c.start < c.limits.minSound) := by
  unfold Coil.ended
  rw [Coil.regraded_eq]
  show r ∈ (Coil.judgeShort _ _).reasons ↔ _
  rw [Coil.mem_judgeShort, Coil.mem_withEndReason, Coil.withEndReason_eq, or_assoc]

theorem Coil.ended_grade {c : Coil} (hf : c.final = false) (stop : Nat) (kind : EndKind) :
    (c.ended stop kind).grade = (c.ended stop kind).gradeAt (stop - c.start) := by
  refine Coil.regraded_grade ?_ _
  rw [Coil.judgeShort_eq, Coil.withEndReason_eq]
  exact hf

/-- R108: what the end of a coil leaves of its zones. -/
theorem Coil.closeAll_zones (c : Coil) (n : Nat) : (c.closeAll n).zones = c.zones.map fun z =>
    if z.stop = none then { z with stop := some (max z.start n) } else z := by
  refine List.map_congr_left fun z _ => ?_
  rw [Nat.max_comm]
  exact if_congr (by simp) rfl rfl

/-- R108, R124, R125: the ended coil of a queue. -/
def Coil.queuedAt (c : Coil) (stop : Nat) (kind : EndKind) (p : PackerIx) : Coil :=
  { (c.closeAll (stop - c.start)).ended stop kind with state := .full, packer := some p }

/-- R108, R124, R125: the ended coil that is sealed loose. -/
def Coil.looseAt (c : Coil) (stop : Nat) (kind : EndKind) : Coil :=
  { ((({ (c.closeAll (stop - c.start)).ended stop kind with state := .sealed }.withReason
      .loose).withReason .unweighed).regraded (stop - c.start)) with final := true }

theorem Coil.endsAs_queuedAt (c : Coil) (stop : Nat) (kind : EndKind) (p : PackerIx) :
    c.endsAs (c.queuedAt stop kind p) stop kind.reasons (some p) where
  frame := by
    unfold Coil.queuedAt
    rw [Coil.ended_eq]
    rfl
  zones := by
    rw [← Coil.closeAll_zones, Coil.queuedAt, Coil.ended_eq]
  reasons r := by
    refine (Coil.mem_ended _ _ _ _).trans ?_
    simp [Coil.closeAll]
  grade hf := Coil.ended_grade (c := c.closeAll (stop - c.start)) hf stop kind
  queued _ := ⟨rfl, rfl, by rw [Coil.queuedAt, Coil.ended_eq]; rfl⟩
  loose h := nomatch h

theorem Coil.endsAs_looseAt (c : Coil) (stop : Nat) (kind : EndKind) :
    c.endsAs (c.looseAt stop kind) stop kind.reasons none where
  frame := by
    unfold Coil.looseAt
    rw [Coil.regraded_eq, Coil.withReason_eq, Coil.withReason_eq, Coil.ended_eq]
    rfl
  zones := by
    rw [← Coil.closeAll_zones, Coil.looseAt, Coil.regraded_eq, Coil.withReason_eq,
      Coil.withReason_eq, Coil.ended_eq]
  reasons r := by
    have hr : (c.looseAt stop kind).reasons =
        ((({ (c.closeAll (stop - c.start)).ended stop kind with state := .sealed }.withReason
          .loose).withReason .unweighed)).reasons := by
      rw [Coil.looseAt, Coil.regraded_eq]
    rw [hr, Coil.mem_withReason, Coil.mem_withReason]
    have hend := Coil.mem_ended (c.closeAll (stop - c.start)) stop kind r
    refine (or_congr (or_congr hend Iff.rfl) Iff.rfl).trans ?_
    simp only [Coil.closeAll, true_and, or_assoc]
  grade hf := by
    refine Coil.regraded_grade ?_ (stop - c.start)
    rw [Coil.withReason_eq, Coil.withReason_eq, Coil.ended_eq]
    exact hf
  queued h := absurd rfl h
  loose _ := ⟨by
    rw [Coil.looseAt, Coil.regraded_eq, Coil.withReason_eq, Coil.withReason_eq], by
    rw [Coil.looseAt, Coil.regraded_eq, Coil.withReason_eq, Coil.withReason_eq, Coil.ended_eq]
    rfl, rfl⟩

/-- R123, R124: what the end of its coil leaves of the line. -/
def Line.uncoiled (l : Line) : Line :=
  { l with coil := none, cut := .noCut, reserved := none, cutPoint := 0, halted := false }

/-- R108, R124, R125: between `u` and `w` the coil `c` of line `i` ended at `stop` and went to the
packer, or was sealed loose. -/
structure Works.endsCoil (u w : Works) (i : LineIx) (c : Coil) (stop : Nat) (kind : EndKind)
    (packer : Option PackerIx) : Prop where
  lines : w.lines = (u.modifyLine i Line.uncoiled).lines
  lots : w.lots = (u.modifyLot c.key.lot fun t => { t with coilsMade := t.coilsMade + 1 }).lots
  coils : ∃ f : Coil → Coil, w.coils = (u.modifyCoil c.key f).coils ∧ (∀ b, (f b).key = b.key) ∧
    c.endsAs (f c) stop kind.reasons packer
  queues : w.queues = u.queuesWith c.key packer
  notices : w.notices = (u.raiseLine i 0x100).notices
  held : w.held = u.held
  waitList : w.waitList = u.waitList
  lanes : w.lanes = u.lanes

/-- R123: the place that the line of an ended coil has reserved. -/
def Line.reservation (l : Line) : Option PackerIx :=
  match l.cut with | .ordered => l.reserved | .noCut | .held => none

/-- R108, R123 to R125: the part of a boundary that ends the coil. -/
def Works.coilEnded (u : Works) (i : LineIx) (c : Coil) (stop : Nat) (kind : EndKind) : Works :=
  ((u.modifyCoil c.key fun b => b.closeAll (stop - b.start)).endCoil i c.key stop kind).placeCoil i
    c.key (u.line i).reservation

theorem Works.boundary_eq (u : Works) (i : LineIx) (c : Coil) (stop : Nat) (kind : EndKind) :
    u.boundary i c stop kind =
      if kind.opensNext then ((u.coilEnded i c stop kind).applyAmendment i).openNext i stop
        (carrySet (u.line i) c)
      else ((u.coilEnded i c stop kind).leaveUnassigned i stop).freeLine i := rfl

/-- R139: the end of a coil frees no place but that of its line's reservation. -/
theorem Works.placesInUse_endCoil {u : Works} {i : LineIx} (h : (u.line i).reservation = none)
    (c : Coil) (stop : Nat) (kind : EndKind) (p : PackerIx) :
    ((u.modifyCoil c.key fun b => b.closeAll (stop - b.start)).endCoil i c.key stop
      kind).placesInUse p = u.placesInUse p := by
  let v := (u.modifyCoil c.key fun b => b.closeAll (stop - b.start)).endCoil i c.key stop kind
  have hself : v.line i = { u.line i with
      coil := none, cut := .noCut, cutPoint := 0, halted := false } :=
    Works.line_modifyLine_self _ _ _
  have hother : ∀ j, j ≠ i → v.line j = u.line j := fun j hj =>
    Works.line_modifyLine_other _ _ _ _ hj
  have hres : v.reservations p = u.reservations p := List.filter_congr fun j _ => by
    by_cases hj : j = i
    · subst hj
      rw [hself]
      unfold Line.reservation at h
      cases hc : (u.line j).cut with
      | ordered => rw [hc] at h; simp [show (u.line j).reserved = none from h]
      | noCut | held => simp
    · rw [hother j hj]
  exact congrArg (fun r : List LineIx => u.queues[p].length + r.length) hres

/-- R125: where the ended coil goes. -/
theorem Works.packerFor_eq (u : Works) (i : LineIx) : u.packerFor i =
    match (u.line i).reservation with
    | some p => some p
    | none => u.lanes[i].filter fun p => decide (u.placesInUse p < 6) := by
  unfold Works.packerFor Line.reservation
  cases hc : (u.line i).cut with
  | noCut | held => simp
  | ordered => cases hr : (u.line i).reserved <;> simp

theorem Works.modifyCoil_coils_comp {u v : Works} {k : CoilKey} {f : Coil → Coil}
    (h : v.coils = (u.modifyCoil k f).coils) (hf : ∀ b, (f b).key = b.key) (g : Coil → Coil) :
    (v.modifyCoil k g).coils = (u.modifyCoil k fun b => g (f b)).coils := by
  rw [← Works.modifyCoil_modifyCoil u k f g hf]
  show mapTable _ v.coils = mapTable _ (u.modifyCoil k f).coils
  rw [h]

theorem Works.modifyLine_lines_comp {u v : Works} {i : LineIx} {f : Line → Line}
    (h : v.lines = (u.modifyLine i f).lines) (g : Line → Line) :
    (v.modifyLine i g).lines = (u.modifyLine i fun l => g (f l)).lines := by
  rw [← Works.modifyLine_modifyLine u i f g]
  show v.lines.set i (g v.lines[i]) = _
  rw [h]
  rfl

/-- R108, R124: the coil table and the lines once the coil has its end. -/
theorem Works.closed_endCoil (u : Works) (i : LineIx) (c : Coil) (stop : Nat) (kind : EndKind) :
    ((u.modifyCoil c.key fun b => b.closeAll (stop - b.start)).endCoil i c.key stop kind).coils =
      (u.modifyCoil c.key fun b => (b.closeAll (stop - b.start)).ended stop kind).coils ∧
    ((u.modifyCoil c.key fun b => b.closeAll (stop - b.start)).endCoil i c.key stop kind).lines =
      (u.modifyLine i fun l =>
        { l with coil := none, cut := .noCut, cutPoint := 0, halted := false }).lines :=
  ⟨Works.modifyCoil_coils_comp (v := u.modifyCoil c.key fun b => b.closeAll (stop - b.start)) rfl
    (fun _ => rfl) fun b => b.ended stop kind, rfl⟩

theorem Coil.closed_ended_key (b : Coil) (stop : Nat) (kind : EndKind) :
    ((b.closeAll (stop - b.start)).ended stop kind).key = b.key := by
  rw [Coil.ended_eq]; rfl

/-- R125: the ended coil joins a queue. -/
theorem Works.endsCoil_queued (u : Works) (i : LineIx) (c : Coil) (stop : Nat) (kind : EndKind)
    (p : PackerIx) :
    u.endsCoil ((((u.modifyCoil c.key fun b => b.closeAll (stop - b.start)).endCoil i c.key stop
      kind).queueCoil c.key p).modifyLine i fun l => { l with reserved := none }) i c stop kind
        (some p) := by
  obtain ⟨hcoils, hlines⟩ := u.closed_endCoil i c stop kind
  let v := (u.modifyCoil c.key fun b => b.closeAll (stop - b.start)).endCoil i c.key stop kind
  exact {
    lines := Works.modifyLine_lines_comp (v := v.queueCoil c.key p) hlines _
    lots := rfl
    coils := ⟨_, Works.modifyCoil_coils_comp hcoils (fun b => b.closed_ended_key stop kind) _,
      fun b => b.closed_ended_key stop kind, c.endsAs_queuedAt stop kind p⟩
    queues := rfl
    notices := rfl
    held := rfl
    waitList := rfl
    lanes := rfl }

/-- R125: a coil that is sealed loose. -/
def Coil.toLoose (b : Coil) : Coil := ({ b with state := .sealed }.withReason .loose).withReason .unweighed

theorem Coil.toLoose_eq (b : Coil) : b.toLoose = { b with
    state := .sealed, reasons := b.toLoose.reasons } := by
  unfold Coil.toLoose
  rw [Coil.withReason_eq, Coil.withReason_eq]

/-- R125: the ended coil is sealed loose. -/
theorem Works.endsCoil_loose (u : Works) (i : LineIx) (c : Coil) (stop : Nat) (kind : EndKind) :
    u.endsCoil ((((u.modifyCoil c.key fun b => b.closeAll (stop - b.start)).endCoil i c.key stop
      kind).sealLoose c.key).modifyLine i fun l => { l with reserved := none }) i c stop kind
        none := by
  obtain ⟨hcoils, hlines⟩ := u.closed_endCoil i c stop kind
  let v0 := (u.modifyCoil c.key fun b => b.closeAll (stop - b.start)).endCoil i c.key stop kind
  let v := v0.modifyCoil c.key Coil.toLoose
  have hkey : ∀ b : Coil, (((b.closeAll (stop - b.start)).ended stop kind).toLoose).key = b.key :=
    fun b => by rw [Coil.toLoose_eq]; exact b.closed_ended_key stop kind
  have hloose : v.coils = (u.modifyCoil c.key fun b =>
      ((b.closeAll (stop - b.start)).ended stop kind).toLoose).coils :=
    Works.modifyCoil_coils_comp hcoils (fun b => b.closed_ended_key stop kind) Coil.toLoose
  have hlen : v.coilLength (((c.closeAll (stop - c.start)).ended stop kind).toLoose) =
      stop - c.start := by
    rw [Coil.toLoose_eq, Coil.ended_eq]; rfl
  have hend : { ((((c.closeAll (stop - c.start)).ended stop kind).toLoose).regraded
      (v.coilLength (((c.closeAll (stop - c.start)).ended stop kind).toLoose))) with
      final := true } = c.looseAt stop kind := by rw [hlen]; rfl
  exact {
    lines := Works.modifyLine_lines_comp (v := v0.sealLoose c.key) hlines _
    lots := rfl
    coils := ⟨fun b => { ((((b.closeAll (stop - b.start)).ended stop kind).toLoose).regraded
        (v.coilLength (((b.closeAll (stop - b.start)).ended stop kind).toLoose))) with
        final := true },
      Works.modifyCoil_coils_comp hloose hkey
        (fun b => { b.regraded (v.coilLength b) with final := true }),
      fun b => (Coil.regraded_fixed _ _).1.trans (hkey b),
      by
        have h := c.endsAs_looseAt stop kind
        rw [← hend] at h
        exact h⟩
    queues := rfl
    notices := rfl
    held := rfl
    waitList := rfl
    lanes := rfl }

/-- R108, R123 to R125: how a coil ends. -/
theorem Works.endsCoil_coilEnded (u : Works) (i : LineIx) (c : Coil) (stop : Nat) (kind : EndKind) :
    u.endsCoil (u.coilEnded i c stop kind) i c stop kind (u.packerFor i) := by
  let v := (u.modifyCoil c.key fun b => b.closeAll (stop - b.start)).endCoil i c.key stop kind
  have hlanes : v.lanes = u.lanes := rfl
  have hfree : (u.line i).reservation = none →
      ∀ p, v.placeFree p = decide (u.placesInUse p < 6) := fun hr p => by
    rw [Works.placeFree, Works.placesInUse_endCoil hr]; rfl
  rw [Works.packerFor_eq]
  rcases v.placeCoil_cases i c.key (u.line i).reservation with ⟨p, hr, hw⟩ | ⟨p, hr, hl, hf, hw⟩ |
    ⟨hr, hf, hw⟩
  · rw [hr]
    rw [hr] at hw
    unfold Works.coilEnded
    rw [hr, hw]
    exact u.endsCoil_queued i c stop kind p
  · rw [hr]
    have hpk : u.lanes[i].filter (fun p => decide (u.placesInUse p < 6)) = some p := by
      rw [← hlanes, hl, Option.filter_some, ← hfree hr, hf]
      rfl
    dsimp only
    rw [hpk]
    unfold Works.coilEnded
    rw [hw]
    exact u.endsCoil_queued i c stop kind p
  · rw [hr]
    have hpk : u.lanes[i].filter (fun p => decide (u.placesInUse p < 6)) = none := by
      cases hl : u.lanes[i] with
      | none => rfl
      | some p => rw [Option.filter_some, ← hfree hr, hf p hl]; rfl
    dsimp only
    rw [hpk]
    unfold Works.coilEnded
    rw [hw]
    exact u.endsCoil_loose i c stop kind

end Sys2Proof.Machine
end

section
namespace Sys2Proof.Machine

/-! # A CUT_DONE that is due (R46 to R49, R122) -/

/-- R37, R41, R50: a counting frame of a line that counts leaves its run state. -/
theorem Works.countTally_state (u : Works) (permille : Nat) (i : LineIx) (f : CountFrame) :
    ((u.countTally permille i f).line i).state = (u.line i).state := by
  unfold Works.countTally
  split
  · rw [(Works.resynced_resync u i f.counts).line, Line.resynced_eq]
  · obtain ⟨v, hv, hw⟩ := u.creditTally_tallied permille i f
    rw [hw, (v.planned_plannedCutTest i).line]
    show (v.line i).state = _
    rw [hv.line_eq]
    rfl

/-- R36: the first counts make a PRIMED line RUNNING. -/
theorem Works.takeBaselines_state (u : Works) (i : LineIx) (counts : Counts) :
    ((u.takeBaselines i counts).line i).state = .running := by
  rw [Works.takeBaselines, (Works.planned_plannedCutTest _ i).line]
  show ((u.modifyLine i _).line i).state = _
  rw [Works.line_modifyLine_self]

/-- R36, R46: the run state that a line has after the credit, resync or first baselines of a frame
that it hands on. -/
theorem State.handsOn.state {s : State} {d : StationIx} {i : LineIx} {a q : Byte} {p : List Byte}
    (h : s.expects d (.line i) a q p) {restarted : Bool} {counts : Counts} {u : Works} {pos : Nat}
    (hon : s.handsOn d i a q restarted counts u pos) : (u.line i).state =
      if (s.works.line i).state = .primed then .running else (s.works.line i).state := by
  cases hon with
  | primed _ hs hc =>
    rw [State.countsTo.works h hc, if_pos hs, Works.tally, hs]
    exact Works.takeBaselines_state _ _ _
  | behind _ h0 h1 => rw [if_neg h1]
  | counted _ h0 h1 hcase hc =>
    rw [State.countsTo.works h hc, Works.tally_eq_countTally h0 h1, Works.countTally_state, if_neg h1]

section
variable {s : State} {d : StationIx} {i : LineIx} {a q : Byte} {payload : List Byte}

/-- R122, R160: a CUT_DONE that is due, when the Cut Controller takes it. -/
theorem State.expects.exec_cutDone (h : s.expects d (.line i) a q payload)
    (hl : payload.length = 9) {w : Works}
    (hw : s.works.cutDone s.settings.slipPermille i (countFrameOf payload 1 [] false) = (w, false)) :
    exec (.cutDone a q payload) s = .next (s.afterReply d q none w) := by
  rw [exec_frame rfl]
  refine congrArg _ (h.takeFrame_works (kind := 0x13)
    (x := .cutDone (countFrameOf payload 1 [] false)) (if_pos hl) rfl ?_)
  have hw' : (s.inSequence d q).works.cutDone (s.inSequence d q).settings.slipPermille i
    (countFrameOf payload 1 [] false) = (w, false) := hw
  simp only [State.passFrame, hw']
  rfl

/-- R122, R160: a CUT_DONE that is due, when it is a protocol error of the station. -/
theorem State.expects.exec_cutDone_error (h : s.expects d (.line i) a q payload)
    (hl : payload.length = 9) {w : Works}
    (hw : s.works.cutDone s.settings.slipPermille i (countFrameOf payload 1 [] false) = (w, true)) :
    exec (.cutDone a q payload) s =
      .next (State.protocolError { s.inSequence d q with works := w } d).endTurn := by
  rw [exec_frame rfl]
  refine congrArg Host.Outcome.next ((h.takeFrame_content (kind := 0x13)
    (x := .cutDone (countFrameOf payload 1 [] false)) (if_pos hl) rfl).trans ?_)
  have hw' : (s.inSequence d q).works.cutDone (s.inSequence d q).settings.slipPermille i
    (countFrameOf payload 1 [] false) = (w, true) := hw
  simp only [State.passFrame, hw', if_true]

/-- R122: the Cut Controller takes the cut with the records handed on. -/
theorem State.handsOn.cutDone (h : s.expects d (.line i) a q payload) {u : Works} {pos : Nat}
    (hon : s.handsOn d i a q ((payload.getD 0 0).getLsbD 1) (countsAt payload 1) u pos) :
    s.works.cutDone s.settings.slipPermille i (countFrameOf payload 1 [] false) =
      u.cutCompleted i pos := by
  obtain ⟨-, hres⟩ := hon.resolve h
  have hres' : s.works.resolve s.settings.slipPermille i (countFrameOf payload 1 [] false) =
      (u, pos) := hres
  rw [Works.cutDone, hres']

/-- R160: what a protocol error of a frame that is due leaves, on top of its own records. -/
theorem State.protocolError_spec (s : State) (d : StationIx) (q : Byte) (w : Works) :
    let t := (State.protocolError { s.inSequence d q with works := w } d).endTurn
    t.works = w.raiseStation d 0x8 ∧
    t.link.stations = s.link.stations.set d (s.link.stations[d].map fun st =>
      { st.taken q with protocolErrors := min 65535 (st.protocolErrors + 1) }) ∧
    t.link.turn = none ∧ t = { s with works := t.works, link := t.link } := by
  refine ⟨rfl, ?_, (congrArg Link.turn (Link.closeRound_frame _) :), rfl⟩
  refine (Link.closeRound_eq _).1.trans ?_
  simp [State.protocolError, State.modifyStation, Link.modifyStation, State.inSequence,
    Function.comp_def, Station.taken, countUp]
  rfl

end

/-! ## The Cut Controller's answers (R122) -/

section
variable {u : Works} {i : LineIx} {c : Coil} {pos : Nat}

theorem Works.cutCompleted_error (h : (u.line i).state = .idle ∨ (u.line i).state = .starved) :
    u.cutCompleted i pos = (u, true) := by
  unfold Works.cutCompleted
  rcases h with h | h <;> simp only [h]

theorem Works.cutCompleted_ignored (h0 : (u.line i).state ≠ .idle)
    (h1 : (u.line i).state ≠ .starved) (hc : u.currentCoil? i = some c) :
    u.cutCompleted i c.start = (u.raiseLine i 0x80, false) := by
  unfold Works.cutCompleted
  cases hs : (u.line i).state with
  | idle => exact absurd hs h0
  | starved => exact absurd hs h1
  | primed | running | releasing => simp only [hs, hc, if_true]; rfl

theorem Works.cutCompleted_releasing (hs : (u.line i).state = .releasing)
    (hc : u.currentCoil? i = some c) (hp : pos ≠ c.start) :
    u.cutCompleted i pos = (u.boundary i c pos .release, false) := by
  simp only [Works.cutCompleted, hs, hc, hp, if_false]

theorem Works.cutCompleted_running (hs : (u.line i).state = .running)
    (hc : u.currentCoil? i = some c) (hp : pos ≠ c.start) :
    u.cutCompleted i pos = (if (u.line i).cut = .ordered then u.boundary i c pos .planned
      else (u.withdraw i).boundary i c pos .unplanned, false) := by
  have hno : (u.line i).cut = .noCut → u.withdraw i = u := fun h => by
    simp only [Works.withdraw, h]
  unfold Works.cutCompleted
  simp only [hs, hc, hp, if_false]
  cases hcut : (u.line i).cut with
  | noCut => rw [hno hcut]; rfl
  | ordered | held => rfl

end

end Sys2Proof.Machine
end

section
namespace Sys2Proof.Machine

/-! # A line is freed (R7, R13, R129) -/

theorem mapTable_fixed {α : Type} {n : Nat} (v : Vector (Option α) n) {f : α → α}
    (h : ∀ x, f x = x) : mapTable (Option.map f) v = v := by
  rw [show f = fun x => x from funext h, mapTable_map_id]

/-- R7: the lots once line `i` has left: a CLOSING lot that it alone ran becomes CLOSED. -/
def Works.lotsWithout (w : Works) (i : LineIx) : Vector (Option Lot) 32 :=
  mapTable (Option.map fun t =>
    if (w.line i).lot = some t.number ∧ t.state = .closing ∧
        (∀ j, (w.line j).lot = some t.number → j = i) then
      { t with state := .closed }
    else t) w.lots

/-- R7, R9: the running set of a lot is empty once the line `i` is IDLE, exactly when no other line
runs the lot. -/
theorem Works.runningSet_toIdle (w : Works) (i : LineIx) (n : Nat) :
    ((w.modifyLine i Line.toIdle).runningSet n).isEmpty = true ↔
      ∀ j, (w.line j).lot = some n → j = i := by
  rw [List.isEmpty_iff, Works.runningSet, List.filter_eq_nil_iff]
  refine ⟨fun h j hj => by_contra fun hne => ?_, fun h j _ => ?_⟩
  · refine h j (List.mem_finRange j) ?_
    rw [Works.line_modifyLine_other w i j _ hne]
    exact decide_eq_true hj
  · by_cases hj : j = i
    · rw [hj, Works.line_modifyLine_self]
      exact nofun
    · rw [Works.line_modifyLine_other w i j _ hj]
      exact fun hl => hj (h j (of_decide_eq_true hl))

theorem Works.runningSet_eq_single {w : Works} {i : LineIx} {n : Nat}
    (hi : (w.line i).lot = some n) :
    w.runningSet n = [i] ↔ ∀ j, (w.line j).lot = some n → j = i := by
  constructor
  · intro h j hj
    have hmem : j ∈ w.runningSet n :=
      List.mem_filter.2 ⟨List.mem_finRange j, decide_eq_true hj⟩
    rw [h] at hmem
    exact List.mem_singleton.1 hmem
  · intro h
    have hnd : (w.runningSet n).Nodup := (List.nodup_finRange 16).filter _
    have hmem : ∀ j, j ∈ w.runningSet n ↔ j = i := fun j => by
      rw [Works.runningSet, List.mem_filter, decide_eq_true_iff]
      exact ⟨fun hj => h j hj.2, fun hj => ⟨List.mem_finRange j, hj ▸ hi⟩⟩
    exact List.perm_singleton.1 ((List.perm_ext_iff_of_nodup hnd (List.nodup_singleton i)).2
      fun j => by rw [hmem, List.mem_singleton])

/-- R7, R13: a line that becomes IDLE. -/
theorem Works.freeLine_eq (w : Works) (i : LineIx) : w.freeLine i = { w with
    lines := (w.modifyLine i Line.toIdle).lines, lots := w.lotsWithout i } := by
  unfold Works.freeLine
  cases hn : (w.line i).lot with
  | none =>
    have hlots : w.lotsWithout i = w.lots :=
      mapTable_fixed _ fun t => if_neg fun h =>
        Option.some_ne_none _ (h.1.symm.trans hn)
    rw [hlots]
    rfl
  | some n =>
    dsimp only
    have hpick : ∀ t : Lot, (w.line i).lot = some t.number ↔ t.number = n := fun t => by
      rw [hn, Option.some_inj, eq_comm]
    by_cases he : ∀ j, (w.line j).lot = some n → j = i
    · rw [Works.closeIfEmpty, if_pos ((w.runningSet_toIdle i n).2 he)]
      have hlots : w.lotsWithout i = ((w.modifyLine i Line.toIdle).modifyLot n fun t => { t with
          state := (match t.state with | .closing => .closed | st => st) }).lots := by
        refine congrArg (fun f : Lot → Lot => mapTable (Option.map f) w.lots) (funext fun t => ?_)
        by_cases ht : t.number = n
        · rw [if_pos ht]
          have hall : ∀ j, (w.line j).lot = some t.number → j = i := ht ▸ he
          have hlot := (hpick t).2 ht
          obtain ⟨number, state, _, _, _, _, _, _, _, _⟩ := t
          cases state with
          | closing => exact if_pos ⟨hlot, rfl, hall⟩
          | opened | closed => exact if_neg fun h => nomatch h.2.1
        · rw [if_neg ht, if_neg fun h => ht ((hpick t).1 h.1)]
      rw [hlots]
      rfl
    · rw [Works.closeIfEmpty, if_neg fun h => he ((w.runningSet_toIdle i n).1 h)]
      have hlots : w.lotsWithout i = w.lots := mapTable_fixed _ fun t => if_neg fun h =>
        he (by rw [← (hpick t).1 h.1]; exact h.2.2)
      rw [hlots]
      rfl

/-- R7: what becomes of a lot when line `i` leaves. -/
theorem Works.lot?_lotsWithout {w v : Works} {i : LineIx} (h : v.lots = w.lotsWithout i) {n : Nat}
    (hi : (w.line i).lot = some n) {t : Lot} (ht : w.lot? n = some t) :
    v.lot? n = some { t with
      state := if t.state = .closing ∧ w.runningSet n = [i] then .closed else t.state } := by
  have hnum := (Works.lot?_some w n t ht).2
  have hkeep : ∀ x : Lot, (if (w.line i).lot = some x.number ∧ x.state = .closing ∧
      (∀ j, (w.line j).lot = some x.number → j = i) then { x with state := .closed } else x).number =
      x.number := fun x => by split <;> rfl
  have hlook : v.lot? n = (w.lot? n).map fun x =>
      if (w.line i).lot = some x.number ∧ x.state = .closing ∧
        (∀ j, (w.line j).lot = some x.number → j = i) then { x with state := .closed } else x := by
    simp only [Works.lot?, h, Works.lotsWithout, inUse_mapTable, List.find?_map, Function.comp_def,
      hkeep]
  rw [hlook, ht, Option.map_some]
  refine congrArg some ?_
  subst hnum
  have hsingle := Works.runningSet_eq_single hi
  by_cases hc : t.state = .closing ∧ ∀ j, (w.line j).lot = some t.number → j = i
  · rw [if_pos ⟨hi, hc⟩, if_pos ⟨hc.1, hsingle.2 hc.2⟩]
  · rw [if_neg fun h => hc h.2, if_neg fun h => hc ⟨h.1, hsingle.1 h.2⟩]

/-- R11, R129: the rope made after the cut goes to unassigned length. -/
theorem Works.leaveUnassigned_eq {w : Works} {i : LineIx} {n : Nat} (h : (w.line i).lot = some n)
    (stop : Nat) : ∃ bits, w.leaveUnassigned i stop = { w with
      lots := (w.modifyLot n fun t => { t with
        unassigned := min 281474976710655 (t.unassigned + ((w.line i).position - stop)) }).lots,
      notices := { w.notices with global := bits } } := by
  unfold Works.leaveUnassigned
  rw [h]
  dsimp only
  rw [Works.addUnassigned, Works.raiseSaturated_eq]
  exact ⟨_, rfl⟩

theorem Works.leaveUnassigned_none {w : Works} {i : LineIx} (h : (w.line i).lot = none)
    (stop : Nat) : w.leaveUnassigned i stop = w := by
  unfold Works.leaveUnassigned
  rw [h]

end Sys2Proof.Machine
end

section
namespace Sys2Proof.Machine

/-! # A coil that ends as its line is freed (R129, R132) -/

section
variable {u w : Works} {i : LineIx} {c : Coil} {stop : Nat} {kind : EndKind}
  {packer : Option PackerIx}

theorem Works.endsCoil.line (h : u.endsCoil w i c stop kind packer) :
    w.line i = (u.line i).uncoiled := Works.line_of_lines h.lines

theorem Works.endsCoil.others (h : u.endsCoil w i c stop kind packer) :
    ∀ j, j ≠ i → w.line j = u.line j := fun _ hj => Works.line_of_lines_other h.lines hj

theorem Works.endsCoil.coil (h : u.endsCoil w i c stop kind packer)
    (hc : u.coil? c.key = some c) : ∃ b, w.coil? c.key = some b ∧
      (∀ k, k ≠ c.key → w.coil? k = u.coil? k) ∧ c.endsAs b stop kind.reasons packer := by
  obtain ⟨f, hcoils, hkey, hends⟩ := h.coils
  exact ⟨f c, (Works.coil?_congr hcoils _).trans (Works.coil?_modifyCoil_self u _ f c hkey hc),
    fun k hk => (Works.coil?_congr hcoils k).trans (Works.coil?_modifyCoil_other u _ k f hkey hk),
    hends⟩

theorem Works.endsCoil.lot? (h : u.endsCoil w i c stop kind packer) (n : Nat) {t : Lot}
    (ht : u.lot? n = some t) : w.lot? n = some { t with
      coilsMade := if c.key.lot = n then t.coilsMade + 1 else t.coilsMade } := by
  rw [Works.lot?_congr h.lots, Works.lot?_modifyLot u c.key.lot n
    (fun t => { t with coilsMade := t.coilsMade + 1 }) fun _ => rfl, ht]
  refine congrArg some ?_
  obtain rfl := (Works.lot?_some u n t ht).2
  by_cases hn : c.key.lot = t.number
  · rw [if_pos hn]; exact if_pos hn.symm
  · rw [if_neg hn]; exact if_neg (Ne.symm hn)

theorem Works.endsCoil.runningSet (h : u.endsCoil w i c stop kind packer) (n : Nat) :
    w.runningSet n = u.runningSet n :=
  List.filter_congr fun j _ => by
    by_cases hj : j = i
    · rw [hj, h.line]; rfl
    · rw [h.others j hj]

end

/-- What a boundary that opens no next coil leaves of the records. -/
structure Works.freesLine (u w : Works) (i : LineIx) (c : Coil) (stop : Nat) (kind : EndKind) :
    Prop where
  line : w.line i = (u.line i).toIdle
  others : ∀ j, j ≠ i → w.line j = u.line j
  coil : u.coil? c.key = some c → ∃ b, w.coil? c.key = some b ∧
    (∀ k, k ≠ c.key → w.coil? k = u.coil? k) ∧ c.endsAs b stop kind.reasons (u.packerFor i)
  queues : w.queues = u.queuesWith c.key (u.packerFor i)
  noticesLine : w.notices.line = (u.raiseLine i 0x100).notices.line
  noticesPacker : w.notices.packer = u.notices.packer
  noticesStation : w.notices.station = u.notices.station
  held : w.held = u.held
  waitList : w.waitList = u.waitList
  lanes : w.lanes = u.lanes
  lot : ∀ n t, (u.line i).lot = some n → u.lot? n = some t → w.lot? n = some { t with
    state := if t.state = .closing ∧ u.runningSet n = [i] then .closed else t.state,
    coilsMade := if c.key.lot = n then t.coilsMade + 1 else t.coilsMade,
    unassigned := min 281474976710655 (t.unassigned + ((u.line i).position - stop)) }

/-- R11, R129, R132: the line of an ended coil is freed. -/
theorem Works.freesLine_boundary (u : Works) (i : LineIx) (c : Coil) (stop : Nat) {kind : EndKind}
    (hk : kind.opensNext = false) : u.freesLine (u.boundary i c stop kind) i c stop kind := by
  have hends := u.endsCoil_coilEnded i c stop kind
  obtain ⟨v, hv⟩ : ∃ v, u.coilEnded i c stop kind = v := ⟨_, rfl⟩
  rw [Works.boundary_eq, hk, if_neg Bool.false_ne_true]
  rw [hv] at hends ⊢
  have hvlot : (v.line i).lot = (u.line i).lot := by rw [hends.line]; rfl
  have hvpos : (v.line i).position = (u.line i).position := by rw [hends.line]; rfl
  obtain ⟨x, hx, hxline, hxcoils, hxqueues, hxnl, hxnp, hxns, hxheld, hxwait, hxlanes, hxlots⟩ :
      ∃ x, v.leaveUnassigned i stop = x ∧ x.lines = v.lines ∧ x.coils = v.coils ∧
        x.queues = v.queues ∧ x.notices.line = v.notices.line ∧
        x.notices.packer = v.notices.packer ∧ x.notices.station = v.notices.station ∧
        x.held = v.held ∧ x.waitList = v.waitList ∧ x.lanes = v.lanes ∧
        ∀ n, (v.line i).lot = some n → x.lots = (v.modifyLot n fun t => { t with
          unassigned := min 281474976710655
            (t.unassigned + ((v.line i).position - stop)) }).lots := by
    cases hn : (v.line i).lot with
    | none =>
      refine ⟨_, rfl, ?_⟩
      rw [Works.leaveUnassigned_none hn]
      exact ⟨rfl, rfl, rfl, rfl, rfl, rfl, rfl, rfl, rfl, nofun⟩
    | some n =>
      obtain ⟨bits, hw⟩ := Works.leaveUnassigned_eq hn stop
      refine ⟨_, rfl, ?_⟩
      rw [hw]
      exact ⟨rfl, rfl, rfl, rfl, rfl, rfl, rfl, rfl, rfl, fun m hm => by cases hm; rfl⟩
  rw [hx, Works.freeLine_eq]
  have hline : ∀ j, x.line j = v.line j := fun j => Works.line_congr hxline j
  have hnotices := hends.notices
  exact {
    line := by
      show (x.modifyLine i Line.toIdle).line i = _
      rw [Works.line_modifyLine_self, hline, hends.line]
      rfl
    others := fun j hj => by
      show (x.modifyLine i Line.toIdle).line j = _
      rw [Works.line_modifyLine_other _ _ _ _ hj, hline, hends.others j hj]
    coil := fun hc => by
      obtain ⟨b, hb, hothers, hb'⟩ := hends.coil hc
      exact ⟨b, (Works.coil?_congr hxcoils _).trans hb,
        fun k hk => (Works.coil?_congr hxcoils k).trans (hothers k hk), hb'⟩
    queues := hxqueues.trans hends.queues
    noticesLine := hxnl.trans (congrArg Notices.line hnotices)
    noticesPacker := hxnp.trans ((congrArg Notices.packer hnotices).trans rfl)
    noticesStation := hxns.trans ((congrArg Notices.station hnotices).trans rfl)
    held := hxheld.trans hends.held
    waitList := hxwait.trans hends.waitList
    lanes := hxlanes.trans hends.lanes
    lot := fun n t hn ht => by
      have hxlot : x.lot? n = some _ := (Works.lot?_congr (hxlots n (hvlot.trans hn)) n).trans
        (Works.lot?_modifyLot_self (fun _ => rfl) (hends.lot? n ht))
      have hrun : x.runningSet n = u.runningSet n := (List.filter_congr fun j _ => by
        rw [hline]).trans (hends.runningSet n)
      rw [Works.lot?_lotsWithout rfl (by rw [hline, hvlot]; exact hn) hxlot, hrun, hvpos] }

/-- Settles O44. -/
theorem releaseCutFreesTheLine : Obligations.ReleaseCutFreesTheLine := by
  intro s d i a q payload h hl resolved protocolError
  have error : ∀ u : Works, s.works.cutDone s.settings.slipPermille i
      (countFrameOf payload 1 [] false) = (u, true) → protocolError u := fun u hw =>
    ⟨_, h.exec_cutDone_error hl hw, s.protocolError_spec d q u⟩
  refine ⟨?_, fun u pos c hon hs hc hp => ?_, fun hs => error _ ?_, fun u pos hon hs => error _ ?_⟩
  · intro u pos c lot hon l hs hc hlot hlot' hp
    have hexec := h.exec_cutDone hl ((hon.cutDone h).trans (Works.cutCompleted_releasing hs hc hp))
    obtain ⟨-, hk⟩ := Works.currentCoil?_key hc
    have hfree := u.freesLine_boundary i c pos (kind := .release) rfl
    obtain ⟨b, hb, hothers, hends⟩ := hfree.coil hk
    refine ⟨_, b, _, hexec, hb, hothers, hends, hfree.queues, hfree.noticesLine,
      hfree.noticesPacker, hfree.noticesStation, hfree.line, hfree.others,
      hfree.lot _ _ hlot hlot', rfl, if_pos rfl, rfl, rfl, hfree.waitList, hfree.lanes, hfree.held⟩
  · have hidle : (u.line i).state ≠ .idle := by
      rw [hon.state h]
      split
      · exact nofun
      · exact (hon.resolve h).1
    rw [hp] at hon
    exact h.exec_cutDone hl ((hon.cutDone h).trans (Works.cutCompleted_ignored hidle hs hc))
  · have hres : s.works.resolve s.settings.slipPermille i (countFrameOf payload 1 [] false) =
        (s.works, 0) := by simp only [Works.resolve, hs]
    rw [Works.cutDone, hres]
    exact Works.cutCompleted_error (.inl hs)
  · rw [hon.cutDone h]
    refine Works.cutCompleted_error (.inr ?_)
    rw [hon.state h, hs]
    rfl

end Sys2Proof.Machine
end

section
namespace Sys2Proof.Machine

/-! # The next coil at a boundary (R109, R127, R128) -/

theorem lowestFree_map {α : Type} {n : Nat} (f : α → α) (v : Vector (Option α) n) :
    lowestFree (mapTable (Option.map f) v) = lowestFree v := by
  unfold lowestFree
  refine congrArg (fun p => List.find? p (List.finRange n)) (funext fun j => ?_)
  rw [mapTable_getFin, Option.isNone_map]

/-- R1: a coil in an entry that was free leaves every other key's record. -/
theorem Works.freshAt.coil?_other {u v : Works} {e : CoilIx} {b : Coil} (h : u.freshAt v.coils e b)
    (he : v.coils[e] = none) {k : CoilKey} (hk : k ≠ b.key) : u.coil? k = v.coil? k := by
  rw [← Works.coil?_removeCoil_other u b.key k hk, ← Works.coil?_removeCoil_other v b.key k hk]
  refine Works.coil?_congr (Vector.ext fun j hj => ?_) k
  show (mapTable _ u.coils)[j] = (mapTable _ v.coils)[j]
  rw [mapTable_get, mapTable_get, h.coils]
  have hset : (v.coils.set e (some b))[j] = if (⟨j, hj⟩ : CoilIx) = e then some b else v.coils[j] :=
    set_getFin v.coils e ⟨j, hj⟩ (some b)
  rw [hset]
  by_cases hje : (⟨j, hj⟩ : CoilIx) = e
  · have hnone : v.coils[j] = none := by rw [← he, ← hje]; rfl
    rw [if_pos hje, hnone]
    simp
  · rw [if_neg hje]

/-! ## Carried zones (R109) -/

/-- The coil `b'` is `b` but for its zones, reasons and grade. -/
def Coil.rezoned (b b' : Coil) : Prop := b' = { b with
  zones := b'.zones, unlisted := b'.unlisted, unlistedOpen := b'.unlistedOpen,
  reasons := b'.reasons, grade := b'.grade }

theorem Coil.rezoned.trans {a b c : Coil} (h : a.rezoned b) (h' : b.rezoned c) : a.rezoned c := by
  unfold Coil.rezoned at *
  rw [h', h]

theorem Coil.rezoned.key {b b' : Coil} (h : b.rezoned b') : b'.key = b.key := by rw [h]

/-- R109: carried zones open without a notice, so they reach the coil alone. -/
theorem Works.openZone_quiet (w : Works) (k : CoilKey) (q : Cause) (pos : Nat) (x : Int) :
    ∃ f : Coil → Coil, w.openZone k q pos x false = w.modifyCoil k f ∧ ∀ b : Coil, b.rezoned (f b) := by
  have hsame : w = w.modifyCoil k fun b => b := by
    unfold Works.modifyCoil
    rw [mapTable_fixed _ fun b => ite_self b]
  unfold Works.openZone
  cases hk : w.coil? k with
  | none => exact ⟨fun b => b, hsame, fun _ => rfl⟩
  | some c =>
    dsimp only
    cases c.hasOpen q with
    | true => exact ⟨fun b => b, hsame, fun _ => rfl⟩
    | false =>
      refine ⟨_, rfl, fun b => ?_⟩
      unfold Coil.rezoned
      rw [Coil.regraded_eq, Coil.openZone_frame]

theorem Works.openCarried_modifyCoil (k : CoilKey) (carry : List (Cause × Int)) : ∀ w : Works,
    ∃ f : Coil → Coil, w.openCarried k carry = w.modifyCoil k f ∧ ∀ b : Coil, b.rezoned (f b) := by
  induction carry with
  | nil =>
    intro w
    refine ⟨fun b => b, ?_, fun _ => rfl⟩
    unfold Works.modifyCoil
    rw [mapTable_fixed _ fun b => ite_self b]
    rfl
  | cons q carry ih =>
    intro w
    obtain ⟨f, hf, hframe⟩ := w.openZone_quiet k q.1 0 q.2
    obtain ⟨g, hg, hframe'⟩ := ih (w.openZone k q.1 0 q.2 false)
    refine ⟨fun b => g (f b), ?_, fun b => (hframe b).trans (hframe' (f b))⟩
    rw [← Works.modifyCoil_modifyCoil w k f g fun b => (hframe b).key, ← hf, ← hg]
    rfl

/-- R108 step 1: the causes of the open listed zones that go on. -/
def carriedListed (l : Line) (c : Coil) : List Cause :=
  (c.zones.filter fun z => z.stop.isNone && l.continues z.cause).map fun z => z.cause

/-- R108 step 1: the causes that go on without a listed zone. -/
def carriedRest (l : Line) (c : Coil) : List Cause :=
  [Cause.twist, .knot, .slip, .joint].filter fun q =>
    l.continues q && !(carriedListed l c).contains q

theorem carrySet_eq (l : Line) (c : Coil) : carrySet l c =
    (carriedListed l c ++ carriedRest l c).map fun q => (q, l.carriedExtreme q (c.openZone? q)) := rfl

/-- R102: each cause has one open listed zone at most. -/
theorem carriedListed_nodup {c : Coil} (h : c.zonesLawful) (l : Line) : (carriedListed l c).Nodup := by
  rw [List.nodup_iff_count_le_one]
  intro q
  rw [carriedListed, List.count, List.countP_map, List.countP_filter]
  refine le_trans (List.countP_mono_left fun z _ hz => ?_) (List.countP_eq_length_filter ▸ h.oneOpen q)
  simp only [Function.comp_apply, Bool.and_eq_true, beq_iff_eq, Option.isNone_iff_eq_none] at hz
  obtain ⟨hq, hs, -⟩ := hz
  simp [Zone.openOf, hq, hs]

/-- R108: a coil of which every cause has one open zone at most carries each cause once. -/
theorem carrySet_causes {c : Coil} (h : c.zonesLawful) (l : Line) :
    ((carrySet l c).map Prod.fst).Nodup ∧ (carrySet l c).length ≤ 5 := by
  have hfst : (carrySet l c).map Prod.fst = carriedListed l c ++ carriedRest l c := by
    rw [carrySet_eq, List.map_map]
    exact List.map_id' _
  have hnodup : (carriedListed l c ++ carriedRest l c).Nodup := by
    refine (carriedListed_nodup h l).append (List.Nodup.filter _ (by decide)) fun q hq hr => ?_
    have hno := (List.mem_filter.1 hr).2
    simp only [Bool.and_eq_true, Bool.not_eq_true', List.contains_eq_mem, decide_eq_false_iff_not]
      at hno
    exact hno.2 hq
  refine ⟨hfst ▸ hnodup, ?_⟩
  have hsub : (carriedListed l c ++ carriedRest l c) ⊆
      [Cause.twist, .knot, .slip, .joint, .operator] := fun q _ => by cases q <;> simp
  have hlen := (hnodup.subperm hsub).length_le
  rw [← hfst, List.length_map] at hlen
  exact hlen

/-! ## The coil opens (R20, R118, R127) -/

/-- R20, R118, R127: what the opening of the coil of the key `k` at `stop` leaves of `y`, with the
zones of `carry`. -/
structure Works.opensNextAs (y w : Works) (i : LineIx) (stop : Nat) (K : CoilKey)
    (carry : List (Cause × Int)) : Prop where
  line : w.line i = { y.line i with
    coil := some K, cut := (w.line i).cut,
    reserved := (w.line i).reserved, cutPoint := (w.line i).cutPoint,
    halted := (w.line i).halted }
  others : ∀ j, j ≠ i → w.line j = y.line j
  coil : ∃ n, w.coil? K = some n ∧
    (Coil.opening K i (y.line i) stop).rezoned n ∧
    ((carry.map Prod.fst).Nodup → carry.length ≤ 8 → n.zones = carry.map Zone.from0)
  otherCoils : ∀ k, k ≠ K → w.coil? k = y.coil? k
  lots : w.lots = (y.modifyLot K.lot fun t => { t with nextSequence := t.nextSequence + 1 }).lots
  waitList : w.waitList = y.waitList
  lanes : w.lanes = y.lanes
  queues : w.queues = y.queues
  notices : w.notices = y.notices
  early : (w.line i).cut = .noCut ↔
    (y.line i).position < orderPoint stop (y.line i).spec
  ordered : (w.line i).cut = .ordered → (w.line i).reserved = y.lanes[i] ∧
    (w.line i).cutPoint = stop + (y.line i).spec.target
  free : (w.line i).cut ≠ .held → w.held = y.held
  held : (w.line i).cut = .held → ∃ p, y.lanes[i] = some p ∧ (w.line i).reserved = some p ∧
    w.held = y.held.set p (y.held[p] ++ [i])

/-- R118 to R121: the cut of a line without one, after the planned-cut test. -/
theorem Works.cutTested.cut_cases {u w : Works} {i : LineIx} {c : Coil} (h : u.cutTested w i c)
    (hcut : (u.line i).cut = .noCut) :
    ((w.line i).cut = .noCut ↔ (u.line i).position < orderPoint c.start (u.line i).spec) ∧
    ((w.line i).cut = .ordered → (w.line i).reserved = u.lanes[i] ∧
      (w.line i).cutPoint = c.start + (u.line i).spec.target) ∧
    ((w.line i).cut ≠ .held → w.held = u.held) ∧
    ((w.line i).cut = .held → ∃ p, u.lanes[i] = some p ∧ (w.line i).reserved = some p ∧
      w.held = u.held.set p (u.held[p] ++ [i])) := by
  by_cases hlt : (u.line i).position < orderPoint c.start (u.line i).spec
  · rw [h.stands (.inr ⟨hcut, hlt⟩), hcut]
    exact ⟨⟨fun _ => hlt, fun _ => rfl⟩, nofun, fun _ => rfl, nofun⟩
  · by_cases hfree : ∀ p, u.lanes[i] = some p → u.placesInUse p < 6
    · have hw := h.orders hcut (not_lt.1 hlt) hfree
      have hline : w.line i = { u.line i with
          cut := .ordered, reserved := u.lanes[i], cutPoint := c.start + (u.line i).spec.target,
          halted := false } := by rw [hw]; exact Works.line_modifyLine_self u i _
      rw [hline, hw]
      exact ⟨⟨nofun, fun h' => absurd h' hlt⟩, fun _ => ⟨rfl, rfl⟩, fun _ => rfl, nofun⟩
    · obtain ⟨p, hp, h6⟩ : ∃ p, u.lanes[i] = some p ∧ 6 ≤ u.placesInUse p := by
        simpa [not_lt] using hfree
      obtain ⟨hline, hheld⟩ := h.waits hcut (not_lt.1 hlt) p hp h6
      rw [hline, hheld]
      exact ⟨⟨nofun, fun h' => absurd h' hlt⟩, nofun, fun h' => absurd rfl h',
        fun _ => ⟨p, hp, rfl, rfl⟩⟩

/-- R109, R118, R127: the next coil opens. -/
theorem Works.keyed.opensNextAs_openNext {y : Works} (h : y.keyed) {i : LineIx} {lot : Lot}
    (hl : (y.line i).lot.bind y.lot? = some lot) (hseq : lot.nextSequence < 10000) {e : CoilIx}
    (he : lowestFree y.coils = some e) (hs : (y.line i).state = .running)
    (hcut : (y.line i).cut = .noCut) (stop : Nat) (carry : List (Cause × Int)) :
    y.opensNextAs (y.openNext i stop carry) i stop ⟨lot.number, lot.nextSequence⟩ carry := by
  let K : CoilKey := ⟨lot.number, lot.nextSequence⟩
  let b0 := Coil.opening K i (y.line i) stop
  obtain ⟨y', hy'⟩ : ∃ y', y.openCoil i stop = .ok y' :=
    ⟨_, Works.openCoil_eq stop hl (not_le.2 hseq) he⟩
  have heq := Except.ok.inj (hy'.symm.trans (Works.openCoil_eq stop hl (not_le.2 hseq) he))
  have hlot : lot ∈ inUse y.lots := by
    obtain ⟨n, -, hn⟩ := Option.bind_eq_some_iff.1 hl
    exact (Works.lot?_some y n lot hn).1
  have hlines : y'.lines = (y.modifyLine i fun l => { l with coil := some K }).lines := by
    rw [heq]; rfl
  have hline' : y'.line i = { y.line i with coil := some K } := Works.line_of_lines hlines
  have hfresh : y'.freshAt y.coils e b0 :=
    ⟨by rw [heq]; rfl, fun j _ c hc => h.next_fresh hlot j c hc⟩
  have hcur : y'.currentCoil? i = some b0 := by
    rw [Works.currentCoil?, hline', ← hfresh.coil?]
    rfl
  have htest := Works.cutTested_plannedCutTest (by rw [hline']; exact hs) hcur
  obtain ⟨z, hz⟩ : ∃ z, y'.plannedCutTest i = z := ⟨_, rfl⟩
  rw [hz] at htest
  obtain ⟨b1, hcoils, hframe, -, -⟩ := hfresh.cutTested_coils rfl rfl htest rfl
    (Coil.gradeAt_plain b0 _ rfl rfl).symm
  have hkey : b1.key = K := by rw [hframe]; rfl
  have hfresh1 : z.freshAt y.coils e b1 :=
    ⟨hcoils, fun j _ c hc => by rw [hkey]; exact h.next_fresh hlot j c hc⟩
  have hzline : z.line i = { y.line i with
      coil := some K, cut := (z.line i).cut, reserved := (z.line i).reserved,
      cutPoint := (z.line i).cutPoint, halted := (z.line i).halted } := by
    refine htest.line.trans ?_
    rw [hline']
  have hw : y.openNext i stop carry = z.openCarried K carry := by
    unfold Works.openNext
    rw [hy']
    dsimp only
    rw [hz, show (z.line i).coil = some K by rw [hzline]]
  obtain ⟨f, hf, hrezoned⟩ := Works.openCarried_modifyCoil K carry z
  have hcuts := htest.cut_cases (by rw [hline']; exact hcut)
  have hlanes : y'.lanes = y.lanes := by rw [heq]; rfl
  have hheld : y'.held = y.held := by rw [heq]; rfl
  rw [hline', hlanes, hheld] at hcuts
  obtain ⟨hearly, hordered, hfree, hheldcut⟩ := hcuts
  have hself : (z.openCarried K carry).coil? K = some (f b1) := by
    rw [hf, Works.coil?_modifyCoil_self z K f b1 (fun b => (hrezoned b).key)
      (by rw [← hkey]; exact hfresh1.coil?)]
  rw [hw]
  exact {
    line := by rw [hf]; exact hzline
    others := fun j hj => by
      rw [hf]
      exact (htest.others j hj).trans (Works.line_of_lines_other hlines hj)
    coil := by
      refine ⟨f b1, hself, Coil.rezoned.trans ?_ (hrezoned b1), fun hnd hmax => ?_⟩
      · unfold Coil.rezoned
        rw [hframe]
      · have hfold := Works.freshAt.foldl_openZone carry hnd z b1 hfresh1
          ⟨by rw [hframe]; exact nofun, by rw [hframe]; rfl⟩ (by rw [hframe]; rfl) rfl
          (by rw [hframe]; exact nofun) (by
            have hz0 : b1.zones = [] := by rw [hframe]; rfl
            rw [hz0]
            show 0 + carry.length ≤ 8
            omega)
        rw [hkey] at hfold
        obtain ⟨hopened, -, -⟩ := Coil.foldl_openedAt0
          ((z.line b1.line).position - b1.start) carry b1
        have hcoil := (hfresh1.withCoil (b' := carry.foldl
          (Coil.openedAt0 ((z.line b1.line).position - b1.start)) b1) (by rw [hopened])).coil?
        have hkey2 : (carry.foldl (Coil.openedAt0 ((z.line b1.line).position - b1.start)) b1).key =
            K := by rw [hopened]; exact hkey
        rw [hkey2, ← hfold] at hcoil
        rw [Option.some.inj (hself.symm.trans hcoil), hopened, hframe]
        rfl
    otherCoils := fun k hk => by
      rw [hf, Works.coil?_modifyCoil_other z K k f (fun b => (hrezoned b).key) hk]
      exact hfresh1.coil?_other (lowestFree_spec _ _ he).1 (by rw [hkey]; exact hk)
    lots := by rw [hf]; exact htest.lots.trans (by rw [heq]; rfl)
    waitList := by rw [hf]; exact htest.waitList.trans (by rw [heq]; rfl)
    lanes := by rw [hf]; exact htest.lanes.trans hlanes
    queues := by rw [hf]; exact htest.queues.trans (by rw [heq]; rfl)
    notices := by rw [hf]; exact htest.notices.trans (by rw [heq]; rfl)
    early := by rw [hf]; exact hearly
    ordered := by rw [hf]; exact hordered
    free := by rw [hf]; exact hfree
    held := by rw [hf]; exact hheldcut }

end Sys2Proof.Machine
end

section
namespace Sys2Proof.Machine

/-! # A coil boundary of a running line (R122 to R128) -/

/-- R120, R122: a HELD wait is withdrawn, and nothing else changes. -/
structure Works.withdrawn (u x : Works) (i : LineIx) : Prop where
  line : x.line i = { u.line i with
    cut := (x.line i).cut, reserved := (x.line i).reserved, halted := (x.line i).halted }
  uncoiled : (x.line i).uncoiled = (u.line i).uncoiled
  others : ∀ j, j ≠ i → x.line j = u.line j
  packerFor : x.packerFor i = u.packerFor i
  held : x.held = u.heldWithout i
  lots : x.lots = u.lots
  coils : x.coils = u.coils
  queues : x.queues = u.queues
  waitList : x.waitList = u.waitList
  lanes : x.lanes = u.lanes
  notices : x.notices = u.notices

theorem Works.withdrawn_withdraw (u : Works) (i : LineIx) : u.withdrawn (u.withdraw i) i := by
  by_cases h : (u.line i).cut = .held ∧ (u.line i).reserved ≠ none
  · obtain ⟨hcut, hr⟩ := h
    obtain ⟨p, hp⟩ := Option.ne_none_iff_exists'.1 hr
    obtain ⟨x, hx⟩ : ∃ x, u.withdraw i = x := ⟨_, rfl⟩
    have hw : x = (u.leaveHeld p i).modifyLine i fun l =>
        { l with cut := .noCut, reserved := none, halted := false } := by
      rw [← hx]
      simp only [Works.withdraw, hcut, hp]
    have hline : x.line i = { u.line i with cut := .noCut, reserved := none, halted := false } := by
      rw [hw]; exact Works.line_modifyLine_self _ i _
    have hothers : ∀ j, j ≠ i → x.line j = u.line j := fun j hj => by
      rw [hw]; exact Works.line_modifyLine_other _ i j _ hj
    have hplaces : ∀ p, x.placesInUse p = u.placesInUse p := fun p => by
      have hres : x.reservations p = u.reservations p := List.filter_congr fun j _ => by
        by_cases hj : j = i
        · rw [hj, hline, hcut]; simp
        · rw [hothers j hj]
      rw [Works.placesInUse, hres, hw]
      rfl
    rw [hx]
    refine ⟨by rw [hline], by rw [hline]; rfl, hothers, ?_, ?_, by rw [hw]; rfl, by rw [hw]; rfl,
      by rw [hw]; rfl, by rw [hw]; rfl, by rw [hw]; rfl, by rw [hw]; rfl⟩
    · have hlanes : x.lanes = u.lanes := by rw [hw]; rfl
      rw [Works.packerFor_eq, Works.packerFor_eq, hlanes]
      simp only [Line.reservation, hline, hcut, hplaces]
    · rw [hw]
      simp only [Works.heldWithout, hcut, hp]
      rfl
  · have hw : u.withdraw i = u := by
      unfold Works.withdraw
      dsimp only
      split
      · next hcut hr => exact absurd ⟨hcut, by rw [hr]; exact Option.some_ne_none _⟩ h
      · rfl
    rw [hw]
    refine ⟨rfl, rfl, fun _ _ => rfl, rfl, ?_, rfl, rfl, rfl, rfl, rfl, rfl⟩
    unfold Works.heldWithout
    split
    · next hcut hr => exact absurd ⟨hcut, by rw [hr]; exact Option.some_ne_none _⟩ h
    · rfl

/-- R122: how a cut of a RUNNING line ends its coil. -/
def Line.cutKind (l : Line) : EndKind := if l.cut = .ordered then .planned else .unplanned

theorem Works.cutCompleted_boundary {u : Works} {i : LineIx} {c : Coil} {pos : Nat}
    (hs : (u.line i).state = .running) (hc : u.currentCoil? i = some c) (hp : pos ≠ c.start) :
    u.cutCompleted i pos = ((u.withdraw i).boundary i c pos (u.line i).cutKind, false) := by
  rw [Works.cutCompleted_running hs hc hp, Line.cutKind]
  by_cases hcut : (u.line i).cut = .ordered
  · have hw : u.withdraw i = u := by simp only [Works.withdraw, hcut]
    rw [if_pos hcut, if_pos hcut, hw]
  · rw [if_neg hcut, if_neg hcut]

/-- R5, R126: the line's own copy after the boundary. -/
def Line.amendedAs (l : Line) (lot : Lot) : Line :=
  { l with
    spec := if l.amendPending then lot.spec else l.spec,
    revision := if l.amendPending then lot.revision else l.revision, amendPending := false }

/-- R126: a pending amendment is applied at a boundary. -/
theorem Works.applyAmendment_eq {v : Works} {i : LineIx} {n : Nat} {lot : Lot}
    (hi : (v.line i).lot = some n) (hl : v.lot? n = some lot) :
    v.applyAmendment i = { v with lines := (v.modifyLine i fun l => l.amendedAs lot).lines } := by
  unfold Works.applyAmendment
  cases h : (v.line i).amendPending with
  | true =>
    rw [if_pos rfl, Works.copySpec_of_lot hi hl, Works.modifyLine_const,
      Works.modifyLine_const v i fun l => l.amendedAs lot]
    simp only [Line.amendedAs, h, if_true]
    rfl
  | false =>
    rw [if_neg Bool.false_ne_true]
    have hsame : (v.line i).amendedAs lot = v.line i := by
      rw [Line.amendedAs, h]
      simp only [Bool.false_eq_true, if_false]
      rw [← h]
    have hlines : (v.modifyLine i fun l => l.amendedAs lot).lines = v.lines := by
      show v.lines.set i ((v.line i).amendedAs lot) = _
      rw [hsame]
      exact Vector.set_getElem_self ..
    rw [hlines]

/-- R122 to R126: the records when the coil has ended, before the next one opens. -/
structure Works.cutTo (u y : Works) (i : LineIx) (c : Coil) (lot : Lot) (pos : Nat) : Prop where
  line : y.line i = (u.line i).uncoiled.amendedAs lot
  others : ∀ j, j ≠ i → y.line j = u.line j
  coil : ∃ b, y.coil? c.key = some b ∧ (∀ k, k ≠ c.key → y.coil? k = u.coil? k) ∧
    c.endsAs b pos (u.line i).cutKind.reasons (u.packerFor i)
  queues : y.queues = u.queuesWith c.key (u.packerFor i)
  notices : y.notices = (u.raiseLine i 0x100).notices
  held : y.held = u.heldWithout i
  waitList : y.waitList = u.waitList
  lanes : y.lanes = u.lanes
  lots : y.lots = (u.modifyLot c.key.lot fun t => { t with coilsMade := t.coilsMade + 1 }).lots
  keyed : u.keyed → y.keyed
  free : lowestFree y.coils = lowestFree u.coils

theorem carrySet_congr {l l' : Line} (c : Coil) (h : l' = { l with
    cut := l'.cut, reserved := l'.reserved, halted := l'.halted }) : carrySet l' c = carrySet l c := by
  have hcont : l'.continues = l.continues := funext fun q => by rw [h]; cases q <;> rfl
  have hext : l'.carriedExtreme = l.carriedExtreme := funext fun q => by rw [h]; cases q <;> rfl
  unfold carrySet
  rw [hcont, hext]

/-- R122 to R126: a boundary of a RUNNING line up to the next coil. -/
theorem Works.boundary_cutTo {u : Works} {i : LineIx} {c : Coil} {lot : Lot} (pos : Nat)
    (hc : u.currentCoil? i = some c) (hi : (u.line i).lot = some c.key.lot)
    (hl : u.lot? c.key.lot = some lot) :
    ∃ y, u.cutTo y i c lot pos ∧ (u.withdraw i).boundary i c pos (u.line i).cutKind =
      y.openNext i pos (carrySet (u.line i) c) := by
  have hx := u.withdrawn_withdraw i
  obtain ⟨x, hxeq⟩ : ∃ x, u.withdraw i = x := ⟨_, rfl⟩
  rw [hxeq] at hx ⊢
  have hends := x.endsCoil_coilEnded i c pos (u.line i).cutKind
  obtain ⟨v, hv⟩ : ∃ v, x.coilEnded i c pos (u.line i).cutKind = v := ⟨_, rfl⟩
  rw [hv, hx.packerFor] at hends
  have hopens : (u.line i).cutKind.opensNext = true := by unfold Line.cutKind; split <;> rfl
  have hvline : v.line i = (u.line i).uncoiled := by rw [hends.line, hx.uncoiled]
  have hxlot : x.lot? c.key.lot = some lot := by rw [Works.lot?_congr hx.lots, hl]
  have hxcoil : ∀ k, x.coil? k = u.coil? k := Works.coil?_congr hx.coils
  obtain ⟨lot', hvlot, hspec, hrev⟩ : ∃ lot', v.lot? c.key.lot = some lot' ∧
      lot'.spec = lot.spec ∧ lot'.revision = lot.revision := ⟨_, hends.lot? _ hxlot, rfl, rfl⟩
  have hamend := Works.applyAmendment_eq (v := v) (by rw [hvline]; exact hi) hvlot
  refine ⟨v.applyAmendment i, ?_, ?_⟩
  · rw [hamend]
    obtain ⟨-, hk⟩ := Works.currentCoil?_key hc
    obtain ⟨b, hb, hothers, hends'⟩ := hends.coil ((hxcoil _).trans hk)
    obtain ⟨f, hcoils, hkey, -⟩ := hends.coils
    have hvcoils : v.coils = mapTable (Option.map fun b => if b.key = c.key then f b else b)
        u.coils := hcoils.trans (congrArg (mapTable _) hx.coils)
    have hvlots : v.lots = (u.modifyLot c.key.lot fun t =>
        { t with coilsMade := t.coilsMade + 1 }).lots :=
      hends.lots.trans (congrArg (mapTable _) hx.lots)
    exact {
      line := by
        refine (Works.line_of_lines (u := v) (f := fun l => l.amendedAs lot') rfl).trans ?_
        rw [hvline, Line.amendedAs, hspec, hrev]
        rfl
      others := fun j hj => (Works.line_of_lines_other (u := v)
        (f := fun l => l.amendedAs lot') rfl hj).trans
        ((hends.others j hj).trans (hx.others j hj))
      coil := ⟨b, hb, fun k hk' => (hothers k hk').trans (hxcoil k), hends'⟩
      queues := hends.queues.trans (by unfold Works.queuesWith; rw [hx.queues])
      notices := hends.notices.trans (by rw [Works.raiseLine, Works.raiseLine, hx.notices])
      held := hends.held.trans hx.held
      waitList := hends.waitList.trans hx.waitList
      lanes := hends.lanes.trans hx.lanes
      lots := hvlots
      keyed := fun h => h.map _ _ hvlots hvcoils
        (fun t _ => by split <;> exact ⟨rfl, le_rfl⟩)
        fun b _ => by
          split
          · exact hkey b
          · rfl
      free := by
        show lowestFree v.coils = _
        rw [hvcoils, lowestFree_map] }
  · rw [Works.boundary_eq, hopens, if_pos rfl, hv, carrySet_congr c hx.line]

end Sys2Proof.Machine
end

section
namespace Sys2Proof.Machine

/-- R128: the line starves, and its rope goes to unassigned length. -/
structure Works.starvesAs (y w : Works) (i : LineIx) (stop n : Nat) (why : StarveReason) : Prop where
  line : w.line i = { y.line i with state := .starved, starve := some why, jointClose := none }
  others : ∀ j, j ≠ i → w.line j = y.line j
  coils : w.coils = y.coils
  lots : w.lots = (y.modifyLot n fun t => { t with
    unassigned := min 281474976710655 (t.unassigned + ((y.line i).position - stop)) }).lots
  waitList : w.waitList = if why = .noEntry then y.waitList ++ [i] else y.waitList
  queues : w.queues = y.queues
  held : w.held = y.held
  lanes : w.lanes = y.lanes
  noticesLine : w.notices.line = y.notices.line
  noticesPacker : w.notices.packer = y.notices.packer
  noticesStation : w.notices.station = y.notices.station

theorem Works.starvesAs_starve {y : Works} {i : LineIx} {n : Nat} (hn : (y.line i).lot = some n)
    (stop : Nat) (why : StarveReason) :
    y.starvesAs ((y.starve i stop why).modifyLine i fun l => { l with jointClose := none }) i stop n
      why := by
  obtain ⟨bits, hx⟩ := Works.leaveUnassigned_eq hn stop
  obtain ⟨x, hxeq⟩ : ∃ x, y.leaveUnassigned i stop = x := ⟨_, rfl⟩
  have hlines : ((x.modifyLine i fun l => { l with
        state := .starved, starve := some why }).modifyLine i fun l =>
        { l with jointClose := none }).lines = (x.modifyLine i fun l =>
        { l with state := .starved, starve := some why, jointClose := none }).lines :=
    congrArg Works.lines (Works.modifyLine_modifyLine x i _ _)
  have hw : ((y.starve i stop why).modifyLine i fun l => { l with jointClose := none }) = { x with
      lines := (x.modifyLine i fun l =>
        { l with state := .starved, starve := some why, jointClose := none }).lines,
      waitList := if why = .noEntry then x.waitList ++ [i] else x.waitList } := by
    rw [← hlines]
    unfold Works.starve
    rw [hxeq]
    cases why <;> rfl
  have hxlines : x.lines = y.lines := by rw [← hxeq, hx]
  rw [hx] at hxeq
  rw [hw]
  refine {
    line := ?_
    others := fun j hj => (Works.line_of_lines_other (u := x) (f := fun l =>
      { l with state := .starved, starve := some why, jointClose := none }) rfl hj).trans
        (Works.line_congr hxlines j)
    coils := by rw [← hxeq]
    lots := by rw [← hxeq]
    waitList := by rw [← hxeq]
    queues := by rw [← hxeq]
    held := by rw [← hxeq]
    lanes := by rw [← hxeq]
    noticesLine := by rw [← hxeq]
    noticesPacker := by rw [← hxeq]
    noticesStation := by rw [← hxeq] }
  refine (Works.line_of_lines (u := x) (f := fun l =>
    { l with state := .starved, starve := some why, jointClose := none }) rfl).trans ?_
  rw [Works.line_congr hxlines]

/-- R127, R128: with no sequence or no entry left the line starves. -/
theorem Works.openNext_starves {y : Works} {i : LineIx} {lot : Lot}
    (hl : (y.line i).lot.bind y.lot? = some lot) {why : StarveReason}
    (h : (why = .seqExhausted ∧ 10000 ≤ lot.nextSequence) ∨
      (why = .noEntry ∧ lot.nextSequence < 10000 ∧ lowestFree y.coils = none)) (stop : Nat)
    (carry : List (Cause × Int)) : y.openNext i stop carry =
      (y.starve i stop why).modifyLine i fun l => { l with jointClose := none } := by
  unfold Works.openNext
  rcases h with ⟨rfl, hs⟩ | ⟨rfl, hs, he⟩
  · rw [Works.openCoil_exhausted stop hl hs]
  · rw [Works.openCoil_full stop hl (not_le.2 hs) he]

theorem Works.modifyLot_lots_comp {u v : Works} {n : Nat} {f : Lot → Lot}
    (h : v.lots = (u.modifyLot n f).lots) (hf : ∀ t, (f t).number = t.number) (g : Lot → Lot) :
    (v.modifyLot n g).lots = (u.modifyLot n fun t => g (f t)).lots := by
  rw [← Works.modifyLot_modifyLot u n f g hf]
  show mapTable _ v.lots = mapTable _ (u.modifyLot n f).lots
  rw [h]

/-- Settles O43: the coil ends (`Works.cutTo`), and the next one opens or the line starves. -/
theorem cutMakesABoundary : Obligations.CutMakesABoundary := by
  intro s d i a q payload c lot u pos h hl hon hkeys l hs hc hlot hlot' hp sp revision continues
    listed unlisted carried withdrawn orderAt ended
  have hkeyed : u.keyed := (State.keysLawful_iff _).1 hkeys
  obtain ⟨y, hy, hboundary⟩ := Works.boundary_cutTo pos hc hlot hlot'
  have hexec := h.exec_cutDone hl ((hon.cutDone h).trans (Works.cutCompleted_boundary hs hc hp))
  rw [hboundary] at hexec
  obtain ⟨b, hb, hothers, hends⟩ := hy.coil
  have hnum := (Works.lot?_some u _ lot hlot').2
  have hylot : (y.line i).lot = some c.key.lot := by rw [hy.line]; exact hlot
  have hylot' : (y.line i).lot.bind y.lot? = some { lot with coilsMade := lot.coilsMade + 1 } := by
    rw [hylot]
    exact (Works.lot?_congr hy.lots _).trans (Works.lot?_modifyLot_self (fun _ => rfl) hlot')
  have hreasons : l.cutKind.reasons = if l.cut = .ordered then [] else [.unplannedCut] := by
    unfold Line.cutKind
    split <;> rfl
  have hended : ∀ w : Works, w.coil? c.key = some b → w.queues = y.queues →
      w.notices.line = y.notices.line → w.notices.packer = y.notices.packer →
      w.notices.station = y.notices.station → (w.line i).spec = (y.line i).spec →
      (w.line i).revision = (y.line i).revision →
      (w.line i).amendPending = (y.line i).amendPending →
      (w.line i).position = (y.line i).position → (w.line i).lot = (y.line i).lot →
      (∀ j, j ≠ i → w.line j = y.line j) → w.lanes = y.lanes → ended w := by
    intro w h1 h2 h3 h4 h5 h6 h7 h8 h9 h10 h11 h12
    rw [hy.line] at h6 h7 h8 h9 h10
    rw [hy.queues] at h2
    rw [hy.notices] at h3 h4 h5
    refine ⟨b, h1, hreasons ▸ hends, h2, h3, h4, h5, h6, h7, h8, h9, h10,
      fun j hj => (h11 j hj).trans (hy.others j hj), h12.trans hy.lanes⟩
  refine ⟨fun e hseq he => ?_, fun why hwhy => ?_⟩
  · have hnext := (hy.keyed hkeyed).opensNextAs_openNext hylot' hseq (hy.free.trans he)
      (by rw [hy.line]; exact hs) (by rw [hy.line]; rfl) pos (carrySet l c)
    obtain ⟨w, hw⟩ : ∃ w, y.openNext i pos (carrySet l c) = w := ⟨_, rfl⟩
    have hkeyeq : (⟨lot.number, lot.nextSequence⟩ : CoilKey) = ⟨c.key.lot, lot.nextSequence⟩ := by
      rw [hnum]
    rw [hw] at hnext
    have hline := hnext.line
    dsimp only at hnext
    rw [hkeyeq] at hnext
    obtain ⟨n, hn, hframe, hzones⟩ := hnext.coil
    obtain ⟨-, hk⟩ := Works.currentCoil?_key hc
    have hne : c.key ≠ ⟨c.key.lot, lot.nextSequence⟩ := by
      obtain ⟨j, hj⟩ := (mem_inUse _ _).1 (Works.coil?_some _ _ _ hk).1
      rw [← hkeyeq]
      exact hkeyed.next_fresh (Works.lot?_some _ _ _ hlot').1 j c hj
    have hline := hnext.line
    have hearly := hnext.early
    have hordered := hnext.ordered
    have hfree := hnext.free
    have hheld := hnext.held
    have hend := hended w ((hnext.otherCoils _ hne).trans hb) hnext.queues
      (by rw [hnext.notices]) (by rw [hnext.notices]) (by rw [hnext.notices]) (by rw [hline])
      (by rw [hline]) (by rw [hline]) (by rw [hline]) (by rw [hline]) hnext.others hnext.lanes
    rw [hy.line] at hline hearly hordered hframe
    rw [hy.lanes] at hordered hheld
    rw [hy.held] at hfree hheld
    rw [hw] at hexec
    refine ⟨w, n, hexec, hend, by rw [hline], by rw [hline]; exact hs, by rw [hline]; rfl, hn,
      by rw [hframe]; rfl, by rw [hframe]; rfl, by rw [hframe]; rfl, by rw [hframe]; rfl,
      by rw [hframe]; rfl, by rw [hframe]; rfl, by rw [hframe]; rfl, fun hz => ?_, ?_,
      hnext.waitList.trans hy.waitList, hearly, hordered, hfree, hheld⟩
    · obtain ⟨hnodup, hlen⟩ := carrySet_causes hz l
      rw [hzones hnodup (by omega), carrySet_eq, List.map_map]
      have hcont : l.continues = continues := funext fun q => by cases q <;> rfl
      have hlisted : carriedListed l c = listed := by rw [carriedListed, hcont]
      have hunlisted : carriedRest l c = unlisted := by rw [carriedRest, hlisted, hcont]
      rw [hlisted, hunlisted]
      exact List.map_congr_left fun q _ => by cases q <;> rfl
    · rw [hnext.lots]
      exact (Works.modifyLot_lots_comp hy.lots (fun _ => rfl) _)
  · have hstarve := Works.starvesAs_starve hylot pos why
    rw [Works.openNext_starves hylot' (by rw [hy.free]; exact hwhy)] at hexec
    obtain ⟨w, hw⟩ : ∃ w, ((y.starve i pos why).modifyLine i fun l =>
      { l with jointClose := none }) = w := ⟨_, rfl⟩
    rw [hw] at hstarve hexec
    have hline := hstarve.line
    have hend := hended w ((Works.coil?_congr hstarve.coils _).trans hb) hstarve.queues
      hstarve.noticesLine hstarve.noticesPacker hstarve.noticesStation (by rw [hline])
      (by rw [hline]) (by rw [hline]) (by rw [hline]) (by rw [hline]) hstarve.others hstarve.lanes
    have hwait := hstarve.waitList
    have hlots := hstarve.lots
    rw [hy.line] at hline hlots
    rw [hy.waitList] at hwait
    refine ⟨w, hexec, hend, by rw [hline], by rw [hline], by rw [hline]; rfl, by rw [hline]; rfl,
      by rw [hline]; rfl, by rw [hline], by rw [hline]; rfl, hstarve.held.trans hy.held, ?_, hwait⟩
    rw [hlots]
    exact (Works.modifyLot_lots_comp hy.lots (fun _ => rfl) _)

end Sys2Proof.Machine
end

section
namespace Sys2Proof.Machine

/-! # LINE_RELEASE (R130 to R132) -/

theorem Works.lines_ext {w v : Works} (h : ∀ j, w.line j = v.line j) : w.lines = v.lines :=
  Vector.ext fun j hj => h ⟨j, hj⟩

theorem Works.lotsWithout_congr {w v : Works} {i : LineIx} (hlots : v.lots = w.lots)
    (hl : ∀ j, (v.line j).lot = (w.line j).lot) : v.lotsWithout i = w.lotsWithout i := by
  unfold Works.lotsWithout
  simp only [hl, hlots]

/-- R130 to R132: the records when a line and its coil are gone. -/
def Works.emptied (u : Works) (i : LineIx) (k : CoilKey) : Works :=
  { u with
    lines := (u.modifyLine i fun _ => (u.line i).toIdle).lines, lots := u.lotsWithout i,
    coils := mapTable (fun e => e.filter fun b => decide (b.key ≠ k)) u.coils,
    held := u.heldWithout i }

/-- R23, R131: after a withdrawn wait, the line is IDLE and its coil's entry free. -/
theorem Works.withdrawn.emptied {u x : Works} {i : LineIx} (h : u.withdrawn x i) (k : CoilKey) :
    (x.removeCoil k).freeLine i = u.emptied i k := by
  have hlot : ∀ j, ((x.removeCoil k).line j).lot = (u.line j).lot := fun j => by
    show (x.line j).lot = _
    by_cases hj : j = i
    · rw [hj, h.line]
    · rw [h.others j hj]
  have hlines : ((x.removeCoil k).modifyLine i Line.toIdle).lines =
      (u.modifyLine i fun _ => (u.line i).toIdle).lines := Works.lines_ext fun j => by
    rw [Works.line_modifyLine, Works.line_modifyLine]
    by_cases hj : j = i
    · rw [if_pos hj, if_pos hj]
      show (x.line i).toIdle = _
      rw [h.line]
      rfl
    · rw [if_neg hj, if_neg hj]
      exact h.others j hj
  rw [Works.freeLine_eq, hlines, Works.lotsWithout_congr (w := u) (v := x.removeCoil k) h.lots hlot, Works.emptied,
    ← h.held, ← h.coils, ← h.waitList, ← h.lanes, ← h.queues, ← h.notices]
  rfl

/-- R24, R132: the keys stay lawful, and an entry is free. -/
theorem Works.keyed.emptied {u : Works} (h : u.keyed) (i : LineIx) (k : CoilKey) :
    (u.emptied i k).keyed := by
  have hx : (u.removeCoil k).keyed := h.removeCoil k
  exact hx.map (v := u.emptied i k) _ (fun b => b) rfl (mapTable_map_id _).symm
    (fun t _ => by split <;> exact ⟨rfl, le_rfl⟩) fun _ _ => rfl

theorem Works.emptied_free {u : Works} {i : LineIx} {c : Coil} (hc : u.coil? c.key = some c) :
    lowestFree (u.emptied i c.key).coils ≠ none := fun hnone => by
  obtain ⟨e, he⟩ := (mem_inUse _ _).1 (Works.coil?_some _ _ _ hc).1
  have hsome := lowestFree_none _ hnone e
  rw [Works.emptied] at hsome
  simp only [mapTable_getFin, he] at hsome
  simp [Option.filter] at hsome

/-- R131: what a release that frees the line and its coil hands out. -/
def Works.regranted (u : Works) (i : LineIx) (k : CoilKey) : Works :=
  match (u.line i).reservation with
  | some p => (u.emptied i k).placeFreed p
  | none => u.emptied i k

theorem Works.releaseEmpty_handedOut {u : Works} {i : LineIx} {c : Coil} (h : u.keyed)
    (hc : u.coil? c.key = some c) :
    (u.regranted i c.key).handedOut ((u.withdraw i).releaseEmpty i c.key) := by
  have hx := u.withdrawn_withdraw i
  have hw : (u.withdraw i).releaseEmpty i c.key = (u.regranted i c.key).handOut := by
    unfold Works.releaseEmpty
    dsimp only
    rw [hx.emptied c.key]
    unfold Works.regranted Line.reservation
    cases hcut : (u.line i).cut with
    | ordered =>
      have hsame : u.withdraw i = u := by simp only [Works.withdraw, hcut]
      rw [hsame, hcut]
      cases hr : (u.line i).reserved <;> rfl
    | noCut =>
      have hsame : u.withdraw i = u := by simp only [Works.withdraw, hcut]
      rw [hsame, hcut]
    | held =>
      cases hr : (u.line i).reserved with
      | none =>
        have hsame : u.withdraw i = u := by simp only [Works.withdraw, hcut, hr]
        rw [hsame, hcut]
      | some p =>
        have hline : (u.withdraw i).line i = { u.line i with
            cut := .noCut, reserved := none, halted := false } := by
          simp only [Works.withdraw, hcut, hr]
          exact Works.line_modifyLine_self _ i _
        rw [hline]
  rw [hw]
  obtain ⟨hlots, hcoils⟩ : (u.regranted i c.key).lots = (u.emptied i c.key).lots ∧
      (u.regranted i c.key).coils = (u.emptied i c.key).coils := by
    unfold Works.regranted
    split
    · next p _ =>
      obtain ⟨h1, h2, -⟩ := Works.placeFreed_frame (u.emptied i c.key) p
      exact ⟨h1, h2⟩
    · exact ⟨rfl, rfl⟩
  exact Works.handedOut_serve _ _ ((h.emptied i c.key).of_eq hlots hcoils) rfl
    (by rw [hcoils]; exact Works.emptied_free hc)

/-- R141: the head of the held list takes the place that the release frees. -/
theorem Works.regranted_cons {u : Works} {i j : LineIx} {k : CoilKey} {p : PackerIx}
    {rest : List LineIx} {b : Coil} (hcut : (u.line i).cut = .ordered)
    (hr : (u.line i).reserved = some p) (hheld : u.held[p] = j :: rest)
    (hb : u.currentCoil? j = some b) (hk : b.key ≠ k) (hj : j ≠ i) :
    u.regranted i k = { ((u.emptied i k).modifyLine j fun x =>
        { x with
          cut := .ordered, reserved := some p, cutPoint := b.start + x.spec.target,
          halted := false }) with held := u.held.set p rest } := by
  have hsame : (u.emptied i k).held = u.held := by
    show u.heldWithout i = _
    simp only [Works.heldWithout, hcut]
  have hcur : ({ u.emptied i k with held := u.held.set p rest } : Works).currentCoil? j = some b := by
    obtain ⟨hkey, hc⟩ := Works.currentCoil?_key hb
    refine Works.currentCoil?_of ?_ ?_
    · have hline : (u.emptied i k).line j = u.line j := Works.line_of_lines_other (u := u)
        (f := fun _ => (u.line i).toIdle) rfl hj
      exact (congrArg Line.coil hline).trans hkey
    · exact (Works.coil?_congr (w := u.removeCoil k) rfl b.key).trans
        ((Works.coil?_removeCoil_other u k b.key hk).trans hc)
  unfold Works.regranted Line.reservation
  rw [hcut]
  dsimp only
  rw [hr]
  dsimp only
  rw [Works.placeFreed, hsame, hheld]
  dsimp only
  rw [Works.grant, hcur]
  rfl

theorem Works.regranted_plain {u : Works} {i : LineIx} {k : CoilKey}
    (h : (u.line i).cut ≠ .ordered ∨ (u.line i).reserved = none) :
    u.regranted i k = u.emptied i k := by
  have hr : (u.line i).reservation = none := by
    unfold Line.reservation
    split
    · next hcut => exact h.resolve_left fun h => h hcut
    · rfl
    · rfl
  rw [Works.regranted, hr]

theorem Works.regranted_nil {u : Works} {i : LineIx} {k : CoilKey} {p : PackerIx}
    (hcut : (u.line i).cut = .ordered) (hr : (u.line i).reserved = some p) (hheld : u.held[p] = []) :
    u.regranted i k = u.emptied i k := by
  have hres : (u.line i).reservation = some p := by rw [Line.reservation, hcut]; exact hr
  have hsame : (u.emptied i k).held = u.held := by
    show u.heldWithout i = _
    simp only [Works.heldWithout, hcut]
  rw [Works.regranted, hres]
  exact Works.placeFreed_nil _ p (by rw [hsame]; exact hheld)

end Sys2Proof.Machine
end

section
namespace Sys2Proof.Machine

theorem exec_lineRelease {args : List Byte} {s : State} (hl : args.length = 1)
    (ht : s.takesRecordCommands) : exec (.lineRelease args) s =
      .next ((s.release 0x09 args).lineRelease (bytesAt args 0 1)) := by
  rw [exec_recordCommand rfl ht hl]

theorem exec_lineRelease_accepted {args : List Byte} {s : State} {i : LineIx} (hl : args.length = 1)
    (ht : s.takesRecordCommands) (hi : bytesAt args 0 1 = i.val)
    (hs : ¬ ((s.works.line i).state = .idle ∨
      ((s.works.line i).state = .releasing ∧ (s.works.line i).suspended = false))) :
    exec (.lineRelease args) s =
      .next { s.answered 0x09 args (.plain .ok) with works := s.works.release i } := by
  rw [exec_lineRelease hl ht, hi]
  refine congrArg _ (Eq.trans ?_ (s.release_accept 0x09 args _))
  unfold State.lineRelease
  rw [lineOf_val]
  exact if_neg hs

theorem Works.modifyLine_congr {w : Works} {i : LineIx} {f g : Line → Line}
    (h : f (w.line i) = g (w.line i)) : w.modifyLine i f = w.modifyLine i g := by
  rw [Works.modifyLine_const, h]
  rfl

section
variable {u : Works} {i : LineIx} {c : Coil}

theorem Works.withdrawn.currentCoil? {x : Works} (h : u.withdrawn x i)
    (hc : u.currentCoil? i = some c) : x.currentCoil? i = some c :=
  (Works.currentCoil?_congr (w := u) (w' := x) (by rw [h.line]) h.coils).trans hc

theorem Works.withdrawn.coilLength {x : Works} (h : u.withdrawn x i) : x.coilLength = u.coilLength :=
  Works.coilLength_congr fun j => by
    by_cases hj : j = i
    · rw [hj, h.line]
    · rw [h.others j hj]

/-- R132: the release of a suspended line with a coil. -/
theorem Works.release_suspended (hs : (u.line i).state = .running ∨ (u.line i).state = .releasing)
    (hsus : (u.line i).suspended = true) (hc : u.currentCoil? i = some c) :
    u.release i = if u.coilLength c = 0 then (u.withdraw i).releaseEmpty i c.key
      else (u.withdraw i).boundary i c (u.line i).position .suspendedRelease := by
  have hx := u.withdrawn_withdraw i
  have hrel : u.release i = u.releaseSuspended i := by
    unfold Works.release
    rcases hs with hs | hs <;> simp only [hs, hsus, if_true]
  have hpos : ((u.withdraw i).line i).position = (u.line i).position := by rw [hx.line]
  rw [hrel, Works.releaseSuspended]
  rw [hx.currentCoil? hc, hx.coilLength, hpos]

/-- R131: the release of a PRIMED line. -/
theorem Works.release_primed (hs : (u.line i).state = .primed) (hcut : (u.line i).cut ≠ .held)
    (hc : u.currentCoil? i = some c) : u.release i = (u.withdraw i).releaseEmpty i c.key := by
  obtain ⟨hkey, -⟩ := Works.currentCoil?_key hc
  have hw : u.withdraw i = u := by
    unfold Works.withdraw
    dsimp only
    split
    · next h _ => exact absurd h hcut
    · rfl
  unfold Works.release
  rw [hw]
  simp only [hs, hkey]

/-- R130: the release of a RUNNING line that is not SUSPENDED. -/
theorem Works.release_running (hs : (u.line i).state = .running)
    (hsus : (u.line i).suspended = false) : u.release i = u.releaseRunning i := by
  unfold Works.release
  simp only [hs, hsus, Bool.false_eq_true, if_false]

end

/-- Settles O14: each run state has its own release. -/
theorem lineReleaseOrdersTheCutOrFrees : Obligations.LineReleaseOrdersTheCutOrFrees := by
  refine ⟨fun args s hl ht h15 => ?_, fun args s i hl ht hi => ?_⟩
  · rw [exec_lineRelease hl ht, State.lineRelease, lineOf_none h15]
    rfl
  intro l idle lotsAfter accepted
  have haccept : ∀ {w : Works}, ¬ (l.state = .idle ∨ (l.state = .releasing ∧ l.suspended = false)) →
      s.works.release i = w → accepted w := fun hs hw =>
    hw ▸ exec_lineRelease_accepted hl ht hi hs
  have hx := s.works.withdrawn_withdraw i
  refine ⟨fun hs => ?_, fun hs hsus => ?_, fun c hkeys hc hs => ?_, fun hs => ?_,
    fun c hs hsus hc hlen => ?_⟩
  · rw [exec_lineRelease hl ht, hi, State.lineRelease, lineOf_val]
    exact congrArg _ (if_pos hs)
  · have hok : ¬ (l.state = .idle ∨ (l.state = .releasing ∧ l.suspended = false)) := by
      rw [hs]; rintro (h | ⟨h, -⟩) <;> exact nomatch h
    have hrel := Works.release_running hs hsus
    refine ⟨fun hcut => haccept hok ?_, fun hcut => haccept hok ?_, fun p hcut hr => haccept hok ?_⟩
    · have hw : s.works.withdraw i = s.works := by
        simp only [Works.withdraw, show (s.works.line i).cut = _ from hcut]
      rw [hrel, Works.releaseRunning, hw]
      refine Works.modifyLine_congr ?_
      simp only [show (s.works.line i).cut = _ from hcut]
    · have hw : s.works.withdraw i = s.works := by
        simp only [Works.withdraw, show (s.works.line i).cut = _ from hcut]
      rw [hrel, Works.releaseRunning, hw]
      refine Works.modifyLine_congr ?_
      simp only [show (s.works.line i).cut = _ from hcut]
    · have hw : s.works.withdraw i = (s.works.leaveHeld p i).modifyLine i fun l =>
          { l with cut := .noCut, reserved := none, halted := false } := by
        simp only [Works.withdraw, show (s.works.line i).cut = _ from hcut,
          show (s.works.line i).reserved = _ from hr]
      rw [hrel, Works.releaseRunning, hw, Works.modifyLine_modifyLine]
      rfl
  · intro freed
    have hkeyed : s.works.keyed := (State.keysLawful_iff _).1 hkeys
    obtain ⟨-, hk⟩ := Works.currentCoil?_key hc
    have hw : s.works.release i = (s.works.withdraw i).releaseEmpty i c.key := by
      rcases hs with ⟨hs, hcut⟩ | ⟨hs, hsus, hlen⟩
      · exact Works.release_primed hs hcut hc
      · rw [Works.release_suspended hs hsus hc, if_pos hlen]
    have hok : ¬ (l.state = .idle ∨ (l.state = .releasing ∧ l.suspended = false)) := by
      rintro (h | ⟨h, hf⟩)
      · rcases hs with ⟨hs, -⟩ | ⟨hs | hs, -⟩ <;> exact nomatch h.symm.trans hs
      · rcases hs with ⟨hs, -⟩ | ⟨-, hsus, -⟩
        · exact nomatch h.symm.trans hs
        · exact nomatch hf.symm.trans hsus
    exact ⟨_, _, haccept hok hw, Works.releaseEmpty_handedOut hkeyed hk,
      fun h => Works.regranted_plain h, fun p hcut hr hheld => Works.regranted_nil hcut hr hheld,
      fun p j rest b hcut hr hheld hb hne hj => Works.regranted_cons hcut hr hheld hb hne hj⟩
  · have hok : ¬ (l.state = .idle ∨ (l.state = .releasing ∧ l.suspended = false)) := by
      rw [hs]; rintro (h | ⟨h, -⟩) <;> exact nomatch h
    refine haccept hok ?_
    have hrel : s.works.release i = s.works.releaseStarved i := by
      simp only [Works.release, show (s.works.line i).state = _ from hs]
    rw [hrel, Works.releaseStarved, Works.freeLine_eq]
    rfl
  · have hok : ¬ (l.state = .idle ∨ (l.state = .releasing ∧ l.suspended = false)) := by
      rintro (h | ⟨h, hf⟩)
      · rcases hs with hs | hs <;> exact nomatch h.symm.trans hs
      · exact nomatch hf.symm.trans hsus
    have hrel := Works.release_suspended hs hsus hc
    rw [if_neg (Nat.pos_iff_ne_zero.1 hlen)] at hrel
    obtain ⟨-, hk⟩ := Works.currentCoil?_key hc
    obtain ⟨x, hxeq⟩ : ∃ x, s.works.withdraw i = x := ⟨_, rfl⟩
    rw [hxeq] at hx hrel
    have hfree := x.freesLine_boundary i c l.position (kind := .suspendedRelease) rfl
    obtain ⟨w, hw⟩ : ∃ w, x.boundary i c l.position .suspendedRelease = w := ⟨_, rfl⟩
    rw [hw] at hfree
    have hxcoil : ∀ k, x.coil? k = s.works.coil? k := Works.coil?_congr hx.coils
    have hrun : ∀ n, x.runningSet n = s.works.runningSet n := fun n =>
      List.filter_congr fun j _ => by
        by_cases hj : j = i
        · rw [hj, hx.line]
        · rw [hx.others j hj]
    obtain ⟨b, hb, hothers, hends⟩ := hfree.coil ((hxcoil _).trans hk)
    rw [hx.packerFor] at hends
    refine ⟨w, b, haccept hok (hrel.trans hw), hb, fun k hk' => (hothers k hk').trans (hxcoil k),
      hends, hfree.queues.trans ?_, hfree.held.trans hx.held, ?_, fun n t hn ht => ?_,
      fun j hj => (hfree.others j hj).trans (hx.others j hj), hfree.waitList.trans hx.waitList,
      hfree.lanes.trans hx.lanes, hfree.noticesLine.trans ?_,
      hfree.noticesPacker.trans (by rw [hx.notices]), hfree.noticesStation.trans (by rw [hx.notices])⟩
    · rw [hx.packerFor]
      unfold Works.queuesWith
      rw [hx.queues]
    · rw [hfree.line, hx.line]
      rfl
    · have hlot := hfree.lot n t (by rw [hx.line]; exact hn) ((Works.lot?_congr hx.lots n).trans ht)
      have hpos : (x.line i).position = l.position := by rw [hx.line]
      refine ⟨_, hlot, by rw [hrun], rfl, rfl, rfl, fun he => if_pos he, fun hle => ?_⟩
      rw [hpos, Nat.sub_self]
      exact min_eq_right hle
    · rw [Works.raiseLine, hx.notices]
      rfl

end Sys2Proof.Machine
end

section
namespace Sys2Proof.Machine

/-! # The settings image (R172, R173) -/

/-! ## Stations placed in entry order -/

theorem find?_finRange_some {n : Nat} {p : Fin n → Bool} {i : Fin n}
    (h : (List.finRange n).find? p = some i) : p i = true ∧ ∀ j < i, p j = false := by
  have hfree : lowestFree (tableOf fun j => if p j then none else some ()) = some i := by
    rw [← h]
    unfold lowestFree
    refine congrArg (fun q => List.find? q (List.finRange n)) (funext fun j => ?_)
    rw [tableOf_get]
    cases p j <;> rfl
  obtain ⟨-, hbefore⟩ := lowestFree_spec _ i hfree
  refine ⟨List.find?_some h, fun j hj => Bool.eq_false_iff.2 fun hp => ?_⟩
  have := hbefore j hj
  rw [tableOf_get, hp] at this
  exact absurd this (by decide)

theorem find?_finRange {n : Nat} {p : Fin n → Bool} {i : Fin n} (hi : p i = true)
    (hlt : ∀ j < i, p j = false) : (List.finRange n).find? p = some i := by
  cases h : (List.finRange n).find? p with
  | none => exact absurd hi (List.find?_eq_none.1 h i (List.mem_finRange i))
  | some k =>
    obtain ⟨hk, hbefore⟩ := find?_finRange_some h
    rcases lt_trichotomy k i with hki | rfl | hik
    · exact absurd hk (by rw [hlt k hki]; decide)
    · rfl
    · exact absurd hi (by rw [hbefore i hik]; decide)

theorem placeStation_get (acc : Vector (Option Station) 30) (a : Nat) (role : Role) (level : Level)
    (d : StationIx) : (placeStation acc a role level)[d] =
      acc[d].or (if a = d.val + 1 then some (Station.start role level) else none) := by
  unfold placeStation
  by_cases ha : 1 ≤ a ∧ a ≤ 30
  · obtain ⟨e, hs, he⟩ : ∃ e, stationOf a = some e ∧ e.val + 1 = a :=
      ⟨⟨a - 1, by omega⟩, dif_pos ha, Nat.sub_add_cancel ha.1⟩
    rw [hs, ← he]
    dsimp only
    by_cases hd : e = d
    · subst hd
      rw [if_pos rfl]
      cases hc : acc[e] with
      | none => rw [if_neg (by simp), set_getFin, if_pos rfl]; rfl
      | some st => rw [if_pos (by simp), hc]; rfl
    · have hne : e.val + 1 ≠ d.val + 1 := fun h => hd (Fin.ext (Nat.succ.inj h))
      rw [if_neg hne, Option.or_none]
      split
      · rfl
      · rw [set_getFin, if_neg (Ne.symm hd)]
  · have hs : stationOf a = none := dif_neg ha
    have hd : a ≠ d.val + 1 := fun h => ha (by have := d.isLt; omega)
    rw [hs, if_neg hd, Option.or_none]

/-- R173: the first entry at an address places its station. -/
theorem foldl_placeStation {β : Type} (on : β → Bool) (addr : β → Nat) (role : β → Role)
    (level : β → Level) (d : StationIx) (xs : List β) : ∀ acc : Vector (Option Station) 30,
    (xs.foldl (fun acc x =>
      if on x then placeStation acc (addr x) (role x) (level x) else acc) acc)[d] =
      acc[d].or ((xs.find? fun x => on x && decide (addr x = d.val + 1)).map fun x =>
        Station.start (role x) (level x)) := by
  induction xs with
  | nil => intro acc; simp
  | cons x xs ih =>
    intro acc
    rw [List.foldl_cons, ih]
    cases hon : on x with
    | false => simp [hon]
    | true =>
      rw [if_pos rfl, placeStation_get]
      by_cases ha : addr x = d.val + 1
      · simp [hon, ha]
      · simp [hon, ha]

/-- R173: the line entry that places the station of an address. -/
def Image.lineAt (img : Image) (d : StationIx) : Option LineIx :=
  (List.finRange 16).find? fun i =>
    decide (img.lines[i].kind ≠ .unused) && decide (img.lines[i].address = d.val + 1)

/-- R173: the packer entry that places the station of an address, if no line has it. -/
def Image.packerAt (img : Image) (d : StationIx) : Option PackerIx :=
  (List.finRange 8).find? fun p => decide (img.packers[p].address = d.val + 1)

theorem Image.stations_get (img : Image) (d : StationIx) : img.stations[d] =
    ((img.lineAt d).map fun i => Station.start (.line i) img.lines[i].level).or
      ((img.packerAt d).map fun p => Station.start (.packer p) img.packers[p].level) := by
  have hlines := foldl_placeStation (fun i : LineIx => decide (img.lines[i].kind ≠ .unused))
    (fun i => img.lines[i].address) .line (fun i => img.lines[i].level) d (List.finRange 16)
    (Vector.replicate 30 none)
  have hpackers := foldl_placeStation (fun _ : PackerIx => true)
    (fun p => img.packers[p].address) .packer (fun p => img.packers[p].level) d (List.finRange 8)
  unfold Image.stations
  simp only [if_true, Bool.true_and] at hpackers
  rw [hpackers]
  refine congrArg (fun x => Option.or x _) ?_
  refine Eq.trans (congrArg (fun v : Vector (Option Station) 30 => v[d]) ?_)
    (hlines.trans (by rw [replicate_getFin]; rfl))
  refine List.foldl_ext _ _ _ fun acc i _ => ?_
  simp

/-- R173: whether a line's entry is the first of a line at its address. -/
def Image.lineFirst (img : Image) (i : LineIx) : Prop :=
  img.lines[i].kind ≠ .unused ∧
    ∀ j < i, img.lines[j].kind ≠ .unused → img.lines[j].address ≠ img.lines[i].address

/-- R173: whether a packer's entry is the first at its address. -/
def Image.packerFirst (img : Image) (p : PackerIx) : Prop :=
  (∀ i : LineIx, img.lines[i].kind ≠ .unused → img.lines[i].address ≠ img.packers[p].address) ∧
    ∀ q < p, img.packers[q].address ≠ img.packers[p].address

section
variable {img : Image} {i : LineIx} {p : PackerIx} {d : StationIx}

theorem Image.lineAt_eq_some : img.lineAt d = some i ↔
    img.lineFirst i ∧ img.lines[i].address = d.val + 1 := by
  constructor
  · intro h
    obtain ⟨hi, hbefore⟩ := find?_finRange_some h
    simp only [Bool.and_eq_true, decide_eq_true_eq] at hi
    refine ⟨⟨hi.1, fun j hj hk ha => ?_⟩, hi.2⟩
    have := hbefore j hj
    rw [ha, hi.2] at this
    simp [-Fin.getElem_fin, hk] at this
  · rintro ⟨⟨hk, hfirst⟩, ha⟩
    refine find?_finRange (by simp [-Fin.getElem_fin, hk, ha]) fun j hj => ?_
    by_cases hj' : img.lines[j].kind = .unused
    · simp [-Fin.getElem_fin, hj']
    · have hne := hfirst j hj hj'
      rw [ha] at hne
      simp [-Fin.getElem_fin, hne]

theorem Image.lineAt_eq_none : img.lineAt d = none ↔
    ∀ i : LineIx, img.lines[i].kind ≠ .unused → img.lines[i].address ≠ d.val + 1 := by
  unfold Image.lineAt
  simp only [List.find?_eq_none, List.mem_finRange, true_implies, Bool.and_eq_true,
    decide_eq_true_eq, not_and, ne_eq]

theorem Image.packerAt_eq_some : img.packerAt d = some p ↔
    (∀ q < p, img.packers[q].address ≠ img.packers[p].address) ∧
      img.packers[p].address = d.val + 1 := by
  constructor
  · intro h
    obtain ⟨hp, hbefore⟩ := find?_finRange_some h
    have hp' := of_decide_eq_true hp
    refine ⟨fun q hq ha => ?_, hp'⟩
    exact of_decide_eq_false (hbefore q hq) (ha.trans hp')
  · rintro ⟨hfirst, ha⟩
    exact find?_finRange (decide_eq_true ha) fun q hq => decide_eq_false (ha ▸ hfirst q hq)

/-- R173: the station of a line whose entry is the first at its address. -/
theorem Image.stations_line (h : img.lineFirst i) (ha : img.lines[i].address = d.val + 1) :
    img.stations[d] = some (Station.start (.line i) img.lines[i].level) := by
  rw [Image.stations_get, Image.lineAt_eq_some.2 ⟨h, ha⟩]
  rfl

/-- R173: the station of a packer whose entry is the first at its address. -/
theorem Image.stations_packer (h : img.packerFirst p) (ha : img.packers[p].address = d.val + 1) :
    img.stations[d] = some (Station.start (.packer p) img.packers[p].level) := by
  have hno : img.lineAt d = none := Image.lineAt_eq_none.2 fun i hk => ha ▸ h.1 i hk
  rw [Image.stations_get, hno, Image.packerAt_eq_some.2 ⟨h.2, ha⟩]
  rfl

/-- R173: an address that no entry places has no station. -/
theorem Image.stations_none (hl : ∀ i : LineIx, img.lineFirst i → img.lines[i].address ≠ d.val + 1)
    (hp : ∀ p : PackerIx, img.packerFirst p → img.packers[p].address ≠ d.val + 1) : img.stations[d] = none := by
  have hline : img.lineAt d = none := by
    cases h : img.lineAt d with
    | none => rfl
    | some i =>
      obtain ⟨hfirst, ha⟩ := Image.lineAt_eq_some.1 h
      exact absurd ha (hl i hfirst)
  have hpacker : img.packerAt d = none := by
    cases h : img.packerAt d with
    | none => rfl
    | some p =>
      obtain ⟨hfirst, ha⟩ := Image.packerAt_eq_some.1 h
      have hfree : ∀ i : LineIx, img.lines[i].kind ≠ .unused →
          img.lines[i].address ≠ img.packers[p].address := by
        rw [ha]
        exact Image.lineAt_eq_none.1 hline
      exact absurd ha (hp p ⟨hfree, hfirst⟩)
  rw [Image.stations_get, hline, hpacker]
  rfl

/-- R173: a line is placed exactly when its entry is the first at its address. -/
theorem Image.linePlaced_iff (h1 : 1 ≤ img.lines[i].address) (h30 : img.lines[i].address ≤ 30) :
    img.linePlaced i = true ↔ img.lineFirst i := by
  obtain ⟨d, hd, ha⟩ : ∃ d, stationOf img.lines[i].address = some d ∧
      img.lines[i].address = d.val + 1 :=
    ⟨⟨img.lines[i].address - 1, by omega⟩, dif_pos ⟨h1, h30⟩, (Nat.sub_add_cancel h1).symm⟩
  unfold Image.linePlaced
  rw [hd]
  dsimp only
  constructor
  · intro h
    rw [Image.stations_get] at h
    cases hl : img.lineAt d with
    | none =>
      rw [hl] at h
      cases hp : img.packerAt d <;> simp [hp, Station.start] at h
    | some j =>
      rw [hl] at h
      have hj : j = i := by simpa [Station.start] using h
      exact hj ▸ (Image.lineAt_eq_some.1 hl).1
  · intro h
    rw [Image.stations_line h ha]
    simp [Station.start]

end

end Sys2Proof.Machine
end

section
namespace Sys2Proof.Machine

/-! ## The records as loaded (R33, R174) -/

theorem bytesAt_one_le (bs : List Byte) (at0 : Nat) : bytesAt bs at0 1 ≤ 255 :=
  Nat.le_of_lt_succ (bytesAt_lt bs at0 1)

theorem Works.raiseLine_get (w : Works) (i j : LineIx) (bits : Half) :
    (w.raiseLine j bits).notices.line[i] =
      if i = j then w.notices.line[i] ||| bits else w.notices.line[i] := by
  show (w.notices.line.set j (w.notices.line[j] ||| bits))[i] = _
  rw [set_getFin]
  by_cases h : i = j
  · rw [if_pos h, if_pos h, h]
  · rw [if_neg h, if_neg h]

/-- R33: the notices that a load raises. -/
theorem Works.raiseLoad_notices (w : Works) (rejected : Bool) (is : List LineIx) :
    (w.raiseLoad rejected is).notices.global =
      (if rejected then w.notices.global ||| 0x1 else w.notices.global) ∧
    (w.raiseLoad rejected is).notices.packer = w.notices.packer ∧
    (w.raiseLoad rejected is).notices.station = w.notices.station ∧
    ∀ i, (w.raiseLoad rejected is).notices.line[i] =
      if i ∈ is then w.notices.line[i] ||| 0x200 else w.notices.line[i] := by
  have hfold : ∀ (is : List LineIx) (v : Works),
      let u := is.foldl (fun w i => w.raiseLine i Bit.wheelsDefaulted) v
      u.notices.global = v.notices.global ∧ u.notices.packer = v.notices.packer ∧
      u.notices.station = v.notices.station ∧ ∀ i, u.notices.line[i] =
        if i ∈ is then v.notices.line[i] ||| 0x200 else v.notices.line[i] := by
    intro is
    induction is with
    | nil => exact fun v => ⟨rfl, rfl, rfl, fun _ => rfl⟩
    | cons j is ih =>
      intro v
      obtain ⟨hg, hp, hs, hl⟩ := ih (v.raiseLine j Bit.wheelsDefaulted)
      refine ⟨hg, hp, hs, fun i => (hl i).trans ?_⟩
      have hbit : Bit.wheelsDefaulted = 0x200 := rfl
      rw [Works.raiseLine_get, hbit]
      by_cases hij : i = j
      · by_cases hi : i ∈ is <;> simp [hij, BitVec.or_assoc]
      · by_cases hi : i ∈ is <;> simp [hij, hi]
  cases rejected with
  | false => exact hfold is w
  | true => exact hfold is (w.raiseGlobal Bit.loadErr)

theorem Image.mem_conflicts (img : Image) (i : LineIx) : i ∈ img.conflicts ↔
    pairConflicts (img.lineKind i) img.lines[i].measure img.lines[i].check = true := by
  simp [Image.conflicts]

/-- R173, R174: what a load leaves of the part. -/
structure State.loadedAs (s t : State) (img : Image) (rejected : Bool) : Prop where
  frame : t = { s with
    partState := if s.supplyOk then .ready else .hold, resumeTimer := none,
    settings := t.settings,
    works := { s.works with
      lines := t.works.lines, lanes := t.works.lanes, notices := t.works.notices },
    link := { Link.reset with stations := t.link.stations, lastPoll := s.link.lastPoll },
    port := { s.port with
      result := { status := .ok, aux := 0, fields := [], firstField := 0, mode := .run32 },
      store := none, storeOutcomeWanted := false } }
  settings : t.settings = img.settings
  stations : t.link.stations = img.stations
  lanes : t.works.lanes = img.lanes
  line : ∀ i, t.works.line i = img.lineRecord i
  global : t.works.notices.global =
    if rejected then s.works.notices.global ||| 0x1 else s.works.notices.global
  packer : t.works.notices.packer = s.works.notices.packer
  station : t.works.notices.station = s.works.notices.station
  lineNotices : ∀ i, t.works.notices.line[i] =
    if pairConflicts (img.lineKind i) img.lines[i].measure img.lines[i].check = true then
      s.works.notices.line[i] ||| 0x200 else s.works.notices.line[i]

theorem State.loadedAs_loaded (s : State) (img : Image) (rejected : Bool) :
    s.loadedAs (s.loaded img rejected) img rejected := by
  let w : Works := { s.works with lines := tableOf img.lineRecord, lanes := img.lanes }
  have hframe : w.raiseLoad rejected img.conflicts =
      { w with notices := (w.raiseLoad rejected img.conflicts).notices } := by
    obtain ⟨h1, h2, h3, h4, h5, h6, h7⟩ := w.raiseLoad_frame rejected img.conflicts
    rw [← h1, ← h2, ← h3, ← h4, ← h5, ← h6, ← h7]
  obtain ⟨hg, hp, hs, hl⟩ := w.raiseLoad_notices rejected img.conflicts
  obtain ⟨ns, hns⟩ : ∃ ns, (w.raiseLoad rejected img.conflicts).notices = ns := ⟨_, rfl⟩
  rw [hns] at hframe hg hp hs hl
  have ht : s.loaded img rejected = { s with
      settings := img.settings, works := { w with notices := ns },
      link := { Link.reset with stations := img.stations, lastPoll := s.link.lastPoll },
      partState := if s.supplyOk then .ready else .hold, resumeTimer := none,
      port := { s.port with result := .plain .ok, store := none, storeOutcomeWanted := false } } := by
    rw [← hframe]
    rfl
  rw [ht]
  refine ⟨rfl, rfl, rfl, rfl, fun i => tableOf_get img.lineRecord i, hg, hp, hs, fun i => ?_⟩
  exact (hl i).trans (if_congr (img.mem_conflicts i) rfl rfl)

end Sys2Proof.Machine
end

section
namespace Sys2Proof.Machine

/-! ## An accepted image, value by value (R173) -/

theorem clamp_byte (lo : Nat) {n : Nat} (h : n ≤ 255) : clamp lo 255 n = max lo n := by
  rw [clamp, min_eq_right h]

theorem clamp_half (lo : Nat) {n : Nat} (h : n ≤ 65535) : clamp lo 65535 n = max lo n := by
  rw [clamp, min_eq_right h]

theorem clamp_zero (hi n : Nat) : clamp 0 hi n = min hi n := Nat.zero_max _

theorem kindOf_eq (n : Nat) :
    kindOf n = if n = 0 then .unused else if n = 1 then .twist else .knot := by
  unfold kindOf
  split
  · rfl
  · rfl
  · next h0 h1 => rw [if_neg h0, if_neg h1]

theorem kindOf_used (n : Nat) : kindOf n ≠ .unused ↔ n ≠ 0 := by
  rw [kindOf_eq]
  by_cases h0 : n = 0
  · simp [h0]
  · by_cases h1 : n = 1 <;> simp [h0, h1]

theorem measureOf_eq (n : Nat) : measureOf n =
    if n ≤ 1 then .wheelA else if n = 2 then .wheelB else .rows := by
  match n with
  | 0 | 1 | 2 => rfl
  | n + 3 => rw [if_neg (by omega), if_neg (by omega)]; rfl

theorem checkOf_eq (n : Nat) : checkOf n =
    if n = 0 then .off else if n = 1 then .wheelA else .wheelB := by
  unfold checkOf
  split
  · rfl
  · rfl
  · next h0 h1 => rw [if_neg h0, if_neg h1]

theorem pairConflicts_iff {kind : LineKind} (h : kind ≠ .unused) (m : MeasureSource)
    (c : CheckSource) : pairConflicts kind m c = true ↔ (kind = .knot ∧ m ≠ .rows) ∨
      (kind = .twist ∧ (m = .rows ∨ (m = .wheelA ∧ c = .wheelA) ∨ (m = .wheelB ∧ c = .wheelB))) := by
  cases kind with
  | unused => exact absurd rfl h
  | twist => simp [pairConflicts, or_assoc]
  | knot => simp [pairConflicts]

theorem settingsOf_eq (img : List Byte) : settingsOf img =
    { linkRate := min 3 (bytesAt img 179 1), replyTimeout := max 1 (bytesAt img 180 1),
      retryLimit := min 3 (bytesAt img 181 1), isolationThreshold := min 15 (bytesAt img 182 1),
      roundPeriod := max 1 (bytesAt img 183 1),
      slipPermille := max 5 (min 500 (bytesAt img 184 2)),
      tableLow := min 95 (bytesAt img 186 1), enables := BitVec.ofNat 32 (bytesAt img 187 4),
      writeOneClears := decide (bytesAt img 191 1 ≠ 0), lampCondition := min 5 (bytesAt img 192 1),
      lampActiveHigh := decide (bytesAt img 193 1 ≠ 0) } := by
  have hset : ∀ n, decide (1 ≤ n) = decide (n ≠ 0) := fun n =>
    decide_eq_decide.2 Nat.one_le_iff_ne_zero
  unfold settingsOf
  rw [clamp_zero, clamp_byte _ (bytesAt_one_le img 180), clamp_zero, clamp_zero,
    clamp_byte _ (bytesAt_one_le img 183), clamp_zero, clamp_zero, hset, hset]
  rfl

theorem imageOf_line (img : List Byte) (i : LineIx) : (imageOf img).lines[i] = lineEntryOf img i :=
  tableOf_get _ i

theorem imageOf_packer (img : List Byte) (p : PackerIx) :
    (imageOf img).packers[p] = packerEntryOf img p := tableOf_get _ p

/-- R173: the entry of a line, in the words of table 10.2. -/
theorem lineEntryOf_eq (img : List Byte) (i : LineIx) : lineEntryOf img i =
    { kind := kindOf (bytesAt img (3 + 9 * i.val) 1),
      address := max 1 (min 30 (bytesAt img (3 + 9 * i.val + 1) 1)),
      level := levelOf (bytesAt img (3 + 9 * i.val + 2) 1),
      wheelA := max 100 (bytesAt img (3 + 9 * i.val + 3) 2),
      wheelB := max 100 (bytesAt img (3 + 9 * i.val + 5) 2),
      measure := measureOf (bytesAt img (3 + 9 * i.val + 7) 1),
      check := checkOf (bytesAt img (3 + 9 * i.val + 8) 1) } := by
  unfold lineEntryOf
  dsimp only
  rw [clamp_half _ (bytesAt_two_le img _), clamp_half _ (bytesAt_two_le img _)]
  rfl

/-- R173: a line record as the load of an image leaves it. -/
theorem Image.lineRecord_eq (img : Image) (i : LineIx) : img.lineRecord i = { Line.reset with
    kind := img.lineKind i, address := img.lines[i].address, wheelA := img.lines[i].wheelA,
    wheelB := img.lines[i].wheelB,
    measure := (judgedPair (img.lineKind i) img.lines[i].measure img.lines[i].check).1,
    check := (judgedPair (img.lineKind i) img.lines[i].measure img.lines[i].check).2 } := rfl

theorem judgedPair_conflict {kind : LineKind} {m : MeasureSource} {c : CheckSource}
    (h : pairConflicts kind m c = true) (hk : kind ≠ .unused) : judgedPair kind m c =
      (if kind = .knot then .rows else .wheelA, if kind = .knot then .off else .wheelB) := by
  rw [judgedPair, if_pos h]
  cases kind with
  | unused => exact absurd rfl hk
  | twist | knot => rfl

theorem judgedPair_plain {kind : LineKind} {m : MeasureSource} {c : CheckSource}
    (h : pairConflicts kind m c = false) : judgedPair kind m c = (m, c) := by
  rw [judgedPair, h]
  rfl

/-! ## The defaults image (R172) -/

theorem defaults_line (i : LineIx) : Image.defaults.lines[i] =
    { kind := .twist, address := i.val + 1, level := .one, wheelA := 1000, wheelB := 1000,
      measure := .wheelA, check := .off } := tableOf_get _ i

theorem defaults_packer (p : PackerIx) :
    Image.defaults.packers[p] = { address := 17 + p.val, level := .two } := tableOf_get _ p

theorem defaults_lineFirst (i : LineIx) : Image.defaults.lineFirst i := by
  refine ⟨by rw [defaults_line]; exact nofun, fun j hj _ h => ?_⟩
  rw [defaults_line, defaults_line] at h
  exact absurd (Fin.ext (Nat.succ.inj h)) (ne_of_lt hj)

theorem defaults_packerFirst (p : PackerIx) : Image.defaults.packerFirst p := by
  refine ⟨fun i _ h => ?_, fun q hq h => ?_⟩
  · rw [defaults_line, defaults_packer] at h
    have := i.isLt
    exact absurd (show i.val + 1 = 17 + p.val from h) (by omega)
  · rw [defaults_packer, defaults_packer] at h
    have := Fin.lt_def.1 hq
    exact absurd (show 17 + q.val = 17 + p.val from h) (by omega)

theorem defaults_lineKind (i : LineIx) : Image.defaults.lineKind i = .twist := by
  have hplaced := (Image.linePlaced_iff (img := Image.defaults) (i := i)
    (by rw [defaults_line]; exact Nat.le_add_left 1 _)
    (by rw [defaults_line]; have := i.isLt; show i.val + 1 ≤ 30; omega)).2 (defaults_lineFirst i)
  rw [Image.lineKind, if_pos hplaced, defaults_line]

/-- Settles O30: the good image is placed entry by entry, and any other gives the defaults. -/
theorem loadTakesTheImageOrTheDefaults : Obligations.LoadTakesTheImageOrTheDefaults := by
  intro ack s hs img good byte lineAddress linePlaced packerAddress packerPlaced level
  have hexec : exec (.loadComplete ack) s =
      .next (s.loaded (judgeImage ack s.eeprom).1 (judgeImage ack s.eeprom).2) := by
    show Host.Outcome.next (s.completeLoad ack) = _
    rw [State.completeLoad, hs]
  have hgood : good ↔ (ack && imageGood (imageBytes s.eeprom)) = true := by
    simp only [imageGood, Bool.and_eq_true, decide_eq_true_eq, and_assoc]
    rfl
  by_cases hg : good
  · have hj : judgeImage ack s.eeprom = (imageOf img, false) := if_pos (hgood.1 hg)
    rw [hj] at hexec
    have hl := s.loadedAs_loaded (imageOf img) false
    obtain ⟨t, ht⟩ : ∃ t, s.loaded (imageOf img) false = t := ⟨_, rfl⟩
    replace hexec : exec (.loadComplete ack) s = .next t := hexec.trans (congrArg _ ht)
    rw [ht] at hl
    refine ⟨t, hexec, hl.frame, hl.packer, hl.station, fun _ => ?_, fun h => absurd hg h⟩
    have hentry : ∀ i : LineIx, (imageOf img).lines[i] = _ := fun i =>
      (imageOf_line img i).trans (lineEntryOf_eq img i)
    have hpacker : ∀ p : PackerIx, (imageOf img).packers[p] =
        { address := packerAddress p, level := level (148 + 2 * p.val) } := fun p =>
      (imageOf_packer img p).trans (by rw [packerEntryOf, clamp_zero]; rfl)
    have hused : ∀ i : LineIx, (imageOf img).lines[i].kind ≠ .unused ↔ byte (3 + 9 * i.val) ≠ 0 :=
      fun i => by rw [hentry]; exact kindOf_used _
    have haddr : ∀ i : LineIx, (imageOf img).lines[i].address = lineAddress i := fun i => by
      rw [hentry]
    have hfirst : ∀ i, (imageOf img).lineFirst i ↔ linePlaced i := fun i => by
      simp only [Image.lineFirst, hused, haddr]
      rfl
    have hpaddr : ∀ p : PackerIx, (imageOf img).packers[p].address = packerAddress p := fun p => by
      rw [hpacker]
    have hpfirst : ∀ p, packerPlaced p ↔ packerAddress p ≠ 0 ∧ (imageOf img).packerFirst p :=
      fun p => by
        simp only [Image.packerFirst, hused, haddr, hpaddr]
        rfl
    have hplaced : ∀ i, (imageOf img).linePlaced i = true ↔ linePlaced i := fun i => by
      have h1 : 1 ≤ lineAddress i := le_max_left ..
      have h30 : lineAddress i ≤ 30 := max_le (by decide) (min_le_left ..)
      rw [Image.linePlaced_iff (by rw [haddr]; exact h1) (by rw [haddr]; exact h30), hfirst]
    refine ⟨hl.settings.trans (settingsOf_eq img), hl.global, fun i => ?_, fun d => ⟨?_, ?_, ?_⟩⟩
    · intro at0 kind m c conflict fresh
      have hm : (imageOf img).lines[i].measure = m := by rw [hentry]; exact measureOf_eq _
      have hc : (imageOf img).lines[i].check = c := by rw [hentry]; exact checkOf_eq _
      have hline := hl.line i
      have hnotice := hl.lineNotices i
      rw [Image.lineRecord_eq] at hline
      rw [hm, hc] at hline hnotice
      rw [hentry] at hline
      have hkindused : kind ≠ .unused := by
        show (if byte at0 = 1 then LineKind.twist else .knot) ≠ .unused
        split <;> exact nofun
      have hconf := pairConflicts_iff hkindused m c
      have hkind : linePlaced i → (imageOf img).lineKind i = kind := fun hp => by
        rw [Image.lineKind, if_pos ((hplaced i).2 hp), hentry]
        exact (kindOf_eq _).trans (if_neg hp.1)
      refine ⟨fun hp => ?_, fun hp hconflict => ?_, fun hp hconflict => ?_, ?_⟩
      · have hk : (imageOf img).lineKind i = .unused := by
          rw [Image.lineKind, if_neg fun h => hp ((hplaced i).1 h)]
        rw [hk] at hline hnotice
        exact ⟨hline, hnotice⟩
      · have hyes := hconf.2 hconflict
        rw [hkind hp] at hline hnotice
        rw [if_pos hyes] at hnotice
        rw [judgedPair_conflict hyes hkindused] at hline
        exact ⟨hline, hnotice⟩
      · have hno : pairConflicts kind m c = false := Bool.eq_false_iff.2 fun h => hconflict (hconf.1 h)
        rw [hkind hp] at hline hnotice
        rw [hno] at hnotice
        rw [judgedPair_plain hno] at hline
        exact ⟨hline, hnotice⟩
      · rw [hl.lanes]
        refine (tableOf_get _ i).trans ?_
        rw [laneOf, Nat.min_comm]
    · intro i hp ha
      rw [hl.stations, Image.stations_line ((hfirst i).2 hp) (by rw [haddr, ha]), hentry]
      rfl
    · intro p hp ha
      rw [hl.stations, Image.stations_packer ((hpfirst p).1 hp).2 (by rw [hpaddr, ha]), hpacker]
    · intro hi hp
      rw [hl.stations]
      refine Image.stations_none (fun i h => ?_) fun p h ha => ?_
      · rw [haddr]
        exact hi i ((hfirst i).1 h)
      · rw [hpaddr] at ha
        exact hp p ((hpfirst p).2 ⟨by omega, h⟩) ha
  · have hj : judgeImage ack s.eeprom = (Image.defaults, true) := if_neg fun h => hg (hgood.2 h)
    rw [hj] at hexec
    have hl := s.loadedAs_loaded Image.defaults true
    obtain ⟨t, ht⟩ : ∃ t, s.loaded Image.defaults true = t := ⟨_, rfl⟩
    replace hexec : exec (.loadComplete ack) s = .next t := hexec.trans (congrArg _ ht)
    rw [ht] at hl
    refine ⟨t, hexec, hl.frame, hl.packer, hl.station, fun h => absurd h hg, fun _ => ?_⟩
    have hplain : ∀ i : LineIx, pairConflicts (Image.defaults.lineKind i)
        Image.defaults.lines[i].measure Image.defaults.lines[i].check = false := fun i => by
      rw [defaults_lineKind, defaults_line]
      rfl
    refine ⟨hl.global, Vector.ext fun i hi => ?_, hl.settings, fun i => ⟨?_, ?_, ?_⟩, fun p => ?_,
      fun d hd => ?_⟩
    · have h := hl.lineNotices ⟨i, hi⟩
      rw [hplain] at h
      exact h
    · rw [hl.line, Image.lineRecord_eq, judgedPair_plain (hplain i), defaults_lineKind, defaults_line]
    · rw [hl.lanes]
      exact tableOf_get _ i
    · rw [hl.stations]
      obtain ⟨d, hd⟩ : ∃ d : StationIx, d.val = i.val := ⟨⟨i.val, by omega⟩, rfl⟩
      have h := Image.stations_line (d := d) (defaults_lineFirst i) (by rw [defaults_line, hd])
      have hlevel : Image.defaults.lines[i].level = .one := by rw [defaults_line]
      rw [← hd, Vector.getElem?_eq_getElem d.isLt]
      exact congrArg some (h.trans (by rw [hlevel]))
    · rw [hl.stations]
      obtain ⟨d, hd⟩ : ∃ d : StationIx, d.val = 16 + p.val := ⟨⟨16 + p.val, by omega⟩, rfl⟩
      have h := Image.stations_packer (d := d) (defaults_packerFirst p)
        (by rw [defaults_packer, hd]; show 17 + p.val = 16 + p.val + 1; omega)
      have hlevel : Image.defaults.packers[p].level = .two := by rw [defaults_packer]
      rw [← hd, Vector.getElem?_eq_getElem d.isLt]
      exact congrArg some (h.trans (by rw [hlevel]))
    · rw [hl.stations]
      refine Image.stations_none (fun i _ => ?_) fun p _ => ?_
      · rw [defaults_line]
        have := i.isLt
        show i.val + 1 ≠ d.val + 1
        omega
      · rw [defaults_packer]
        have := p.isLt
        show 17 + p.val ≠ d.val + 1
        omega

end Sys2Proof.Machine
end

section
namespace Sys2Proof.Machine

/-! # Record views (1.9, R165) -/

/-! ## Values packed into a field -/

/-- The field that values in bits `hi` to `lo` make, listed as `(hi, lo, value)`. -/
def packs : List (Nat × Nat × Nat) → Nat
  | [] => 0
  | p :: ps => bitsAt p.2.2 p.1 p.2.1 + packs ps

/-- Bit ranges `(hi, lo)` from the top down that do not overlap, all below bit `top`. -/
def stacked : Nat → List (Nat × Nat) → Bool
  | _, [] => true
  | top, s :: ss => decide (s.2 ≤ s.1) && decide (s.1 < top) && stacked s.2 ss

theorem bitsAt_lt {v hi lo top : Nat} (h : lo ≤ hi) (ht : hi < top) :
    bitsAt v hi lo + 2 ^ lo ≤ 2 ^ top := by
  have hpow : 2 ^ (hi - lo + 1) * 2 ^ lo = 2 ^ (hi + 1) := by
    rw [← Nat.pow_add]; congr 1; omega
  have hmod : v % 2 ^ (hi - lo + 1) + 1 ≤ 2 ^ (hi - lo + 1) := Nat.mod_lt _ (by positivity)
  calc bitsAt v hi lo + 2 ^ lo = (v % 2 ^ (hi - lo + 1) + 1) * 2 ^ lo := by rw [bitsAt]; ring
    _ ≤ 2 ^ (hi - lo + 1) * 2 ^ lo := Nat.mul_le_mul_right _ hmod
    _ = 2 ^ (hi + 1) := hpow
    _ ≤ 2 ^ top := Nat.pow_le_pow_right (by decide) ht

theorem packs_lt (ps : List (Nat × Nat × Nat)) : ∀ top,
    stacked top (ps.map fun p => (p.1, p.2.1)) = true → packs ps < 2 ^ top := by
  induction ps with
  | nil => exact fun top _ => by rw [packs]; positivity
  | cons p ps ih =>
    intro top h
    simp only [List.map_cons, stacked, Bool.and_eq_true, decide_eq_true_eq] at h
    obtain ⟨⟨h1, h2⟩, h3⟩ := h
    have hrest := ih p.2.1 h3
    have hfirst := bitsAt_lt (v := p.2.2) h1 h2
    rw [packs]
    omega

/-- Each value is read in its own bits. -/
theorem packs_part (ps : List (Nat × Nat × Nat)) : ∀ top,
    stacked top (ps.map fun p => (p.1, p.2.1)) = true → ∀ p ∈ ps,
      packs ps / 2 ^ p.2.1 % 2 ^ (p.1 - p.2.1 + 1) = p.2.2 % 2 ^ (p.1 - p.2.1 + 1) := by
  induction ps with
  | nil => exact fun _ _ _ h => nomatch h
  | cons q ps ih =>
    intro top h p hp
    simp only [List.map_cons, stacked, Bool.and_eq_true, decide_eq_true_eq] at h
    obtain ⟨⟨h1, h2⟩, h3⟩ := h
    have hrest := packs_lt ps q.2.1 h3
    rw [packs]
    rcases List.mem_cons.1 hp with rfl | hp
    · rw [bitsAt, Nat.add_comm, Nat.add_mul_div_right _ _ (by positivity),
        Nat.div_eq_of_lt hrest, Nat.zero_add, Nat.mod_mod]
    · have hp1 : p.2.1 ≤ p.1 ∧ p.1 < q.2.1 := by
        clear ih hrest h1 h2
        induction ps generalizing q with
        | nil => exact nomatch hp
        | cons r rs ihr =>
          simp only [List.map_cons, stacked, Bool.and_eq_true, decide_eq_true_eq] at h3
          obtain ⟨⟨h1, h2⟩, h3⟩ := h3
          rcases List.mem_cons.1 hp with rfl | hp
          · exact ⟨h1, h2⟩
          · have := ihr r (List.mem_cons_of_mem _ hp) h3 hp
            omega
      have hbits : bitsAt q.2.2 q.1 q.2.1 =
          q.2.2 % 2 ^ (q.1 - q.2.1 + 1) * 2 ^ (q.2.1 - p.1 - 1) * 2 ^ (p.1 - p.2.1 + 1) *
            2 ^ p.2.1 := by
        rw [bitsAt, Nat.mul_assoc, Nat.mul_assoc, ← Nat.pow_add, ← Nat.pow_add]
        congr 2
        omega
      rw [hbits, Nat.add_comm, Nat.add_mul_div_right _ _ (by positivity), Nat.add_mul_mod_self_right]
      exact ih q.2.1 h3 p hp

/-! ## Fields of a view -/

/-- Field `n` of a view holds the values of `ps`, each in its bits. -/
structure fieldIs (view : List Word) (n : Nat) (ps : List (Nat × Nat × Nat)) : Prop where
  value : (view.getD n 0).toNat = packs ps
  apart : stacked 32 (ps.map fun p => (p.1, p.2.1)) = true

theorem fieldIs.shows {view : List Word} {n : Nat} {ps : List (Nat × Nat × Nat)}
    (h : fieldIs view n ps) : ∀ p ∈ ps, shows view n p.1 p.2.1 p.2.2 := fun p hp => by
  rw [Machine.shows, h.value]
  exact packs_part ps 32 h.apart p hp

theorem fieldIs.and {view : List Word} {n : Nat} {ps : List (Nat × Nat × Nat)}
    (h : fieldIs view n ps) {rs : List (Nat × Nat × Nat × Nat)}
    (hrs : ∀ r ∈ rs, Machine.shows view r.1 r.2.1 r.2.2.1 r.2.2.2) :
    ∀ r ∈ ps.map (Prod.mk n) ++ rs, Machine.shows view r.1 r.2.1 r.2.2.1 r.2.2.2 := fun r hr => by
  rcases List.mem_append.1 hr with hr | hr
  · obtain ⟨p, hp, rfl⟩ := List.mem_map.1 hr
    exact h.shows p hp
  · exact hrs r hr

theorem viewOf_getD (listed : List (Nat × Nat)) {n : Nat} (h : n < 32) :
    (viewOf listed).getD n 0 = BitVec.ofNat 32 ((listed.lookup n).getD 0) := by
  simp [viewOf, h]

theorem viewOf_getD_none (listed : List (Nat × Nat)) {n : Nat} (h : listed.lookup n = none) :
    (viewOf listed).getD n 0 = 0 := by
  by_cases hn : n < 32
  · rw [viewOf_getD listed hn, h]; rfl
  · simp [viewOf, hn]

/-- A field that is listed with its values packed. -/
theorem viewOf_packs {listed : List (Nat × Nat)} {n v : Nat} {ps : List (Nat × Nat × Nat)}
    (hn : n < 32) (hv : listed.lookup n = some v) (hps : v = packs ps)
    (hst : stacked 32 (ps.map fun p => (p.1, p.2.1)) = true) : fieldIs (viewOf listed) n ps := by
  refine ⟨?_, hst⟩
  rw [viewOf_getD listed hn, hv, Option.getD_some, BitVec.toNat_ofNat, hps]
  exact Nat.mod_eq_of_lt (packs_lt ps 32 hst)

/-- A field that is one value. -/
theorem viewOf_word {listed : List (Nat × Nat)} {n v x : Nat} (hn : n < 32)
    (hv : listed.lookup n = some v) (hx : v % 2 ^ 32 = x % 2 ^ 32) :
    fieldIs (viewOf listed) n [(31, 0, x)] := by
  refine ⟨?_, rfl⟩
  rw [viewOf_getD listed hn, hv, Option.getD_some, BitVec.toNat_ofNat, hx]
  simp [packs, bitsAt]

theorem bitsAt_flag (b : Bool) (n : Nat) : flagAt b n = bitsAt (if b then 1 else 0) n n := by
  cases b <;> simp [flagAt, bitsAt]

theorem bitsAt_zero (hi lo : Nat) : bitsAt 0 hi lo = 0 := by simp [bitsAt]

theorem bitsAt_high16 (x lo : Nat) : bitsAt (high16 x) (lo + 15) lo = bitsAt (x / 2 ^ 32) (lo + 15) lo := by
  have h : lo + 15 - lo + 1 = 16 := by omega
  rw [bitsAt, bitsAt, h, high16, Nat.mod_mod]

end Sys2Proof.Machine
end

section
namespace Sys2Proof.Machine

/-! ## Fields by the number of their values -/

section
variable {listed : List (Nat × Nat)} {n v : Nat} {rs : List (Nat × Nat × Nat × Nat)}

theorem shows_word {x : Nat} (hn : n < 32) (hv : listed.lookup n = some v)
    (hx : v % 2 ^ 32 = x % 2 ^ 32)
    (h : ∀ r ∈ rs, shows (viewOf listed) r.1 r.2.1 r.2.2.1 r.2.2.2) :
    ∀ r ∈ (n, 31, 0, x) :: rs, shows (viewOf listed) r.1 r.2.1 r.2.2.1 r.2.2.2 :=
  (viewOf_word hn hv hx).and h

theorem shows_two {hi lo hi' lo' a b : Nat} (hn : n < 32)
    (hst : stacked 32 [(hi, lo), (hi', lo')] = true)
    (hv : listed.lookup n = some (bitsAt a hi lo + bitsAt b hi' lo'))
    (h : ∀ r ∈ rs, shows (viewOf listed) r.1 r.2.1 r.2.2.1 r.2.2.2) :
    ∀ r ∈ (n, hi, lo, a) :: (n, hi', lo', b) :: rs,
      shows (viewOf listed) r.1 r.2.1 r.2.2.1 r.2.2.2 :=
  (viewOf_packs (ps := [(hi, lo, a), (hi', lo', b)]) hn hv rfl hst).and h

theorem shows_three {hi lo hi' lo' hi'' lo'' a b c : Nat} (hn : n < 32)
    (hst : stacked 32 [(hi, lo), (hi', lo'), (hi'', lo'')] = true)
    (hv : listed.lookup n = some (bitsAt a hi lo + bitsAt b hi' lo' + bitsAt c hi'' lo''))
    (h : ∀ r ∈ rs, shows (viewOf listed) r.1 r.2.1 r.2.2.1 r.2.2.2) :
    ∀ r ∈ (n, hi, lo, a) :: (n, hi', lo', b) :: (n, hi'', lo'', c) :: rs,
      shows (viewOf listed) r.1 r.2.1 r.2.2.1 r.2.2.2 :=
  (viewOf_packs (ps := [(hi, lo, a), (hi', lo', b), (hi'', lo'', c)]) hn hv
    (Nat.add_assoc _ _ _) hst).and h

end

/-! ## The lot view (R27) -/

/-- R27: the running set by bits. -/
theorem Works.runningBits_testBit (w : Works) (n i : Nat) :
    (w.runningBits n).testBit i = true ↔ ∃ j ∈ w.runningSet n, j.val = i := by
  have hsorted : ((w.runningSet n).map Fin.val).SortedLT := by
    refine List.sortedLT_iff_pairwise.2 (List.pairwise_map.2 ?_)
    exact (List.Pairwise.filter _ (List.pairwise_lt_finRange 16)).imp fun h => h
  have hbits := Nat.bitIndices_sum_map_two_pow hsorted
  have hsum : ((w.runningSet n).map Fin.val).map (fun i => 2 ^ i) =
      (w.runningSet n).map fun i => 2 ^ i.val := List.map_map
  rw [hsum] at hbits
  rw [Works.runningBits, ← Nat.mem_bitIndices, hbits, List.mem_map]

theorem Works.runningBits_lt (w : Works) (n : Nat) : w.runningBits n < 2 ^ 16 :=
  Nat.lt_pow_two_of_testBit _ fun i hi => Bool.eq_false_iff.2 fun h => by
    obtain ⟨j, -, hj⟩ := (w.runningBits_testBit n i).1 h
    have := j.isLt
    omega

theorem Works.mem_runningSet (w : Works) (n : Nat) (i : LineIx) :
    i ∈ w.runningSet n ↔ (w.line i).lot = some n := by
  simp [Works.runningSet]

theorem State.lotView_running (s : State) (l : Lot) :
    ((s.lotView l).getD 13 0).toNat = s.works.runningBits l.number := by
  rw [State.lotView, viewOf_getD _ (by decide)]
  refine (BitVec.toNat_ofNat _ _).trans (Nat.mod_eq_of_lt ?_)
  exact lt_trans (s.works.runningBits_lt _) (by decide)

/-- R27: a 48-bit value's upper part. -/
theorem high16_packs (x : Nat) : high16 x = packs [(31, 16, 0), (15, 0, x / 2 ^ 32)] := by
  simp [packs, bitsAt, high16]

theorem low32_mod (x : Nat) : low32 x % 2 ^ 32 = x % 2 ^ 32 := Nat.mod_mod _ _

/-- R27: the fields of the lot view. -/
theorem State.lotView_shows (s : State) (l : Lot) :
    ∀ r ∈ [(0, 31, 16, l.number), (0, 15, 8, l.state.code), (0, 7, 0, l.revision),
        (1, 31, 24, l.spec.kind.code), (1, 23, 16, l.spec.layDirection),
        (1, 15, 0, l.spec.twistSpan),
        (2, 31, 16, l.spec.nominalTwist), (2, 15, 0, l.spec.twistTolerance),
        (3, 31, 16, l.spec.persistence), (3, 15, 0, l.spec.knotsPerRow),
        (4, 31, 16, l.spec.rowPitch), (4, 15, 8, l.spec.faultRowsToOpen),
        (4, 7, 0, l.spec.soundRowsToClose), (5, 31, 0, l.spec.target),
        (6, 31, 16, l.spec.cutLead), (6, 15, 0, l.spec.jointMargin),
        (7, 31, 0, l.spec.allowance), (8, 31, 0, l.spec.minSound),
        (9, 31, 24, l.spec.maxJoints), (9, 23, 8, l.spec.rejectShare),
        (9, 7, 0, l.spec.densityTolerance), (10, 31, 0, l.spec.densityNominal),
        (11, 31, 16, l.nextSequence), (11, 15, 0, s.works.coilsHeld l.number),
        (12, 31, 16, l.coilsMade), (12, 15, 0, l.coilsRetired),
        (13, 31, 16, 0), (14, 31, 0, s.timeBase), (16, 31, 0, l.produced),
        (17, 15, 0, l.produced / 2 ^ 32), (18, 31, 0, l.unassigned),
        (19, 15, 0, l.unassigned / 2 ^ 32), (20, 31, 0, l.retired),
        (21, 15, 0, l.retired / 2 ^ 32), (17, 31, 16, 0), (19, 31, 16, 0), (21, 31, 16, 0)],
      shows (s.lotView l) r.1 r.2.1 r.2.2.1 r.2.2.2 := by
  have high : ∀ (n x : Nat), fieldIs (s.lotView l) n [(31, 16, 0), (15, 0, x / 2 ^ 32)] →
      shows (s.lotView l) n 31 16 0 ∧ shows (s.lotView l) n 15 0 (x / 2 ^ 32) := fun n x h =>
    ⟨h.shows _ (List.mem_cons_self ..), h.shows _ (List.mem_cons_of_mem _ (List.mem_cons_self ..))⟩
  obtain ⟨h17, h17'⟩ := high 17 l.produced (viewOf_packs (by decide) rfl (high16_packs _) rfl)
  obtain ⟨h19, h19'⟩ := high 19 l.unassigned (viewOf_packs (by decide) rfl (high16_packs _) rfl)
  obtain ⟨h21, h21'⟩ := high 21 l.retired (viewOf_packs (by decide) rfl (high16_packs _) rfl)
  have h13 : shows (s.lotView l) 13 31 16 0 := by
    rw [shows, s.lotView_running, Nat.div_eq_of_lt (s.works.runningBits_lt _)]
  exact shows_three (by decide) rfl rfl <| shows_three (by decide) rfl rfl <|
    shows_two (by decide) rfl rfl <| shows_two (by decide) rfl rfl <|
    shows_three (by decide) rfl rfl <| shows_word (by decide) rfl rfl <|
    shows_two (by decide) rfl rfl <| shows_word (by decide) rfl rfl <|
    shows_word (by decide) rfl rfl <| shows_three (by decide) rfl rfl <|
    shows_word (by decide) rfl rfl <| shows_two (by decide) rfl rfl <|
    shows_two (by decide) rfl rfl <| List.forall_mem_cons.2 <| .intro h13 <|
    shows_word (by decide) rfl rfl <| shows_word (by decide) rfl (low32_mod _) <|
    List.forall_mem_cons.2 <| .intro h17' <| shows_word (by decide) rfl (low32_mod _) <|
    List.forall_mem_cons.2 <| .intro h19' <| shows_word (by decide) rfl (low32_mod _) <|
    List.forall_mem_cons.2 <| .intro h21' <| List.forall_mem_cons.2 <| .intro h17 <|
    List.forall_mem_cons.2 <| .intro h19 <| List.forall_mem_cons.2 <| .intro h21 nofun

/-- R27: the bits of the running set. -/
theorem State.lotView_bits (s : State) (l : Lot) (i : LineIx) :
    shows (s.lotView l) 13 i i (if (s.works.line i).lot = some l.number then 1 else 0) := by
  rw [shows, s.lotView_running, Nat.sub_self]
  have hbit := Nat.testBit_eq_decide_div_mod_eq (x := s.works.runningBits l.number) (i := i.val)
  have hiff := s.works.runningBits_testBit l.number i.val
  have hmem : (∃ j ∈ s.works.runningSet l.number, j.val = i.val) ↔
      (s.works.line i).lot = some l.number := by
    rw [← s.works.mem_runningSet]
    exact ⟨fun ⟨j, hj, h⟩ => Fin.ext h ▸ hj, fun h => ⟨i, h, rfl⟩⟩
  rw [hmem, hbit, decide_eq_true_iff] at hiff
  split
  · next h => exact hiff.2 h
  · next h =>
    have hne := mt hiff.1 h
    omega

/-- R27: the fields of the lot view that hold nothing. -/
theorem State.lotView_rest (s : State) (l : Lot) :
    ∀ n ∈ [15, 22, 23, 24, 25, 26, 27, 28, 29, 30, 31], (s.lotView l).getD n 0 = 0 := by
  simp only [List.forall_mem_cons]
  refine ⟨?_, ?_, ?_, ?_, ?_, ?_, ?_, ?_, ?_, ?_, ?_, nofun⟩ <;> exact viewOf_getD_none _ rfl

end Sys2Proof.Machine
end

section
namespace Sys2Proof.Machine

/-! ## The line view (R27) -/

theorem shows_nothing {view : List Word} {n : Nat} (h : view.getD n 0 = 0) (hi lo : Nat) :
    shows view n hi lo 0 := by
  rw [shows, h]
  simp

/-- A view reads 0 from the field on that lies beyond every listed one. -/
theorem viewOf_beyond {listed : List (Nat × Nat)} {m n : Nat}
    (h : (listed.map Prod.fst).all (fun k => decide (k < m)) = true) (hn : m ≤ n) :
    (viewOf listed).getD n 0 = 0 := by
  refine viewOf_getD_none listed (List.lookup_eq_none_iff.2 fun p hp => ?_)
  have := of_decide_eq_true (List.all_eq_true.1 h p.1 (List.mem_map_of_mem hp))
  simp only [bne_iff_ne, ne_eq]
  omega

theorem Works.waitPlace_eq (w : Works) (i : LineIx) :
    w.waitPlace i = ((w.waitList.idxOf? i).map fun n => n + 1).getD 0 := by
  unfold Works.waitPlace
  cases w.waitList.idxOf? i <;> rfl

theorem Line.remaining_eq (l : Line) :
    l.remaining = if l.order = .cut then l.cutPoint - l.position else 0 := by
  unfold Line.remaining
  cases l.order <;> rfl

theorem Line.monitorFields_lookup (l : Line) : l.monitorFields.lookup 15 = none := by
  unfold Line.monitorFields
  cases l.kind <;> rfl

theorem Line.monitorFields_twist {l : Line} (h : l.kind = .twist) : l.monitorFields =
    [(16, bitsAt l.twist.band.code 31 24 + bitsAt l.twist.window.length 23 16),
      (17, l.twist.lastValue), (18, signed16 l.twist.extreme),
      (19, low32 (windowLength l.twist.window)), (20, windowLength l.twist.window / 2 ^ 32),
      (21, min 4294967295 (windowQuarters l.twist.window)), (22, low32 l.twist.suspectStart),
      (23, high16 l.twist.suspectStart), (24, low32 l.twist.recoveryStart),
      (25, high16 l.twist.recoveryStart)] := by
  simp only [Line.monitorFields, h]
  rfl

theorem Line.monitorFields_knot {l : Line} (h : l.kind = .knot) : l.monitorFields =
    [(16, flagAt l.knot.faulted 24), (17, bitsAt l.knot.faultRun 31 16 + bitsAt l.knot.soundRun 15 0),
      (18, signed16 l.knot.extreme)] := by
  simp only [Line.monitorFields, h]

/-- R27: the fields of the line view that every line has. -/
theorem State.lineView_shows (s : State) (i : LineIx) : let l := s.works.line i
    ∀ r ∈ [(0, 31, 28, i.val), (0, 27, 24, l.kind.code), (0, 23, 20, l.stateCode),
        (0, 19, 16, l.rememberedCode), (0, 15, 12, l.cut.code), (0, 11, 8, starveCode l.starve),
        (0, 7, 4, l.order.code), (0, 3, 3, if l.amendPending then 1 else 0),
        (0, 2, 2, if l.baselinesValid then 1 else 0),
        (0, 1, 1, if l.jointClose.isSome then 1 else 0), (0, 0, 0, 0),
        (1, 31, 16, l.lot.getD 0), (1, 15, 8, l.revision), (1, 7, 4, l.measure.code),
        (1, 3, 0, l.check.code), (2, 31, 16, (l.coil.map fun k => k.sequence).getD 0),
        (2, 15, 8, packerCode l.reserved),
        (2, 7, 0, ((s.works.waitList.idxOf? i).map fun n => n + 1).getD 0),
        (3, 31, 0, l.position), (4, 31, 16, l.position / 2 ^ 32), (4, 15, 0, l.remainder),
        (5, 31, 0, if l.order = .cut then l.cutPoint - l.position else 0),
        (6, 31, 0, l.jointClose.getD 0), (7, 31, 16, l.jointClose.getD 0 / 2 ^ 32),
        (7, 15, 8, l.address), (7, 7, 0, 0), (8, 31, 16, l.baselines.spindle.toNat),
        (8, 15, 0, l.baselines.wheelA.toNat), (9, 31, 16, l.baselines.wheelB.toNat),
        (9, 15, 0, l.baselines.rows.toNat), (10, 31, 16, l.wheelA), (10, 15, 0, l.wheelB),
        (11, 31, 16, l.slipTallies), (11, 15, 0, l.resyncs), (12, 31, 16, l.sequenceGaps),
        (12, 15, 0, l.staleEntries), (13, 31, 16, l.unrecorded), (13, 15, 0, 0),
        (14, 31, 0, s.timeBase), (15, 31, 0, 0)],
      shows (s.lineView i) r.1 r.2.1 r.2.2.1 r.2.2.2 := by
  intro l
  have h15 : (s.lineView i).getD 15 0 = 0 := viewOf_getD_none _ l.monitorFields_lookup
  refine (viewOf_packs (ps := [_, _, _, _, _, _, _, _, _, _, _]) (by decide) rfl ?_ rfl).and <|
    (viewOf_packs (ps := [_, _, _, _]) (by decide) rfl ?_ rfl).and <|
    (viewOf_packs (ps := [_, _, _]) (by decide) rfl ?_ rfl).and <|
    shows_word (by decide) rfl (low32_mod _) <|
    (viewOf_packs (ps := [_, _]) (by decide) rfl ?_ rfl).and <|
    shows_word (by decide) rfl ?_ <| shows_word (by decide) rfl (low32_mod _) <|
    (viewOf_packs (ps := [_, _, _]) (by decide) rfl ?_ rfl).and <|
    shows_two (by decide) rfl rfl <| shows_two (by decide) rfl rfl <|
    shows_two (by decide) rfl rfl <| shows_two (by decide) rfl rfl <|
    shows_two (by decide) rfl rfl <|
    (viewOf_packs (ps := [_, _]) (by decide) rfl ?_ rfl).and <|
    shows_word (by decide) rfl rfl <|
    List.forall_mem_cons.2 <| .intro (shows_nothing h15 _ _) nofun
  · simp only [packs, bitsAt_flag, bitsAt_zero, Nat.add_assoc, Nat.add_zero]
    rfl
  · simp only [packs, Nat.add_assoc, Nat.add_zero]
    rfl
  · rw [Works.waitPlace_eq]
    simp only [packs, Nat.add_assoc, Nat.add_zero]
    rfl
  · exact congrArg (fun x => x + bitsAt l.remainder 15 0) (bitsAt_high16 l.position 16)
  · exact congrArg (fun x => x % 2 ^ 32) l.remaining_eq
  · refine (congrArg (fun x => x + bitsAt l.address 15 8)
      (bitsAt_high16 (l.jointClose.getD 0) 16)).trans ?_
    simp only [packs, bitsAt_zero, Nat.add_zero]
  · simp only [packs, bitsAt_zero, Nat.add_zero]
    rfl

/-- R27: the fields of the line view that show a twist monitor. -/
theorem State.lineView_twist (s : State) (i : LineIx) : let l := s.works.line i
    l.kind = .twist → ∀ r ∈ [(16, 31, 24, l.twist.band.code), (16, 23, 16, l.twist.window.length),
        (16, 15, 0, 0), (17, 31, 0, l.twist.lastValue), (18, 31, 0, signed16 l.twist.extreme),
        (19, 31, 0, windowLength l.twist.window),
        (20, 31, 0, windowLength l.twist.window / 2 ^ 32),
        (21, 31, 0, min 4294967295 (windowQuarters l.twist.window)),
        (22, 31, 0, l.twist.suspectStart), (23, 31, 0, l.twist.suspectStart / 2 ^ 32 % 65536),
        (24, 31, 0, l.twist.recoveryStart), (25, 31, 0, l.twist.recoveryStart / 2 ^ 32 % 65536)],
      shows (s.lineView i) r.1 r.2.1 r.2.2.1 r.2.2.2 := by
  intro l hk
  have hm := l.monitorFields_twist hk
  have hview : s.lineView i = viewOf (_ ++ l.monitorFields) := rfl
  rw [hview, hm]
  exact (viewOf_packs (ps := [_, _, _]) (by decide) rfl (by simp [packs, bitsAt_zero]) rfl).and <|
    shows_word (by decide) rfl rfl <| shows_word (by decide) rfl rfl <|
    shows_word (by decide) rfl (low32_mod _) <| shows_word (by decide) rfl rfl <|
    shows_word (by decide) rfl rfl <| shows_word (by decide) rfl (low32_mod _) <|
    shows_word (by decide) rfl rfl <| shows_word (by decide) rfl (low32_mod _) <|
    shows_word (by decide) rfl rfl nofun

/-- R27: the fields of the line view that show a knot monitor. -/
theorem State.lineView_knot (s : State) (i : LineIx) : let l := s.works.line i
    l.kind = .knot → ∀ r ∈ [(16, 31, 24, if l.knot.faulted then 1 else 0), (16, 23, 0, 0),
        (17, 31, 16, l.knot.faultRun), (17, 15, 0, l.knot.soundRun),
        (18, 31, 0, signed16 l.knot.extreme)],
      shows (s.lineView i) r.1 r.2.1 r.2.2.1 r.2.2.2 := by
  intro l hk
  have hm := l.monitorFields_knot hk
  have hview : s.lineView i = viewOf (_ ++ l.monitorFields) := rfl
  rw [hview, hm]
  refine (viewOf_packs (ps := [_, _]) (by decide) rfl ?_ rfl).and <|
    shows_two (by decide) rfl rfl <| shows_word (by decide) rfl rfl nofun
  cases l.knot.faulted <;> rfl

/-- R27: the fields of the line view that hold nothing. -/
theorem State.lineView_rest (s : State) (i : LineIx) (n : Nat) : let l := s.works.line i
    (l.kind = .twist ∧ 26 ≤ n) ∨ (l.kind = .knot ∧ 19 ≤ n) ∨ (l.kind = .unused ∧ 16 ≤ n) →
      (s.lineView i).getD n 0 = 0 := by
  intro l h
  have hview : s.lineView i = viewOf (_ ++ l.monitorFields) := rfl
  rw [hview]
  rcases h with ⟨hk, hn⟩ | ⟨hk, hn⟩ | ⟨hk, hn⟩
  · rw [l.monitorFields_twist hk]
    exact viewOf_beyond rfl hn
  · rw [l.monitorFields_knot hk]
    exact viewOf_beyond rfl hn
  · have hm : l.monitorFields = [] := by simp only [Line.monitorFields, hk]
    rw [hm]
    exact viewOf_beyond rfl hn

end Sys2Proof.Machine
end

section
namespace Sys2Proof.Machine

/-! ## The coil view (R27) -/

theorem flag_packs (b : Bool) (n : Nat) (ps : List (Nat × Nat × Nat)) :
    packs ((n, n, if b then 1 else 0) :: ps) = flagAt b n + packs ps := by
  rw [packs, bitsAt_flag]

/-- R110: the reasons by bits, the first lowest. -/
def reasonParts (rs : List Reason) : List (Nat × Nat × Nat) :=
  [(9, 9, if rs.contains .unweighed then 1 else 0), (8, 8, if rs.contains .loose then 1 else 0),
    (7, 7, if rs.contains .unplannedCut then 1 else 0),
    (6, 6, if rs.contains .lengthUncertain then 1 else 0),
    (5, 5, if rs.contains .density then 1 else 0), (4, 4, if rs.contains .overlength then 1 else 0),
    (3, 3, if rs.contains .short then 1 else 0), (2, 2, if rs.contains .jointsOver then 1 else 0),
    (1, 1, if rs.contains .zoneOverflow then 1 else 0), (0, 0, if rs.contains .zones then 1 else 0)]

theorem reasonBits_eq (rs : List Reason) : reasonBits rs = packs (reasonParts rs) := by
  unfold reasonParts
  simp only [flag_packs]
  simp only [reasonBits, List.map_cons, List.map_nil, List.sum_cons, List.sum_nil, Reason.bit, packs]
  omega

/-- The cause code and the open flag of the zone at a place. -/
def zoneCodes (zs : List Zone) (k : Nat) : Nat × Nat :=
  match zs[k]? with
  | none => (0, 0)
  | some z => (z.cause.code, if z.stop.isNone then 1 else 0)

theorem zoneNibble_eq (zs : List Zone) (k : Nat) : zoneNibble zs k =
    bitsAt (zoneCodes zs k).2 (4 * k + 3) (4 * k + 3) + bitsAt (zoneCodes zs k).1 (4 * k + 2) (4 * k) := by
  have h1 : 4 * k + 3 - (4 * k + 3) + 1 = 1 := by omega
  have h3 : 4 * k + 2 - 4 * k + 1 = 3 := by omega
  unfold zoneNibble zoneCodes
  rw [bitsAt, bitsAt, h1, h3]
  cases zs[k]? with
  | none => simp
  | some z =>
    have hcode : z.cause.code % 2 ^ 3 = z.cause.code := by cases z.cause <;> rfl
    dsimp only
    rw [hcode, Nat.add_mul, Nat.add_comm]
    congr 1
    cases z.stop.isNone <;> simp [flagAt, Nat.pow_add, Nat.mul_comm]

/-- Field 10 of the coil view, the last zone highest. -/
def nibbleParts (zs : List Zone) : List (Nat × Nat × Nat) :=
  (List.range 8).reverse.flatMap fun k =>
    [(4 * k + 3, 4 * k + 3, (zoneCodes zs k).2), (4 * k + 2, 4 * k, (zoneCodes zs k).1)]

theorem packs_nibbles (zs : List Zone) (ks : List Nat) :
    packs (ks.flatMap fun k =>
      [(4 * k + 3, 4 * k + 3, (zoneCodes zs k).2), (4 * k + 2, 4 * k, (zoneCodes zs k).1)]) =
      (ks.map (zoneNibble zs)).sum := by
  induction ks with
  | nil => rfl
  | cons k ks ih =>
    rw [List.flatMap_cons, List.cons_append, List.cons_append, List.nil_append, packs, packs, ih,
      List.map_cons, List.sum_cons, zoneNibble_eq, Nat.add_assoc]

theorem nibbles_eq (zs : List Zone) :
    ((List.range 8).map (zoneNibble zs)).sum = packs (nibbleParts zs) := by
  rw [nibbleParts, packs_nibbles, List.map_reverse, List.sum_reverse]

theorem mem_nibbleParts (zs : List Zone) (k : Fin 8) :
    (4 * k.val + 3, 4 * k.val + 3, (zoneCodes zs k).2) ∈ nibbleParts zs ∧
    (4 * k.val + 2, 4 * k.val, (zoneCodes zs k).1) ∈ nibbleParts zs := by
  have hk : k.val ∈ (List.range 8).reverse := List.mem_reverse.2 (List.mem_range.2 k.isLt)
  exact ⟨List.mem_flatMap.2 ⟨k, hk, List.mem_cons_self ..⟩,
    List.mem_flatMap.2 ⟨k, hk, List.mem_cons_of_mem _ (List.mem_cons_self ..)⟩⟩

/-- R27: the fields of the coil view but its zones. -/
theorem State.coilView_shows (s : State) (c : Coil) :
    ∀ r ∈ [(0, 31, 16, c.key.lot), (0, 15, 0, c.key.sequence), (1, 31, 28, c.state.code),
        (1, 27, 24, c.grade.code), (1, 23, 23, if c.final then 1 else 0), (1, 22, 20, 0),
        (1, 19, 16, c.line.val), (1, 15, 8, packerCode c.packer), (1, 7, 0, c.revision),
        (2, 31, 0, c.start), (3, 31, 16, c.start / 2 ^ 32), (3, 15, 8, c.joints),
        (3, 7, 0, c.unlisted), (4, 31, 0, min 4294967295 (s.works.coilLength c)),
        (5, 31, 28, c.zones.length), (5, 27, 10, 0), (6, 31, 16, c.faultRows),
        (6, 15, 0, c.slipTallies), (7, 31, 16, c.missedKnots), (7, 15, 0, c.excessKnots),
        (8, 31, 0, c.weight.getD 0), (9, 31, 0, c.density.getD 0), (11, 31, 0, s.timeBase)],
      shows (s.coilView c) r.1 r.2.1 r.2.2.1 r.2.2.2 := by
  have h5 : fieldIs (s.coilView c) 5
      ((31, 28, c.zones.length) :: (27, 10, 0) :: reasonParts c.reasons) :=
    viewOf_packs (by decide) rfl (by
      rw [packs, packs, ← reasonBits_eq, bitsAt_zero, Nat.zero_add]) rfl
  refine shows_two (by decide) rfl rfl <|
    (viewOf_packs (ps := [_, _, _, _, _, _, _]) (by decide) rfl ?_ rfl).and <|
    shows_word (by decide) rfl (low32_mod _) <|
    (viewOf_packs (ps := [_, _, _]) (by decide) rfl ?_ rfl).and <|
    shows_word (by decide) rfl rfl <|
    List.forall_mem_cons.2 <| .intro (h5.shows _ (List.mem_cons_self ..)) <|
    List.forall_mem_cons.2 <| .intro (h5.shows _ (List.mem_cons_of_mem _ (List.mem_cons_self ..))) <|
    shows_two (by decide) rfl rfl <| shows_two (by decide) rfl rfl <|
    shows_word (by decide) rfl rfl <| shows_word (by decide) rfl rfl <|
    shows_word (by decide) rfl rfl nofun
  · simp only [packs, bitsAt_flag, bitsAt_zero, Nat.add_assoc, Nat.add_zero, Nat.zero_add]
  · refine (congrArg (fun x => x + bitsAt c.joints 15 8 + bitsAt c.unlisted 7 0)
      (bitsAt_high16 c.start 16)).trans ?_
    simp only [packs, Nat.add_assoc, Nat.add_zero]

/-- R110: the reasons of the coil view. -/
theorem State.coilView_reasons (s : State) (c : Coil) {n : Nat} {r : Reason}
    (h : [Reason.zones, .zoneOverflow, .jointsOver, .short, .overlength, .density,
      .lengthUncertain, .unplannedCut, .loose, .unweighed][n]? = some r) :
    shows (s.coilView c) 5 n n (if r ∈ c.reasons then 1 else 0) := by
  have h5 : fieldIs (s.coilView c) 5
      ((31, 28, c.zones.length) :: (27, 10, 0) :: reasonParts c.reasons) :=
    viewOf_packs (by decide) rfl (by
      rw [packs, packs, ← reasonBits_eq, bitsAt_zero, Nat.zero_add]) rfl
  have hpart : ∀ p ∈ reasonParts c.reasons, shows (s.coilView c) 5 p.1 p.2.1 p.2.2 := fun p hp =>
    h5.shows p (List.mem_cons_of_mem _ (List.mem_cons_of_mem _ hp))
  have hmem : (n, n, if c.reasons.contains r then 1 else 0) ∈ reasonParts c.reasons := by
    obtain ⟨hn, hr⟩ := List.getElem?_eq_some_iff.1 h
    have hn' : n < 10 := hn
    subst hr
    interval_cases n <;> simp [reasonParts]
  have hshow := hpart _ hmem
  simp only [List.contains_eq_mem, decide_eq_true_eq] at hshow
  exact hshow

end Sys2Proof.Machine
end

section
namespace Sys2Proof.Machine

/-! ## The zones of the coil view (R27) -/

/-- Field 10 of the coil view: causes and open flags. -/
theorem State.coilView_codes (s : State) (c : Coil) (k : Fin 8) :
    shows (s.coilView c) 10 (4 * k + 2) (4 * k) (zoneCodes c.zones k).1 ∧
    shows (s.coilView c) 10 (4 * k + 3) (4 * k + 3) (zoneCodes c.zones k).2 := by
  have h10 : fieldIs (s.coilView c) 10 (nibbleParts c.zones) :=
    viewOf_packs (by decide) rfl (nibbles_eq _) rfl
  obtain ⟨hopen, hcause⟩ := mem_nibbleParts c.zones k
  exact ⟨h10.shows _ hcause, h10.shows _ hopen⟩

/-- Fields 12 to 15 of the coil view: extremes, two in a field. -/
theorem State.coilView_extreme (s : State) (c : Coil) (k : Fin 8) :
    shows (s.coilView c) (12 + k / 2) (31 - k % 2 * 16) (16 - k % 2 * 16)
      (zoneExtreme c.zones k) := by
  have pair : ∀ j : Fin 4, fieldIs (s.coilView c) (12 + j.val)
      [(31, 16, zoneExtreme c.zones (2 * j)), (15, 0, zoneExtreme c.zones (2 * j + 1))] := fun j =>
    viewOf_packs (by omega) (by fin_cases j <;> rfl) rfl rfl
  have hj := (pair ⟨k / 2, by omega⟩).shows
  have hk := Nat.div_add_mod k.val 2
  rcases Nat.mod_two_eq_zero_or_one k.val with h | h <;> rw [h] at hk ⊢
  · have := hj _ (List.mem_cons_self ..)
    dsimp only at this
    rwa [show 2 * (k.val / 2) = k.val from hk] at this
  · have := hj _ (List.mem_cons_of_mem _ (List.mem_cons_self ..))
    dsimp only at this
    rwa [hk] at this

theorem viewOf_listed {listed : List (Nat × Nat)} {n v : Nat} (hn : n < 32)
    (hv : listed.lookup n = some v) : (viewOf listed).getD n 0 = BitVec.ofNat 32 v := by
  rw [viewOf_getD listed hn, hv, Option.getD_some]

/-- Fields 16 to 31 of the coil view: starts and ends. -/
theorem State.coilView_bounds (s : State) (c : Coil) (k : Fin 8) :
    (s.coilView c).getD (16 + 2 * k) 0 = BitVec.ofNat 32 (zoneStartField c.zones k) ∧
    (s.coilView c).getD (17 + 2 * k) 0 = BitVec.ofNat 32 (zoneStopField c.zones k) := by
  constructor <;> refine viewOf_listed (by omega) ?_ <;> fin_cases k <;> rfl

theorem shows_ofNat {view : List Word} {n x : Nat} (h : view.getD n 0 = BitVec.ofNat 32 x) :
    shows view n 31 0 x := by
  rw [shows, h, BitVec.toNat_ofNat]
  simp

/-- R27: a place of the coil view without a zone. -/
theorem State.coilView_noZone (s : State) (c : Coil) (k : Fin 8) (h : c.zones[k.val]? = none) :
    shows (s.coilView c) 10 (4 * k + 2) (4 * k) 0 ∧
    shows (s.coilView c) 10 (4 * k + 3) (4 * k + 3) 0 ∧
    shows (s.coilView c) (12 + k / 2) (31 - k % 2 * 16) (16 - k % 2 * 16) 0 ∧
    (s.coilView c).getD (16 + 2 * k) 0 = 0 ∧ (s.coilView c).getD (17 + 2 * k) 0 = 0 := by
  have hcodes := s.coilView_codes c k
  have hextreme := s.coilView_extreme c k
  have hbounds := s.coilView_bounds c k
  simp only [zoneCodes, zoneExtreme, zoneStartField, zoneStopField, h] at hcodes hextreme hbounds
  exact ⟨hcodes.1, hcodes.2, hextreme, hbounds⟩

/-- R27: a zone of the coil view. -/
theorem State.coilView_zone (s : State) (c : Coil) (k : Fin 8) {z : Zone}
    (h : c.zones[k.val]? = some z) :
    shows (s.coilView c) 10 (4 * k + 2) (4 * k) z.cause.code ∧
    shows (s.coilView c) 10 (4 * k + 3) (4 * k + 3) (if z.stop = none then 1 else 0) ∧
    shows (s.coilView c) (12 + k / 2) (31 - k % 2 * 16) (16 - k % 2 * 16) (signed16 z.extreme) ∧
    shows (s.coilView c) (16 + 2 * k) 31 0 (min 4294967295 z.start) ∧
    shows (s.coilView c) (17 + 2 * k) 31 0
      (match z.stop with | none => 0xFFFFFFFF | some e => min 4294967295 e) := by
  have hcodes := s.coilView_codes c k
  have hextreme := s.coilView_extreme c k
  have hbounds := s.coilView_bounds c k
  simp only [zoneCodes, zoneExtreme, zoneStartField, zoneStopField, h, Option.isNone_iff_eq_none]
    at hcodes hextreme hbounds
  refine ⟨hcodes.1, hcodes.2, hextreme, shows_ofNat hbounds.1, ?_⟩
  have hstop := shows_ofNat hbounds.2
  cases hz : z.stop with
  | none => rwa [hz] at hstop
  | some e => rwa [hz] at hstop

/-! ## The station view (R165) -/

theorem Role.codes_eq (r : Role) : r.codes = (match r with | .line _ => 1 | .packer _ => 2,
    match r with | .line i => i.val | .packer p => p.val) := by
  cases r <;> rfl

/-- R165: the fields of the station view. -/
theorem State.stationView_shows (s : State) (d : StationIx) (st : Station) :
    ∀ r ∈ [(0, 31, 24, d.val + 1), (0, 23, 20, match st.role with | .line _ => 1 | .packer _ => 2),
        (0, 19, 16, match st.role with | .line i => i.val | .packer p => p.val),
        (0, 15, 12, st.level.code), (0, 11, 8, if st.isolated then 1 else 0),
        (0, 7, 7, if st.repeatOwed then 1 else 0), (0, 6, 6, if st.probeDue then 1 else 0),
        (0, 5, 0, st.roundsSinceProbe), (1, 31, 24, st.failures),
        (1, 23, 16, (st.expected.getD 0).toNat), (1, 15, 8, (st.last.getD 0).toNat),
        (1, 7, 2, 0), (1, 1, 1, if st.expected.isNone then 1 else 0),
        (1, 0, 0, if st.last.isNone then 1 else 0),
        (2, 31, 16, st.sequenceGaps), (2, 15, 0, st.protocolErrors),
        (3, 31, 24, answerCode st.pending), (3, 23, 16, 0), (3, 15, 8, s.link.roundCount),
        (3, 7, 0, 0), (14, 31, 0, s.timeBase)],
      shows (s.stationView d st) r.1 r.2.1 r.2.2.1 r.2.2.2 := by
  refine (viewOf_packs (ps := [_, _, _, _, _, _, _, _]) (by decide) rfl ?_ rfl).and <|
    (viewOf_packs (ps := [_, _, _, _, _, _]) (by decide) rfl ?_ rfl).and <|
    shows_two (by decide) rfl rfl <|
    (viewOf_packs (ps := [_, _, _, _]) (by decide) rfl ?_ rfl).and <|
    shows_word (by decide) rfl rfl nofun
  · have hflag : flagAt st.isolated 8 = bitsAt (if st.isolated then 1 else 0) 11 8 := by
      cases st.isolated <;> rfl
    rw [st.role.codes_eq]
    simp only [packs, hflag, bitsAt_flag, Nat.add_assoc, Nat.add_zero]
  · simp only [packs, bitsAt_flag, bitsAt_zero, Nat.add_assoc, Nat.add_zero, Nat.zero_add]
  · simp only [packs, bitsAt_zero, Nat.add_zero, Nat.zero_add]

/-- R165: the fields of the station view that hold nothing. -/
theorem State.stationView_rest (s : State) (d : StationIx) (st : Station) {n : Nat} (h4 : 4 ≤ n)
    (h14 : n ≠ 14) : (s.stationView d st).getD n 0 = 0 := by
  refine viewOf_getD_none _ (List.lookup_eq_none_iff.2 ?_)
  simp only [List.forall_mem_cons, bne_iff_ne, ne_eq]
  exact ⟨by omega, by omega, by omega, by omega, h14, nofun⟩

/-! ## READ_RECORD (R165) -/

section
variable {s : State} {args : List Byte} {key : Nat}

theorem State.readRecord_refused {kind first : Nat} (h : 31 < first ∨ kind = 0 ∨ 4 < kind) :
    s.readRecord kind key first = s.respond .outOfRange :=
  if_pos (by omega)

theorem State.readRecord_eq {kind first : Nat} (h1 : first ≤ 31) (h2 : 1 ≤ kind ∧ kind ≤ 4) :
    s.readRecord kind key first =
      match s.recordView kind key with
      | .error st => s.respond st
      | .ok fields => s.respondWith (recordResult fields first) :=
  if_neg (by omega)

end

/-- Settles O21. -/
theorem readRecordCopiesTheView : Obligations.ReadRecordCopiesTheView := by
  refine ⟨?_, fun s l => ⟨s.lotView_shows l, s.lotView_bits l, s.lotView_rest l⟩,
    fun s i => ⟨s.lineView_shows i, s.lineView_twist i, s.lineView_knot i, s.lineView_rest i⟩,
    fun s c => ⟨s.coilView_shows c, fun n r h => s.coilView_reasons c h,
      fun k => ⟨s.coilView_noZone c k, fun z h => s.coilView_zone c k h⟩⟩,
    fun s d st => ⟨s.stationView_shows d st, fun n h4 h14 => s.stationView_rest d st h4 h14⟩⟩
  intro args s hl ht kind key first answer refusal
  have hexec : exec (.readRecord args) s = .next ((s.release 0x18 args).readRecord kind key first) := by
    rw [exec_otherCommand rfl rfl ht hl]
  refine ⟨fun h => hexec.trans (congrArg _ (State.readRecord_refused h)), fun h1 => ?_⟩
  have refused : ∀ st, 1 ≤ kind ∧ kind ≤ 4 → s.recordView kind key = .error st → refusal st :=
    fun st hk hv => hexec.trans (congrArg _ ((State.readRecord_eq h1 hk).trans
      (by rw [show (s.release 0x18 args).recordView kind key = .error st from hv]; rfl)))
  have answered : ∀ fields, 1 ≤ kind ∧ kind ≤ 4 → s.recordView kind key = .ok fields →
      answer fields :=
    fun fields hk hv => hexec.trans (congrArg _ ((State.readRecord_eq h1 hk).trans
      (by rw [show (s.release 0x18 args).recordView kind key = .ok fields from hv]; rfl)))
  refine ⟨fun hk hv => refused _ ?_ ?_, fun l hk hv => ⟨answered _ ?_ ?_, viewOf_length _⟩,
    fun hk hv => refused _ ?_ ?_, fun i hk hv => ⟨answered _ ?_ ?_, viewOf_length _⟩,
    fun hk hv => refused _ ?_ ?_, fun c hk hv => ⟨answered _ ?_ ?_, viewOf_length _⟩,
    fun hk hv => refused _ ?_ ?_, fun d hk hd hv => refused _ ?_ ?_,
    fun d st hk hd hv => ⟨answered _ ?_ ?_, viewOf_length _⟩⟩
  all_goals try omega
  all_goals rw [hk]; unfold State.recordView
  · rw [hv]; rfl
  · rw [hv]; rfl
  · rw [lineOf_none hv]; rfl
  · rw [hv, lineOf_val]; rfl
  · rw [hv]; rfl
  · rw [hv]; rfl
  · rw [stationOf_none hv]; rfl
  · rw [hd, stationOf_val]
    exact congrArg (fun o : Option Station => match o with
      | some st => Except.ok (s.stationView d st) | none => Except.error Status.outOfRange) hv
  · rw [hd, stationOf_val]
    exact congrArg (fun o : Option Station => match o with
      | some st => Except.ok (s.stationView d st) | none => Except.error Status.outOfRange) hv

end Sys2Proof.Machine
end

section
namespace Sys2Proof.Machine

/-! # The laws of the records

What the units that watch a line do to the records: they touch the line's own detectors and
counters and its current coil's zones, counts and grade, and leave what links the records. -/

/-! ## What links the records -/

/-- A coil record with its zones, counts, grade and weight at fixed values. -/
def Coil.bones (c : Coil) : Coil :=
  { c with
    joints := 0, zones := [], unlisted := 0, unlistedOpen := [], faultRows := 0, missedKnots := 0,
    excessKnots := 0, slipTallies := 0, weight := none, density := none, reasons := [],
    grade := .first, limits := ⟨0, 0, 0, 0, 0⟩ }

/-- A line record with its detectors, baselines and counters at fixed values. -/
def Line.bones (l : Line) : Line :=
  { l with
    remainder := 0, baselines := ⟨0, 0, 0, 0⟩, baselinesValid := false, jointClose := none,
    slip := .reset, slipTallies := 0, resyncs := 0, sequenceGaps := 0, staleEntries := 0,
    unrecorded := 0, twist := .reset, knot := .reset }

/-- Between `w` and `v` the units tended line `i`: its own record and its current coil's changed,
but for what links them. -/
structure Works.tends (i : LineIx) (w v : Works) : Prop where
  lots : v.lots = w.lots
  others : ∀ j, j ≠ i → v.line j = w.line j
  line : (v.line i).bones = (w.line i).bones
  coils : ∃ f : Coil → Coil, v.coils = mapTable (Option.map f) w.coils ∧
    ∀ c, (f c).bones = c.bones ∧ (some c.key ≠ (w.line i).coil → f c = c)
  queues : v.queues = w.queues
  held : v.held = w.held
  waitList : v.waitList = w.waitList
  lanes : v.lanes = w.lanes

theorem mapTable_mapTable {α : Type} {n : Nat} (f g : α → α) (v : Vector (Option α) n) :
    mapTable (Option.map g) (mapTable (Option.map f) v) =
      mapTable (Option.map fun x => g (f x)) v := by
  apply Vector.ext
  intro i hi
  rw [mapTable_get, mapTable_get, mapTable_get]
  cases v[i] <;> rfl

section
variable {i : LineIx} {w v u : Works}

theorem Works.tends.coil (h : Works.tends i w v) : (v.line i).coil = (w.line i).coil :=
  show (v.line i).bones.coil = (w.line i).bones.coil by rw [h.line]

theorem Works.tends.position (h : Works.tends i w v) : (v.line i).position = (w.line i).position :=
  show (v.line i).bones.position = (w.line i).bones.position by rw [h.line]

theorem Works.tends.of_modifyLine (w : Works) (i : LineIx) (f : Line → Line)
    (hf : (f (w.line i)).bones = (w.line i).bones) : Works.tends i w (w.modifyLine i f) :=
  { lots := rfl
    others := fun j hj => Works.line_modifyLine_other w i j f hj
    line := by rw [Works.line_modifyLine_self]; exact hf
    coils := ⟨fun c => c, (mapTable_map_id _).symm, fun _ => ⟨rfl, fun _ => rfl⟩⟩
    queues := rfl
    held := rfl
    waitList := rfl
    lanes := rfl }

theorem Works.tends.of_modifyCoil (w : Works) {i : LineIx} {k : CoilKey} (f : Coil → Coil)
    (hk : (w.line i).coil = some k) (hf : ∀ c, (f c).bones = c.bones) :
    Works.tends i w (w.modifyCoil k f) :=
  { lots := rfl
    others := fun _ _ => rfl
    line := rfl
    coils := ⟨fun c => if c.key = k then f c else c, rfl, fun c => by
      dsimp only
      by_cases hc : c.key = k
      · rw [if_pos hc]
        exact ⟨hf c, fun hne => absurd (by rw [hk, hc]) hne⟩
      · rw [if_neg hc]
        exact ⟨rfl, fun _ => rfl⟩⟩
    queues := rfl
    held := rfl
    waitList := rfl
    lanes := rfl }

/-- A change of the notices alone. -/
theorem Works.tends.of_notices (w : Works) (i : LineIx) (n : Notices) :
    Works.tends i w { w with notices := n } :=
  { lots := rfl
    others := fun _ _ => rfl
    line := rfl
    coils := ⟨fun c => c, (mapTable_map_id _).symm, fun _ => ⟨rfl, fun _ => rfl⟩⟩
    queues := rfl
    held := rfl
    waitList := rfl
    lanes := rfl }

theorem Works.tends.refl (w : Works) (i : LineIx) : Works.tends i w w := .of_notices w i w.notices

theorem Works.tends.trans (h : Works.tends i w v) (k : Works.tends i v u) : Works.tends i w u := by
  obtain ⟨f, hf, hfc⟩ := h.coils
  obtain ⟨g, hg, hgc⟩ := k.coils
  exact {
    lots := k.lots.trans h.lots
    others := fun j hj => (k.others j hj).trans (h.others j hj)
    line := k.line.trans h.line
    coils := ⟨fun c => g (f c), by rw [hg, hf, mapTable_mapTable], fun c => by
      refine ⟨(hgc (f c)).1.trans (hfc c).1, fun hne => ?_⟩
      dsimp only
      rw [(hfc c).2 hne]
      exact (hgc c).2 (by rw [h.coil]; exact hne)⟩
    queues := k.queues.trans h.queues
    held := k.held.trans h.held
    waitList := k.waitList.trans h.waitList
    lanes := k.lanes.trans h.lanes }

end

/-! ## The Grade Unit -/

theorem Coil.regraded_bones (c : Coil) (len : Nat) : (c.regraded len).bones = c.bones := by
  rw [Coil.regraded_eq]; rfl

theorem Coil.withReason_bones (c : Coil) (r : Reason) : (c.withReason r).bones = c.bones := by
  rw [Coil.withReason_eq]; rfl

theorem Coil.openZone_bones (c : Coil) (q : Cause) (pos : Nat) (x : Int) :
    (c.openZone q pos x).bones = c.bones := by rw [Coil.openZone_frame]; rfl

theorem Coil.closeZone_bones (c : Coil) (q : Cause) (pos len : Nat) :
    (c.closeZone q pos len).bones = c.bones := by rw [Coil.closeZone_frame]; rfl

section
variable (w : Works) (i : LineIx)

theorem Works.openZone_tends {k : CoilKey} (hk : (w.line i).coil = some k) (q : Cause) (pos : Nat)
    (x : Int) (notify : Bool) : w.tends i (w.openZone k q pos x notify) := by
  unfold Works.openZone
  split
  · exact .refl w i
  · split
    · exact .refl w i
    · have hopen : w.tends i (w.modifyCoil k fun c =>
          (c.openZone q pos x).regraded (w.coilLength c)) :=
        .of_modifyCoil w _ hk fun c => (Coil.regraded_bones _ _).trans (c.openZone_bones q pos x)
      dsimp only
      split
      · exact hopen.trans (.of_notices _ i _)
      · exact hopen

theorem Works.countUnrecorded_tends (n : Nat) : w.tends i (w.countUnrecorded i n) :=
  .of_modifyLine w i _ rfl

theorem Works.requestOpen_tends (q : Cause) (pos : Nat) (x : Int) :
    w.tends i (w.requestOpen i q pos x) := by
  unfold Works.requestOpen
  split
  · exact w.countUnrecorded_tends i 1
  · next c hc => exact w.openZone_tends i (Works.currentCoil?_key hc).1 q _ x true

theorem Works.requestClose_tends (q : Cause) (pos : Nat) : w.tends i (w.requestClose i q pos) := by
  unfold Works.requestClose
  split
  · exact .refl w i
  · next c hc => exact .of_modifyCoil w _ (Works.currentCoil?_key hc).1 fun b => b.closeZone_bones _ _ _

theorem Works.raiseExtreme_tends (q : Cause) (x : Int) : w.tends i (w.raiseExtreme i q x) := by
  unfold Works.raiseExtreme
  split
  · exact .refl w i
  · next c hc => exact .of_modifyCoil w _ (Works.currentCoil?_key hc).1 fun _ => rfl

theorem Works.ask_tends (r : ZoneRequest) : w.tends i (w.ask i r) := by
  cases r with
  | openAt q pos x => exact w.requestOpen_tends i q pos x
  | closeAt q pos => exact w.requestClose_tends i q pos
  | raise q x => exact w.raiseExtreme_tends i q x

end

theorem Works.askAll_tends (i : LineIx) (as : List ZoneRequest) : ∀ w : Works,
    w.tends i (w.askAll i as) := by
  induction as with
  | nil => exact fun w => .refl w i
  | cons r as ih => exact fun w => (w.ask_tends i r).trans (ih (w.ask i r))

section
variable (w : Works) (i : LineIx)

theorem Works.regrade_tends {k : CoilKey} (hk : (w.line i).coil = some k) :
    w.tends i (w.regrade k) :=
  .of_modifyCoil w _ hk fun _ => Coil.regraded_bones _ _

theorem Works.gainReason_tends {k : CoilKey} (hk : (w.line i).coil = some k) (r : Reason) :
    w.tends i (w.gainReason k r) :=
  .of_modifyCoil w _ hk fun c => by
    split
    · rfl
    · exact (Coil.regraded_bones _ _).trans (c.withReason_bones r)

theorem Works.closeJoint_tends : w.tends i (w.closeJoint i) := by
  unfold Works.closeJoint
  split
  · exact .refl w i
  · split
    · exact (w.requestClose_tends i _ _).trans (.of_modifyLine _ i _ rfl)
    · exact .refl w i

theorem Coil.countJoint_bones (c : Coil) : c.countJoint.bones = c.bones := by
  unfold Coil.countJoint
  dsimp only
  split
  · exact (Coil.withReason_bones _ _).trans rfl
  · rfl

theorem Works.markJoint_tends (pos : Nat) : w.tends i (w.markJoint i pos) := by
  unfold Works.markJoint
  split
  · exact w.countUnrecorded_tends i 1
  · next c hc =>
    have hkey := (Works.currentCoil?_key hc).1
    have hcount : w.tends i (w.modifyCoil c.key Coil.countJoint) :=
      .of_modifyCoil w _ hkey Coil.countJoint_bones
    have hmarked : ∀ v, w.tends i v → w.tends i ((v.regrade c.key).closeJoint i) := fun v hv =>
      (hv.trans (v.regrade_tends i (hv.coil.trans hkey))).trans (Works.closeJoint_tends _ i)
    refine hmarked _ ?_
    split
    · exact (hcount.trans (.of_modifyCoil _ Coil.mergeJoint (hcount.coil.trans hkey) fun _ => rfl)).trans
        (.of_modifyLine _ i _ rfl)
    · exact (hcount.trans (Works.openZone_tends _ i (hcount.coil.trans hkey) _ _ _ _)).trans
        (.of_modifyLine _ i _ rfl)

theorem Works.applyMark_tends (pos : Nat) (kind : MarkKind) :
    w.tends i (w.applyMark i pos kind) := by
  cases kind with
  | joint => exact w.markJoint_tends i pos
  | flawStart => exact w.requestOpen_tends i _ _ _
  | flawEnd => exact w.requestClose_tends i _ _

theorem Works.reopenZones_tends (pos : Nat) : w.tends i (w.reopenZones i pos) := by
  have hopen (v : Works) (b : Bool) (q : Cause) (x : Int) :
      v.tends i (if b then v.requestOpen i q pos x else v) := by
    split
    · exact v.requestOpen_tends i q pos x
    · exact .refl v i
  exact ((hopen w _ _ _).trans (hopen _ _ _ _)).trans (hopen _ _ _ _)

end

theorem Works.openCarried_tends {i : LineIx} {k : CoilKey} (carry : List (Cause × Int)) :
    ∀ w : Works, (w.line i).coil = some k → w.tends i (w.openCarried k carry) := by
  induction carry with
  | nil => exact fun w _ => .refl w i
  | cons q rest ih =>
    intro w hk
    have h := w.openZone_tends i hk q.1 0 q.2 false
    exact h.trans (ih _ (h.coil.trans hk))

/-! ## The monitors and the slip check -/

section
variable (w : Works) (i : LineIx)

theorem Works.countRows_tends (rs : List Row) : w.tends i (w.countRows i rs) := by
  unfold Works.countRows
  split
  · next c hc => exact .of_modifyCoil w _ (Works.currentCoil?_key hc).1 fun _ => rfl
  · exact w.countUnrecorded_tends i _

theorem Works.applyKnot_tends (r : KnotRequest) : w.tends i (w.applyKnot i r) := by
  rw [Works.applyKnot_eq]
  exact Works.askAll_tends i _ _

theorem Works.applyTwist_tends (r : TwistRequest) : w.tends i (w.applyTwist i r) := by
  rw [Works.applyTwist_eq]
  exact Works.askAll_tends i _ _

theorem Works.setKnot_tends (m : KnotMonitor) :
    w.tends i (w.modifyLine i fun l => { l with knot := m }) := .of_modifyLine w i _ rfl

theorem Works.setTwist_tends (m : TwistMonitor) :
    w.tends i (w.modifyLine i fun l => { l with twist := m }) := .of_modifyLine w i _ rfl

theorem Works.knotRow_tends (r : Row) : w.tends i (w.knotRow i r) :=
  (w.setKnot_tends i _).trans (Works.applyKnot_tends _ i _)

theorem Works.knotTally_tends (rows : Nat) (es : List FaultEntry) (overflow : Bool) (pre : Nat) :
    w.tends i (w.knotTally i rows es overflow pre) := by
  have hrows : ∀ (rs : List Row) (v : Works), v.tends i (rs.foldl (fun w r => w.knotRow i r) v) := by
    intro rs
    induction rs with
    | nil => exact fun v => .refl v i
    | cons r rs ih => exact fun v => (v.knotRow_tends i r).trans (ih _)
  exact ((Works.tends.of_modifyLine w i _ rfl).trans (Works.countRows_tends _ i _)).trans (hrows _ _)

theorem Works.twistTally_tends (dl dq pre : Nat) : w.tends i (w.twistTally i dl dq pre) :=
  (w.setTwist_tends i _).trans (Works.applyTwist_tends _ i _)

theorem Works.monitorTally_tends (measure : Nat) (d : Counts) (f : CountFrame) (pre : Nat) :
    w.tends i (w.monitorTally i measure d f pre) := by
  unfold Works.monitorTally
  split
  · exact w.twistTally_tends i _ _ _
  · exact w.knotTally_tends i _ _ _ _
  · exact .refl w i

theorem Works.applySlip_tends (r : SlipRequest) : w.tends i (w.applySlip i r) := by
  cases r with
  | nothing => exact .refl w i
  | openAt pos x => exact (w.requestOpen_tends i _ _ _).trans (.of_notices _ i _)
  | closeAt pos => exact w.requestClose_tends i _ _
  | raise x => exact w.raiseExtreme_tends i _ _

theorem Works.countSlip_tends : w.tends i (w.countSlip i) := by
  have hline : w.tends i (w.modifyLine i fun l =>
      { l with slipTallies := countUp l.slipTallies 1 }) := .of_modifyLine w i _ rfl
  unfold Works.countSlip
  dsimp only
  split
  · exact hline
  · next c hc => exact hline.trans (.of_modifyCoil _ _ (Works.currentCoil?_key hc).1 fun _ => rfl)

theorem Works.slipCheck_tends (permille measure : Nat) (check : Option Nat) (pre : Nat) :
    w.tends i (w.slipCheck permille i measure check pre) := by
  unfold Works.slipCheck
  split
  · exact .refl w i
  · split
    · exact .refl w i
    · exact ((w.countSlip_tends i).trans (.of_modifyLine _ i _ rfl)).trans
        (Works.applySlip_tends _ i _)
    · exact (Works.tends.of_modifyLine w i _ rfl).trans (Works.applySlip_tends _ i _)

theorem Works.gradeTally_tends : w.tends i (w.gradeTally i) := by
  unfold Works.gradeTally
  dsimp only
  split
  · exact w.closeJoint_tends i
  · next k hk => exact (w.closeJoint_tends i).trans (Works.regrade_tends _ i hk)

/-- R41: what a tally does after its credit, up to the planned-cut test. -/
theorem Works.checked_tends (measure : Nat) (d : Counts) (f : CountFrame) (pre permille : Nat)
    (check : Option Nat) : w.tends i
      (((w.monitorTally i measure d f pre).slipCheck permille i measure check pre).gradeTally i) :=
  ((w.monitorTally_tends i measure d f pre).trans (Works.slipCheck_tends _ i _ _ _ _)).trans
    (Works.gradeTally_tends _ i)

theorem Works.closeMonitorZones_tends : w.tends i (w.closeMonitorZones i) :=
  ((w.requestClose_tends i _ _).trans (Works.requestClose_tends _ i _ _)).trans
    (Works.requestClose_tends _ i _ _)

theorem Works.markUncertain_tends : w.tends i (w.markUncertain i) := by
  unfold Works.markUncertain
  split
  · exact .refl w i
  · next k hk => exact w.gainReason_tends i hk _

theorem Works.resync_tends (counts : Counts) : w.tends i (w.resync i counts) := by
  refine (((Works.tends.of_modifyLine w i _ ?_).trans (Works.markUncertain_tends _ i)).trans
    (.of_notices _ i _)).trans (Works.closeMonitorZones_tends _ i)
  rw [Line.resynced_eq]
  rfl

theorem Works.resetSlip_tends : w.tends i (w.resetSlip i) := by
  unfold Works.resetSlip
  refine Works.tends.trans ?_ (.of_modifyLine _ i _ rfl)
  split
  · exact w.requestClose_tends i _ _
  · exact .refl w i

end

end Sys2Proof.Machine
end

section
namespace Sys2Proof.Machine

/-! ## What a command or a frame asks of the records -/

/-- What one command, or the content of one frame, does to the records `w`, with what was checked
before. `isolated` says which lines' stations are ISOLATED; lots open only while `live`. -/
inductive Works.Does (isolated : LineIx → Bool) (live : Prop) (w : Works) : Works → Prop
  | plain {v : Works} (lots : v.lots = w.lots) (lines : v.lines = w.lines)
    (coils : v.coils = w.coils) (waitList : v.waitList = w.waitList) (queues : v.queues = w.queues) :
    Does isolated live w v
  | tally (permille : Nat) (i : LineIx) (f : CountFrame) :
    Does isolated live w (w.tally permille i f)
  | mark (permille : Nat) (i : LineIx) (kind : MarkKind) (f : CountFrame) :
    Does isolated live w (w.mark permille i kind f)
  | cutDone (permille : Nat) (i : LineIx) (f : CountFrame) (n : Notices) :
    Does isolated live w { (w.cutDone permille i f).1 with notices := n }
  | takes (p : PackerIx) (c : Coil) (h : w.coil? c.key = some c)
    (head : w.queues[p].head? = some c.key) (full : c.state = .full) :
    Does isolated live w (w.modifyCoil c.key fun b => { b with state := .taken })
  | seals (p : PackerIx) (c : Coil) (weight : Nat) (h : w.coil? c.key = some c)
    (state : c.state = .full ∨ c.state = .taken)
    (queued : c.packer = some p ∨ c.key ∈ w.queues[p]) (bound : weight ≤ Config.wordLimit) :
    Does isolated live w (w.sealAt p c.key weight)
  | retires (c : Coil) (h : w.coil? c.key = some c) (sealed : c.state = .sealed) :
    Does isolated live w (w.retire c)
  | opensLot (e : LotIx) (n : Nat) (sp : Spec) (pos : 1 ≤ n) (bound : n ≤ 65535)
    (fresh : w.lot? n = none) (free : lowestFree w.lots = some e) (ready : live) :
    Does isolated live w { w with lots := w.lots.set e (some (Lot.opening n sp)) }
  | amends (n : Nat) (sp : Spec) (t : Lot) (h : w.lot? n = some t) (state : t.state ≠ .closed)
    (revision : t.revision < 255) : Does isolated live w (w.amend n sp)
  | closes (n : Nat) (t : Lot) (h : w.lot? n = some t) (opened : t.state = .opened) :
    Does isolated live w ((w.modifyLot n fun l => { l with state := .closing }).closeIfEmpty n)
  | removesLot (n : Nat) (t : Lot) (h : w.lot? n = some t) (closed : t.state = .closed)
    (empty : w.coilsHeld n = 0) : Does isolated live w (w.removeLot n)
  | assigns (i : LineIx) (n : Nat) (t : Lot) (v : Works) (used : (w.line i).kind ≠ .unused)
    (h : w.lot? n = some t) (idle : (w.line i).state = .idle) (opened : t.state = .opened)
    (opens : (w.modifyLine i fun l => l.assigned t (isolated i)).openCoil i 0 = .ok v) :
    Does isolated live w v
  | releases (i : LineIx) (busy : (w.line i).state ≠ .idle) : Does isolated live w (w.release i)
  | wheels (i : LineIx) (m : MeasureSource) (c : CheckSource) :
    Does isolated live w (w.setWheels i m c)
  | marks (c : Coil) (start stop : Nat) (h : w.coil? c.key = some c) (state : c.state ≠ .sealed)
    (order : start ≤ stop) (within : stop ≤ w.coilLength c) :
    Does isolated live w (w.placeOperator c.key start stop)

section
variable {isolated : LineIx → Bool} {live : Prop} {w v : Works}

theorem Works.Does.refl : w.Does isolated live w := .plain rfl rfl rfl rfl rfl

theorem Works.Does.evolves (h : w.Does isolated live v) : w.Evolves v := by
  cases h with
  | plain lots lines coils => exact .lists lots lines coils
  | tally permille i f => exact w.tally_evolves permille i f
  | mark permille i kind f => exact w.mark_evolves permille i kind f
  | cutDone permille i f n => exact (w.cutDone_evolves permille i f).trans (.lists rfl rfl rfl)
  | takes p c => exact .coil w c.key _ fun b _ => .placed b .taken b.packer b.stop
  | seals p c weight _ _ _ bound => exact w.sealAt_evolves p c.key weight bound
  | retires c => exact w.retire_evolves c
  | opensLot e n sp pos bound fresh free => exact .opensLot w e n sp pos bound fresh free
  | amends n sp t h _ hr =>
    exact w.amend_evolves n sp fun l hl => by
      obtain rfl := Option.some.inj (h.symm.trans hl)
      exact hr
  | closes n => exact (Works.Evolves.lot w n _ fun l _ => .closing l).trans (Works.closeIfEmpty_evolves _ n)
  | removesLot n t _ _ empty => exact .removesLot w n empty
  | assigns i n t v _ h _ hs opens =>
    exact (Works.Evolves.line w i _ (.assigned _ n t _ h hs)).trans (.opensCoil _ v _ _ opens)
  | releases i => exact w.release_evolves i
  | wheels i m c => exact w.setWheels_evolves i m c
  | marks c start stop _ _ order => exact w.placeOperator_evolves c.key start stop order

theorem Works.Does.keyed (h : w.Does isolated live v) (hk : w.keyed) : v.keyed := h.evolves.keyed hk

end

/-! ## Frames -/

section
variable {isolated : LineIx → Bool} {live : Prop} (s : State) (d : StationIx)

theorem State.takenContent_does (role : Role) (kind : Byte) (payload : List Byte) :
    s.works.Does isolated live (s.takeContent d role kind payload).works := by
  rcases State.takeContent_cases s d role kind payload with ⟨-, h⟩ | ⟨c, hc, ⟨-, h⟩ | ⟨-, h⟩⟩ <;>
    rw [h]
  · exact .plain rfl rfl rfl rfl rfl
  · unfold State.passFrame
    split
    · exact .refl
    · exact .refl
    · exact .tally _ _ _
    · exact .mark _ _ _ _
    · dsimp only
      split
      · exact .cutDone _ _ _ _
      · exact .cutDone _ _ _ (s.works.cutDone s.settings.slipPermille _ _).1.notices
    · exact .refl
    · exact .refl
    · next p k =>
      show s.works.Does isolated live (s.works.take p k).1
      rcases Works.take_cases s.works p k with ⟨r, -, e⟩ | ⟨hn, e⟩ <;> rw [e]
      · exact .plain rfl rfl rfl rfl rfl
      · obtain ⟨c, hk, hhead, hs, -⟩ := Works.packingRefusal_none _ _ _ _ hn
        obtain ⟨-, rfl⟩ := Works.coil?_some _ _ _ hk
        exact .takes p c hk hhead hs
    · next p k weight =>
      show s.works.Does isolated live (s.works.sealByPacker p k weight).1
      rcases Works.sealByPacker_cases s.works p k weight with ⟨r, -, e⟩ | ⟨hn, e⟩ <;> rw [e]
      · exact .plain rfl rfl rfl rfl rfl
      · obtain ⟨c, hk, hhead, hs, -⟩ := Works.packingRefusal_none _ _ _ _ hn
        obtain ⟨-, rfl⟩ := Works.coil?_some _ _ _ hk
        exact .seals p c weight hk (.inr hs) (.inr (List.mem_of_mem_head? hhead))
          (contentOf_sealed_weight kind payload c.key weight hc)
    · exact .refl
  · exact .plain rfl rfl rfl rfl rfl

end

/-! ## Host commands -/

section
variable {isolated : LineIx → Bool} {live : Prop} (s : State)

theorem State.lotOpen_does (n : Nat) (sp : Spec) (hn : n ≤ 65535) (ready : live) :
    s.works.Does isolated live (s.lotOpen n sp).works := by
  unfold State.lotOpen
  split
  · exact .refl
  · next h0 =>
    split
    · exact .refl
    · next hf =>
      split
      · exact .refl
      · split
        · exact .refl
        · next e he =>
          exact .opensLot e n sp (Nat.pos_of_ne_zero h0) hn (by simpa using hf) he ready

theorem State.lotAmend_does (n : Nat) (sp : Spec) :
    s.works.Does isolated live (s.lotAmend n sp).works := by
  unfold State.lotAmend
  split
  · exact .refl
  · next lot hl =>
    split
    · exact .refl
    · next hc =>
      split
      · exact .refl
      · split
        · exact .refl
        · split
          · exact .refl
          · rw [State.accept_works]
            exact .amends n sp lot hl hc (by omega)

theorem State.lotClose_does (n : Nat) : s.works.Does isolated live (s.lotClose n).works := by
  unfold State.lotClose
  split
  · exact .refl
  · next lot hl =>
    split
    · exact .refl
    · exact .refl
    · next ho => exact .closes n lot hl ho

theorem State.lotRetire_does (n : Nat) : s.works.Does isolated live (s.lotRetire n).works := by
  unfold State.lotRetire
  split
  · exact .refl
  · next lot hl =>
    split
    · exact .refl
    · exact .refl
    · next hc =>
      split
      · exact .refl
      · exact .removesLot n lot hl hc (by omega)

theorem State.lineAssign_does (line n : Nat) :
    s.works.Does s.link.lineIsolated live (s.lineAssign line n).works := by
  unfold State.lineAssign
  split
  · exact .refl
  · next i _ =>
    unfold State.assign
    dsimp only
    split
    · exact .refl
    · next hu =>
      split
      · exact .refl
      · next lot hl =>
        split
        · exact .refl
        · next ho =>
          split
          · exact .refl
          · split
            · exact .refl
            · next v hv =>
              simp only [not_or, not_not] at ho
              exact .assigns i n lot v hu hl ho.1 ho.2 hv

theorem State.lineRelease_does (line : Nat) :
    s.works.Does isolated live (s.lineRelease line).works := by
  unfold State.lineRelease
  split
  · exact .refl
  · next i _ =>
    dsimp only
    split
    · exact .refl
    · next hs => exact .releases i fun h => hs (.inl h)

theorem State.lineWheels_does (line m c : Nat) :
    s.works.Does isolated live (s.lineWheels line m c).works := by
  unfold State.lineWheels
  split
  · split
    · exact .refl
    · exact .wheels _ _ _
  · exact .refl

theorem State.laneSet_does (line lane : Nat) :
    s.works.Does isolated live (s.laneSet line lane).works := by
  unfold State.laneSet
  split
  · split
    · exact .refl
    · exact .plain rfl rfl rfl rfl rfl
  · exact .refl

theorem State.coilMark_does (k : CoilKey) (start stop : Nat) :
    s.works.Does isolated live (s.coilMark k start stop).works := by
  unfold State.coilMark
  split
  · exact .refl
  · next c hk =>
    obtain ⟨-, rfl⟩ := Works.coil?_some _ _ _ hk
    dsimp only
    split
    · exact .refl
    · next hs =>
      split
      · exact .refl
      · split
        · exact .refl
        · exact .marks c _ _ hk hs (by omega) (Nat.min_le_right _ _)

theorem State.coilSeal_does (k : CoilKey) (weight : Nat) (bound : weight ≤ Config.wordLimit) :
    s.works.Does isolated live (s.coilSeal k weight).works := by
  unfold State.coilSeal
  split
  · exact .refl
  · next c hk =>
    obtain ⟨-, rfl⟩ := Works.coil?_some _ _ _ hk
    split
    · next p hs hp => exact .seals p c weight hk (.inl hs) (.inl hp) bound
    · next p hs hp => exact .seals p c weight hk (.inr hs) (.inl hp) bound
    · exact .refl

theorem State.coilRetire_does (k : CoilKey) :
    s.works.Does isolated live (s.coilRetire k).works := by
  unfold State.coilRetire
  split
  · exact .refl
  · next c hk =>
    obtain ⟨-, rfl⟩ := Works.coil?_some _ _ _ hk
    split
    · exact .refl
    · exact .refl
    · exact .refl
    · next hs => exact .retires c hk hs

end

end Sys2Proof.Machine
end

section
namespace Sys2Proof.Machine

/-! ## Stations and the lines they speak for (R17 to R19, R158) -/

/-- What binds a station to a line: its role, and whether it is ISOLATED. -/
def Station.bond (st : Station) : Role × Bool := (st.role, st.isolated)

/-- The bond of the station at an address, if there is one. -/
def Link.bond (k : Link) (d : StationIx) : Option (Role × Bool) := k.stations[d].map Station.bond

theorem Link.lineIsolated_iff (k : Link) (i : LineIx) : k.lineIsolated i = true ↔
    ∃ d, k.bond d = some (.line i, true) := by
  unfold Link.lineIsolated Link.bond Station.bond
  rw [List.any_eq_true]
  constructor
  · rintro ⟨st, hst, h⟩
    obtain ⟨d, hd⟩ := (mem_inUse _ _).1 hst
    simp only [Bool.and_eq_true, decide_eq_true_eq] at h
    exact ⟨d, by rw [hd, Option.map_some, h.1, h.2]⟩
  · rintro ⟨d, hd⟩
    obtain ⟨st, hst, h⟩ := Option.map_eq_some_iff.1 hd
    refine ⟨st, (mem_inUse _ _).2 ⟨d, hst⟩, ?_⟩
    simp only [Prod.mk.injEq] at h
    simp [h.1, h.2]

theorem Link.lineIsolated_congr {k k' : Link} (h : ∀ d, k'.bond d = k.bond d) (i : LineIx) :
    k'.lineIsolated i = k.lineIsolated i := by
  rw [Bool.eq_iff_iff, Link.lineIsolated_iff, Link.lineIsolated_iff]
  simp only [h]

theorem Link.bond_modifyStation (k : Link) (d e : StationIx) (f : Station → Station) :
    (k.modifyStation d f).bond e =
      if e = d then k.stations[d].map fun st => (f st).bond else k.bond e := by
  unfold Link.bond Link.modifyStation
  rw [set_getFin]
  split
  · rw [Option.map_map]; rfl
  · rfl

theorem Link.bond_modifyStation_same (k : Link) (d e : StationIx) (f : Station → Station)
    (hf : ∀ st, (f st).bond = st.bond) : (k.modifyStation d f).bond e = k.bond e := by
  rw [Link.bond_modifyStation]
  split
  · next h => rw [h, Link.bond]; simp only [hf]
  · rfl

theorem Link.bond_mapTable {k k' : Link} {f : Station → Station}
    (h : k'.stations = mapTable (Option.map f) k.stations) (d : StationIx) :
    k'.bond d = k.stations[d].map fun st => (f st).bond := by
  unfold Link.bond
  rw [h, mapTable_getFin, Option.map_map]
  rfl

/-- R12: no two stations speak for one line or packer. -/
def State.rolesApart (s : State) : Prop :=
  ∀ (d e : StationIx) (r : Role) (a b : Bool), s.link.bond d = some (r, a) →
    s.link.bond e = some (r, b) → d = e

theorem State.rolesApart_iff (s : State) : s.rolesApart ↔
    ∀ (d e : StationIx) (st su : Station), s.link.stations[d] = some st →
      s.link.stations[e] = some su → st.role = su.role → d = e := by
  unfold State.rolesApart Link.bond Station.bond
  constructor
  · intro h d e st su hd he hr
    exact h d e st.role st.isolated su.isolated (by rw [hd]; rfl) (by rw [he, hr]; rfl)
  · intro h d e r a b hd he
    obtain ⟨st, hst, hs⟩ := Option.map_eq_some_iff.1 hd
    obtain ⟨su, hsu, hu⟩ := Option.map_eq_some_iff.1 he
    simp only [Prod.mk.injEq] at hs hu
    exact h d e st su hst hsu (hs.1.trans hu.1.symm)

/-- R17: a line is SUSPENDED exactly when it is not IDLE and its station is ISOLATED. -/
def State.suspendedAs (s : State) (i : LineIx) : Prop :=
  (s.works.line i).suspended = true ↔ (s.works.line i).state ≠ .idle ∧ s.link.lineIsolated i = true

/-! ## Changes that reach only suspensions and gap counts -/

/-- `m` is `s` but for the suspensions, the gap counts, the notices and the link, the suspensions
being right when they were. -/
structure State.readies (s m : State) : Prop where
  lots : m.works.lots = s.works.lots
  coils : m.works.coils = s.works.coils
  waitList : m.works.waitList = s.works.waitList
  queues : m.works.queues = s.works.queues
  line : ∀ j, m.works.line j = { s.works.line j with
    suspended := (m.works.line j).suspended, sequenceGaps := (m.works.line j).sequenceGaps }
  roles : s.rolesApart → m.rolesApart
  suspended : s.rolesApart → (∀ j, s.suspendedAs j) → ∀ j, m.suspendedAs j
  part : m.partState = s.partState

theorem State.readies.trans {s m u : State} (h : s.readies m) (k : m.readies u) : s.readies u where
  lots := k.lots.trans h.lots
  coils := k.coils.trans h.coils
  waitList := k.waitList.trans h.waitList
  queues := k.queues.trans h.queues
  line j := by rw [k.line j, h.line j]
  roles hs := k.roles (h.roles hs)
  suspended hs hj := k.suspended (h.roles hs) (h.suspended hs hj)
  part := k.part.trans h.part

/-- The bonds stand, and the records but for the notices and gap counts. -/
theorem State.readies.of_bonds {s m : State} (lots : m.works.lots = s.works.lots)
    (coils : m.works.coils = s.works.coils) (waitList : m.works.waitList = s.works.waitList)
    (queues : m.works.queues = s.works.queues)
    (line : ∀ j, ∃ n, m.works.line j = { s.works.line j with sequenceGaps := n })
    (bonds : ∀ d, m.link.bond d = s.link.bond d) (part : m.partState = s.partState) :
    s.readies m where
  lots := lots
  coils := coils
  waitList := waitList
  queues := queues
  line j := by
    obtain ⟨n, hn⟩ := line j
    rw [hn]
  roles h d e r a b hd he := h d e r a b ((bonds d).symm.trans hd) ((bonds e).symm.trans he)
  suspended _ h j := by
    unfold State.suspendedAs
    obtain ⟨n, hn⟩ := line j
    rw [hn, Link.lineIsolated_congr bonds j]
    exact h j
  part := part

theorem State.readies.refl (s : State) : s.readies s :=
  .of_bonds rfl rfl rfl rfl (fun _ => ⟨_, rfl⟩) (fun _ => rfl) rfl

/-! ### Isolation and reinstatement -/

/-- The bond of one station changes to the isolation `b`, and its line's suspension with it. -/
theorem State.readies.of_rebond {s m : State} (d : StationIx) (st : Station) (b : Bool)
    (hst : s.link.bond d = some st.bond)
    (lots : m.works.lots = s.works.lots)
    (coils : m.works.coils = s.works.coils) (waitList : m.works.waitList = s.works.waitList)
    (queues : m.works.queues = s.works.queues)
    (owner : ∀ i, st.role = .line i →
      m.works.line i = { s.works.line i with suspended := (m.works.line i).suspended } ∧
      (s.suspendedAs i → ((m.works.line i).suspended = true ↔
        (s.works.line i).state ≠ .idle ∧ b = true)))
    (others : ∀ j, st.role ≠ .line j → m.works.line j = s.works.line j)
    (bond : m.link.bond d = some (st.role, b)) (bonds : ∀ e, e ≠ d → m.link.bond e = s.link.bond e)
    (part : m.partState = s.partState) : s.readies m where
  lots := lots
  coils := coils
  waitList := waitList
  queues := queues
  line j := by
    by_cases hj : st.role = .line j
    · rw [(owner j hj).1]
    · rw [others j hj]
  roles h e e' r x y he he' := by
    have back : ∀ e r x, m.link.bond e = some (r, x) → ∃ x', s.link.bond e = some (r, x') := by
      intro e r x he
      by_cases hd : e = d
      · subst hd
        rw [bond] at he
        obtain ⟨rfl, -⟩ := Prod.mk.inj (Option.some.inj he)
        exact ⟨_, hst⟩
      · exact ⟨x, (bonds e hd).symm.trans he⟩
    obtain ⟨x', hx⟩ := back e r x he
    obtain ⟨y', hy⟩ := back e' r y he'
    exact h e e' r x' y' hx hy
  suspended h hs j := by
    unfold State.suspendedAs
    by_cases hj : st.role = .line j
    · have hiso : m.link.lineIsolated j = true ↔ b = true := by
        rw [Link.lineIsolated_iff]
        constructor
        · rintro ⟨e, he⟩
          by_cases hd : e = d
          · subst hd
            rw [bond] at he
            exact (Prod.mk.inj (Option.some.inj he)).2
          · have hsame := h e d (.line j) true st.isolated ((bonds e hd).symm.trans he)
              (by rw [hst, Station.bond, hj])
            exact absurd hsame hd
        · intro hb
          exact ⟨d, by rw [bond, hj, hb]⟩
      rw [hiso, (owner j hj).2 (hs j), (owner j hj).1]
    · have hiso : m.link.lineIsolated j = true ↔ s.link.lineIsolated j = true := by
        rw [Link.lineIsolated_iff, Link.lineIsolated_iff]
        refine exists_congr fun e => ?_
        by_cases hd : e = d
        · subst hd
          rw [bond, hst, Station.bond]
          constructor <;> intro he <;>
            exact absurd (Prod.mk.inj (Option.some.inj he)).1 hj
        · rw [bonds e hd]
      rw [hiso, others j hj]
      exact hs j
  part := part

theorem Works.line_suspendLine (w : Works) (i : LineIx) : (w.suspendLine i).line i =
    { w.line i with
      suspended := if (w.line i).state = .idle then (w.line i).suspended else true } := by
  unfold Works.suspendLine
  rw [Works.line_modifyLine_self]
  dsimp only
  split
  · next h => rw [if_pos h]
  all_goals next h => rw [if_neg (by rw [h]; decide)]

theorem Works.ownerIsolated_other (w : Works) (r : Role) {j : LineIx} (hj : r ≠ .line j) :
    (w.ownerIsolated r).line j = w.line j := by
  cases r with
  | line i => exact Works.line_modifyLine_other w i j _ fun h => hj (by rw [h])
  | packer p => rfl

theorem Works.ownerReinstated_other (w : Works) (r : Role) {j : LineIx} (hj : r ≠ .line j) :
    (w.ownerReinstated r).line j = w.line j := by
  cases r with
  | line i => exact Works.line_modifyLine_other w i j _ fun h => hj (by rw [h])
  | packer p => rfl

theorem Works.ownerIsolated_lists (w : Works) (r : Role) :
    (w.ownerIsolated r).lots = w.lots ∧ (w.ownerIsolated r).coils = w.coils ∧
    (w.ownerIsolated r).waitList = w.waitList ∧ (w.ownerIsolated r).queues = w.queues := by
  cases r <;> exact ⟨rfl, rfl, rfl, rfl⟩

theorem Works.ownerReinstated_lists (w : Works) (r : Role) :
    (w.ownerReinstated r).lots = w.lots ∧ (w.ownerReinstated r).coils = w.coils ∧
    (w.ownerReinstated r).waitList = w.waitList ∧ (w.ownerReinstated r).queues = w.queues := by
  cases r <;> exact ⟨rfl, rfl, rfl, rfl⟩

/-- R17, R158: a station becomes ISOLATED, and its line SUSPENDED. -/
theorem State.readies.of_isolates {s m : State} (d : StationIx) (st : Station)
    (hst : s.link.bond d = some st.bond) (works : m.works = s.works.ownerIsolated st.role)
    (bond : m.link.bond d = some (st.role, true))
    (bonds : ∀ e, e ≠ d → m.link.bond e = s.link.bond e) (part : m.partState = s.partState) :
    s.readies m := by
  obtain ⟨hlots, hcoils, hwait, hqueues⟩ := s.works.ownerIsolated_lists st.role
  refine .of_rebond d st true hst (by rw [works, hlots]) (by rw [works, hcoils])
    (by rw [works, hwait]) (by rw [works, hqueues]) (fun i hi => ?_)
    (fun j hj => by rw [works, Works.ownerIsolated_other _ _ hj]) bond bonds part
  have hline : m.works.line i = { s.works.line i with suspended :=
      if (s.works.line i).state = .idle then (s.works.line i).suspended else true } := by
    rw [works, hi]; exact s.works.line_suspendLine i
  rw [hline]
  refine ⟨rfl, fun hs => ?_⟩
  dsimp only
  split
  · next h =>
    refine ⟨fun hsus => absurd h (hs.1 hsus).1, fun hb => absurd h hb.1⟩
  · next h => exact ⟨fun _ => ⟨h, rfl⟩, fun _ => rfl⟩

/-- R19, R158: a station is reinstated, and its line returns. -/
theorem State.readies.of_reinstates {s m : State} (d : StationIx) (st : Station) (n : Notices)
    (hst : s.link.bond d = some st.bond)
    (works : m.works = { s.works.ownerReinstated st.role with notices := n })
    (bond : m.link.bond d = some (st.role, false))
    (bonds : ∀ e, e ≠ d → m.link.bond e = s.link.bond e) (part : m.partState = s.partState) :
    s.readies m := by
  obtain ⟨hlots, hcoils, hwait, hqueues⟩ := s.works.ownerReinstated_lists st.role
  refine .of_rebond d st false hst (by rw [works]; exact hlots) (by rw [works]; exact hcoils)
    (by rw [works]; exact hwait) (by rw [works]; exact hqueues) (fun i hi => ?_)
    (fun j hj => by rw [works]; exact Works.ownerReinstated_other _ _ hj) bond bonds part
  have hline : m.works.line i = { s.works.line i with suspended := false } := by
    rw [works, hi]; exact Works.line_modifyLine_self s.works i fun l => { l with suspended := false }
  rw [hline]
  exact ⟨rfl, fun _ => by simp⟩

/-! ## Exchanges -/

theorem Link.closeRound_stations (k : Link) : k.closeRound.stations = k.stations := by
  unfold Link.closeRound
  split
  · split <;> rfl
  · rfl

/-- A change of the link that leaves the contexts. -/
theorem State.readies.of_link {s m : State} (works : m.works = s.works)
    (stations : m.link.stations = s.link.stations) (part : m.partState = s.partState) :
    s.readies m :=
  .of_bonds (by rw [works]) (by rw [works]) (by rw [works]) (by rw [works])
    (fun j => ⟨_, by rw [works]⟩) (fun d => by rw [Link.bond, stations]; rfl) part

theorem State.readies.of_modifyStation (s : State) (d : StationIx) (f : Station → Station)
    (hf : ∀ st, (f st).bond = st.bond) : s.readies (s.modifyStation d f) :=
  .of_bonds rfl rfl rfl rfl (fun _ => ⟨_, rfl⟩)
    (fun e => Link.bond_modifyStation_same s.link d e f hf) rfl

theorem State.endTurn_readies (s : State) : s.readies s.endTurn :=
  .of_link rfl (Link.closeRound_stations _) rfl

theorem State.readies.endTurn {s m : State} (h : s.readies m) : s.readies m.endTurn :=
  h.trans m.endTurn_readies

theorem State.failedTurn_readies (s : State) (d : StationIx) (st : Station)
    (hst : s.link.stations[d] = some st) : s.readies (s.failedTurn d st) := by
  rcases State.failedTurn_cases s d st with ⟨-, h⟩ | ⟨-, h⟩ <;> rw [h]
  · refine State.readies.endTurn (.of_isolates d st (by rw [Link.bond, hst]; rfl) rfl ?_
      (fun e he => ?_) rfl)
    · exact (Link.bond_modifyStation s.link d d _).trans (by rw [if_pos rfl, hst]; rfl)
    · exact (Link.bond_modifyStation s.link d e _).trans (if_neg he)
  · exact State.readies.endTurn (.of_modifyStation s d _ fun _ => rfl)

theorem State.failExchange_readies (s : State) (t : Turn) : s.readies (s.failExchange t) := by
  have h1 : s.readies (s.modifyStation t.station fun st => { st with repeatOwed := true }) :=
    .of_modifyStation s _ _ fun _ => rfl
  unfold State.failExchange
  refine h1.trans ?_
  dsimp only
  split
  · exact State.endTurn_readies _
  · next st hst =>
    split
    · exact State.endTurn_readies _
    · split
      · exact State.readies.endTurn (.of_modifyStation _ t.station _ fun _ => rfl)
      · split
        · exact .of_link rfl rfl rfl
        · exact State.failedTurn_readies _ t.station st hst

theorem State.endReception_readies (s : State) : s.readies s.endReception := .of_link rfl rfl rfl

theorem State.discardFrame_readies (s : State) : s.readies s.discardFrame := by
  rcases State.discardFrame_cases s with ⟨-, h⟩ | ⟨t, -, h⟩ <;> rw [h]
  · exact s.endReception_readies
  · exact s.endReception_readies.trans (State.failExchange_readies _ t)

theorem Station.heard_bond (st : Station) : st.heard.bond = (st.role, false) := by
  unfold Station.heard Station.bond
  dsimp only
  split
  · rfl
  · next h => exact congrArg (Prod.mk st.role) (Bool.eq_false_iff.2 h)

theorem State.exchangeSucceeds_readies (s : State) (d : StationIx) (st : Station)
    (hst : s.link.stations[d] = some st) : s.readies (s.exchangeSucceeds d st) := by
  have hbond : s.link.bond d = some st.bond := by rw [Link.bond, hst]; rfl
  have hat : (s.link.modifyStation d Station.heard).bond d = some (st.role, false) := by
    rw [Link.bond_modifyStation, if_pos rfl, hst]
    exact congrArg some st.heard_bond
  have hother : ∀ e, e ≠ d → (s.link.modifyStation d Station.heard).bond e = s.link.bond e :=
    fun e he => by rw [Link.bond_modifyStation, if_neg he]
  unfold State.exchangeSucceeds
  dsimp only
  split
  · exact .of_reinstates d st _ hbond rfl hat hother rfl
  · next hi =>
    refine .of_bonds rfl rfl rfl rfl (fun _ => ⟨_, rfl⟩) (fun e => ?_) rfl
    by_cases he : e = d
    · rw [he, hbond]
      exact hat.trans (by rw [Station.bond, Bool.eq_false_iff.2 hi])
    · exact hother e he

theorem State.checkSequence_readies (s : State) (d : StationIx) (role : Role) (q : Byte)
    (f : SequenceFinding) : s.readies (s.checkSequence d role q f) := by
  cases f with
  | accepted => exact .of_modifyStation s d _ fun _ => rfl
  | duplicate => exact .refl s
  | gap =>
    have hbonds : ∀ e, (s.checkSequence d role q .gap).link.bond e = s.link.bond e := fun e =>
      Link.bond_modifyStation_same s.link d e _ fun _ => rfl
    cases role with
    | line i =>
      refine .of_bonds rfl rfl rfl rfl (fun j => ?_) hbonds rfl
      show ∃ n, ((s.works.raiseStation d Bit.seqGap).modifyLine i fun l =>
        { l with sequenceGaps := countUp l.sequenceGaps 1 }).line j = _
      rw [Works.line_modifyLine]
      split
      · next h => exact ⟨_, by rw [h]; rfl⟩
      · exact ⟨_, rfl⟩
    | packer p => exact .of_bonds rfl rfl rfl rfl (fun _ => ⟨_, rfl⟩) hbonds rfl

end Sys2Proof.Machine
end

section
namespace Sys2Proof.Machine

/-! ## What a step does -/

/-- What a step does to the records, the stations' bonds and the part state. -/
inductive State.Steps (s : State) : State → Prop
  | does {m t : State} (ready : s.readies m)
    (works : m.works.Does m.link.lineIsolated (m.partState ≠ .loading) t.works)
    (bonds : ∀ d, t.link.bond d = m.link.bond d)
    (part : t.partState = .loading → m.partState = .loading) : Steps s t
  | cleared {t : State} (v : Works) (from_ : v = s.works ∨ v = .reset) (works : t.works = v.cleared)
    (bonds : ∀ d, t.link.bond d = none) : Steps s t
  | loaded {t : State} (img : Image) (loading : s.partState = .loading)
    (works : s.works.loadedFrom t.works img) (stations : t.link.stations = img.stations)
    (ready : t.partState ≠ .loading) : Steps s t

theorem State.readies.steps {s m : State} (h : s.readies m) : s.Steps m :=
  .does h .refl (fun _ => rfl) id

/-- The records and the bonds stand. -/
theorem State.Steps.of_same {s t : State} (works : t.works = s.works)
    (stations : t.link.stations = s.link.stations)
    (part : t.partState = .loading → s.partState = .loading) : s.Steps t :=
  .does (.refl s) (by rw [works]; exact .refl) (fun d => by rw [Link.bond, stations]; rfl) part

/-- A unit of the part changed the records. -/
theorem State.Steps.of_works {s t : State}
    (works : s.works.Does s.link.lineIsolated (s.partState ≠ .loading) t.works)
    (link : t.link = s.link) (part : t.partState = s.partState) : s.Steps t :=
  .does (.refl s) works (fun d => by rw [link]) (fun h => part ▸ h)

theorem State.afterFrame_bond (s : State) (t : Turn) (more : Bool) (d : StationIx) :
    (s.afterFrame t more).link.bond d = s.link.bond d := by
  have h : (s.afterFrame t more).link.stations = s.link.stations := by
    unfold State.afterFrame
    split
    · rfl
    · exact Link.closeRound_stations _
  rw [Link.bond, h]; rfl

theorem State.takeContent_bond (s : State) (d e : StationIx) (role : Role) (kind : Byte)
    (payload : List Byte) : (s.takeContent d role kind payload).link.bond e = s.link.bond e := by
  have answers : ∀ (m : State) (a : Answer), (m.answer d a).link.bond e = m.link.bond e := fun m a =>
    Link.bond_modifyStation_same m.link d e _ fun _ => rfl
  have errors : ∀ m : State, (m.protocolError d).link.bond e = m.link.bond e := fun m =>
    Link.bond_modifyStation_same m.link d e _ fun _ => rfl
  rcases State.takeContent_cases s d role kind payload with ⟨-, h⟩ | ⟨c, -, ⟨-, h⟩ | ⟨-, h⟩⟩ <;> rw [h]
  · exact errors s
  · unfold State.passFrame
    split
    · rfl
    · exact answers _ _
    · rfl
    · rfl
    · dsimp only
      split
      · exact errors _
      · rfl
    · exact answers _ _
    · exact answers _ _
    · exact answers _ _
    · exact answers _ _
    · rfl
  · exact (answers _ _).trans (errors s)

theorem State.takeReply_steps (s : State) (t : Turn) (st : Station) (kind q : Byte)
    (payload : List Byte) (hst : s.link.stations[t.station] = some st) :
    s.Steps (s.takeReply t st kind q payload) := by
  have hready := (s.exchangeSucceeds_readies t.station st hst).trans
    (State.checkSequence_readies _ t.station st.role q (st.heard.sequenceFinding q))
  unfold State.takeReply
  dsimp only
  split
  · refine .does hready ?_ (fun d => ?_) fun h => ?_
    · rw [State.afterFrame_works]
      exact State.takenContent_does _ _ _ _ _
    · rw [State.afterFrame_bond, State.takeContent_bond]
    · rw [(State.afterFrame_sameAside _ t _).partState,
        (State.takeContent_sameAside _ t.station st.role kind payload).partState] at h
      exact h
  · refine .does hready ?_ (fun d => State.afterFrame_bond _ t _ d) fun h => ?_
    · rw [State.afterFrame_works]
      exact .refl
    · rw [(State.afterFrame_sameAside _ t _).partState] at h
      exact h

theorem State.readies.andThen {s m t : State} (h : s.readies m) (k : m.Steps t)
    (hw : m.works = s.works) (hp : m.partState = s.partState) : s.Steps t := by
  cases k with
  | does ready works bonds part => exact .does (h.trans ready) works bonds part
  | cleared v hv works bonds => exact .cleared v (hw ▸ hv) works bonds
  | loaded img loading works stations ready =>
    exact .loaded img (hp ▸ loading) (hw ▸ works) stations ready

theorem State.takeFrame_steps (s : State) (kind a q : Byte) (payload : List Byte) :
    s.Steps (s.takeFrame kind a q payload) := by
  rcases State.takeFrame_cases s kind a q payload with ⟨-, h⟩ | h | ⟨t, st, -, hst, -, -, h⟩ <;> rw [h]
  · exact s.endReception_readies.steps
  · exact s.discardFrame_readies.steps
  · exact s.endReception_readies.andThen (State.takeReply_steps _ t st kind q payload hst) rfl rfl

theorem State.nextPoll_stations (s : State) : s.nextPoll.link.stations = s.link.stations := by
  unfold State.nextPoll
  split
  · split <;> rfl
  · split <;> rfl

theorem Station.countRound_bond (st : Station) : st.countRound.bond = st.bond := by
  unfold Station.countRound
  split <;> rfl

theorem State.startRound_readies (s : State) : s.readies { s with link := s.link.startRound } :=
  .of_bonds rfl rfl rfl rfl (fun _ => ⟨_, rfl⟩) (fun d => by
    refine (Link.bond_mapTable (k := s.link) (f := Station.countRound)
      (Link.closeRound_stations _) d).trans ?_
    simp only [Station.countRound_bond]
    rfl) rfl

theorem State.LinkActs.steps {s t : State} (h : s.LinkActs t) : s.Steps t := by
  cases h with
  | stays => exact (State.readies.refl s).steps
  | round => exact s.startRound_readies.steps
  | polls =>
    exact .of_same s.nextPoll_works s.nextPoll_stations fun h => by
      rcases s.nextPoll_cases with e | ⟨k, t, e⟩ <;> rw [e] at h <;> exact h
  | sent => exact .of_same rfl rfl id
  | discards => exact s.discardFrame_readies.steps
  | receives r => exact .of_same rfl rfl id
  | takes kind a q p => exact s.takeFrame_steps kind a q p

/-! ## The part and its host -/

theorem State.enterLoading_steps (s m : State) (h : m.works = s.works ∨ m.works = .reset) :
    s.Steps m.enterLoading := by
  refine .cleared m.works h m.enterLoading_works fun d => ?_
  show (Link.reset.stations[d]).map Station.bond = none
  have hnone : Link.reset.stations[d] = none := Vector.getElem_replicate ..
  rw [hnone]
  rfl

theorem State.Events.steps {s t : State} (h : s.Events t) : s.Steps t := by
  cases h with
  | start => exact .of_same rfl rfl id
  | transferred a =>
    refine .of_same ?_ ?_ fun h => ?_
    · unfold State.endTransfer; split
      · rfl
      · dsimp only; split <;> rfl
    · unfold State.endTransfer; split
      · rfl
      · dsimp only; split <;> rfl
    · unfold State.endTransfer at h; split at h
      · exact h
      · dsimp only at h; split at h <;> exact h
  | powered => exact State.enterLoading_steps s _ (.inr rfl)
  | restarted => exact State.enterLoading_steps s _ (.inl rfl)
  | loads a =>
    unfold State.completeLoad
    split
    · next h =>
      refine .loaded _ h (State.loaded_works _ _ _) rfl ?_
      show (if s.supplyOk then PartState.ready else .hold) ≠ _
      split <;> decide
    · exact .of_same rfl rfl id
    · exact .of_same rfl rfl id
  | falls =>
    unfold State.supplyFalls
    dsimp only
    split
    · exact .of_same rfl rfl nofun
    · exact .of_same rfl rfl id
    · exact .of_same rfl rfl id
  | rises =>
    unfold State.supplyRises
    dsimp only
    split
    · exact .of_same rfl rfl id
    · exact .of_same rfl rfl id
    · exact .of_same rfl rfl id
  | resumes =>
    unfold State.resume
    split
    · exact .of_same rfl rfl nofun
    · exact .of_same rfl rfl id

/-- R29, R153: a warm restart ends every suspension, with every station ACTIVE. -/
theorem State.warmRestart_readies (s : State) : s.readies s.warmRestart := by
  obtain ⟨-, -, hworks, hlink, -, hpart, -⟩ := State.abortStore_frame s
  have hw : s.warmRestart.works = s.works.resumeLines.clearEvents := by
    show s.abortStore.works.resumeLines.clearEvents = _
    rw [hworks]
  have hbond : ∀ d, s.warmRestart.link.bond d = (s.link.bond d).map fun r => (r.1, false) := by
    intro d
    have hst : s.warmRestart.link.stations = mapTable (Option.map Station.restarted)
        s.link.stations := by
      show s.abortStore.link.restarted.stations = _
      rw [hlink]; rfl
    rw [Link.bond_mapTable hst, Link.bond, Option.map_map]
    rfl
  have hline : ∀ j, s.warmRestart.works.line j = { s.works.line j with suspended := false } :=
    fun j => by rw [hw]; exact Works.line_resumeLines _ _
  refine ⟨by rw [hw]; rfl, by rw [hw]; rfl, by rw [hw]; rfl, by rw [hw]; rfl,
    fun j => by rw [hline], fun h d e r a b hd he => ?_, fun _ _ j => ?_, hpart⟩
  · rw [hbond] at hd he
    obtain ⟨⟨r1, a1⟩, h1, h2⟩ := Option.map_eq_some_iff.1 hd
    obtain ⟨⟨r2, a2⟩, h3, h4⟩ := Option.map_eq_some_iff.1 he
    simp only [Prod.mk.injEq] at h2 h4
    exact h d e r a1 a2 (h2.1 ▸ h1) (h4.1 ▸ h3)
  · unfold State.suspendedAs
    rw [hline, Link.lineIsolated_iff]
    refine ⟨nofun, fun ⟨_, d, hd⟩ => ?_⟩
    rw [hbond] at hd
    obtain ⟨r, -, hr⟩ := Option.map_eq_some_iff.1 hd
    exact absurd (Prod.mk.inj hr).2 Bool.false_ne_true

theorem State.noticed_steps (s : State) (n : Notices) (r : ResultBuffer) :
    s.Steps ({ s with works := { s.works with notices := n } }.respondWith r) :=
  .of_works (.plain rfl rfl rfl rfl rfl) rfl rfl

theorem State.startTransfer_steps (s : State) (r : StoreRequest) : s.Steps (s.startTransfer r) := by
  rcases State.startTransfer_cases s r with ⟨q, -, h⟩ | ⟨-, h⟩ <;> rw [h] <;>
    exact .of_same rfl rfl id

theorem State.probe_steps (s : State) (d : StationIx) (st : Station) :
    s.Steps ({ s with link := s.link.probe d st }.respond .ok) := by
  have hbond : ∀ k : Link, k.stations = s.link.stations → ∀ e,
      (k.modifyStation d fun st => { st with probeDue := true }).bond e = s.link.bond e :=
    fun k hk e => by
      refine (Link.bond_modifyStation_same k d e (fun st => { st with probeDue := true })
        fun _ => rfl).trans ?_
      rw [Link.bond, hk]
      rfl
  have hready : s.readies ({ s with link := s.link.probe d st }.respond .ok) := by
    refine .of_bonds rfl rfl rfl rfl (fun _ => ⟨_, rfl⟩) (fun e => ?_) rfl
    show (s.link.probe d st).bond e = _
    rcases Link.probe_cases s.link d st with ⟨-, h⟩ | ⟨k, rfl | ⟨-, -, rfl⟩, h⟩ <;> rw [h]
    · exact hbond _ rfl e
    · exact hbond _ rfl e
  exact hready.steps

/-- What a host command does once its checks are passed, from its action's form. -/
theorem State.Acts.steps {s t : State} (h : s.Acts false t) : s.Steps t := by
  cases h with
  | refuses st => exact .of_same rfl rfl id
  | shows r => exact .of_same rfl rfl id
  | clears n r => exact s.noticed_steps n r
  | transfers r => exact s.startTransfer_steps r
  | probes d st => exact s.probe_steps d st
  | warm => exact s.warmRestart_readies.steps
  | cold => exact State.enterLoading_steps s s (.inl rfl)

/-- A record-changing command answers, and its unit changes the records alone. -/
theorem State.Acts.steps_of_does {s t : State} (h : s.Acts true t)
    (works : s.works.Does s.link.lineIsolated (s.partState ≠ .loading) t.works) : s.Steps t := by
  cases h with
  | refuses st => exact .of_same rfl rfl id
  | accepts w => exact .of_works works rfl rfl

theorem hostRow?_steps {c : Instr} {r : HostRow} (h : hostRow? c = some r) (s : State)
    (ready : s.partState ≠ .loading) : s.Steps (r.act s) := by
  have hacts := hostRow?_acts h s
  cases c <;> first | obtain rfl := Option.some.inj h | cases h
  case lotOpen a => exact hacts.steps_of_does (s.lotOpen_does _ _ (bytesAt_two_le a 0) ready)
  case lotAmend => exact hacts.steps_of_does (s.lotAmend_does _ _)
  case lotClose => exact hacts.steps_of_does (s.lotClose_does _)
  case lotRetire => exact hacts.steps_of_does (s.lotRetire_does _)
  case lineAssign => exact hacts.steps_of_does (s.lineAssign_does _ _)
  case lineRelease => exact hacts.steps_of_does (s.lineRelease_does _)
  case lineWheels => exact hacts.steps_of_does (s.lineWheels_does _ _ _)
  case laneSet => exact hacts.steps_of_does (s.laneSet_does _ _)
  case coilMark => exact hacts.steps_of_does (s.coilMark_does _ _ _)
  case coilSeal a => exact hacts.steps_of_does (s.coilSeal_does _ _ (bytesAt_four_le a 4))
  case coilRetire => exact hacts.steps_of_does (s.coilRetire_does _)
  all_goals exact hacts.steps

theorem State.release_readies (s : State) (code : Byte) (args : List Byte) :
    s.readies (s.release code args) := .of_link rfl rfl rfl

/-- What every row of the table does, by the form of the row. -/
theorem exec_steps (c : Instr) (s : State) : ∃ t, exec c s = .next t ∧ s.Steps t := by
  rcases exec_rows c s with ⟨r, d, hd, e⟩ | ⟨code, args, e⟩ | ⟨code, args, e⟩ | ⟨t, e, h⟩ | ⟨t, e, h⟩
  · refine ⟨_, e, ?_⟩
    rcases State.hostCommand_cases s r.code r.count r.changesRecords r.args r.act with
      ⟨-, k⟩ | ⟨-, -, k⟩ | ⟨-, -, -, -, k⟩ | ⟨hl, -, -, k⟩ <;> rw [k]
    · exact .of_same rfl rfl id
    · exact .of_same rfl rfl id
    · exact .of_same rfl rfl id
    · exact (s.release_readies r.code r.args).andThen (hostRow?_steps hd _ hl.1) rfl rfl
  · exact ⟨_, e, .of_same rfl rfl id⟩
  · refine ⟨_, e, ?_⟩
    unfold State.transact
    dsimp only
    split
    · exact .of_same rfl rfl id
    · exact .of_same rfl rfl id
  · exact ⟨t, e, h.steps⟩
  · exact ⟨t, e, h.steps⟩

theorem step_steps {s t : State} (h : step s = .next t) : s.Steps t := by
  rcases step_cases h with ⟨-, rfl⟩ | ⟨c, rest, -, hc⟩
  · exact .of_same rfl rfl id
  · obtain ⟨u, hu, hm⟩ := exec_steps c { s with pending := rest }
    obtain rfl := Host.Outcome.next.inj (hu.symm.trans hc)
    have hready : s.readies { s with pending := rest } := .of_link rfl rfl rfl
    exact hready.andThen hm rfl rfl

end Sys2Proof.Machine
end

section
namespace Sys2Proof.Machine

/-! # Places at the packers (R138, R139) -/

/-- R138: a coil that stands in a queue. -/
def Coil.waits (c : Coil) : Prop := c.state = .full ∨ c.state = .taken

/-- R139: a line holds a reservation at a packer. -/
def Works.reserves (w : Works) (i : LineIx) (p : PackerIx) : Prop :=
  (w.line i).cut = .ordered ∧ (w.line i).reserved = some p

/-- R138, R139: `State.placesLawful`, which speaks of the records alone. -/
structure Works.placed (w : Works) : Prop where
  limit : ∀ p, w.placesInUse p ≤ 6
  queued : ∀ c ∈ inUse w.coils, c.waits → ∃ p : PackerIx, c.packer = some p ∧ c.key ∈ w.queues[p]

theorem State.placesLawful_iff (s : State) : s.placesLawful ↔ s.works.placed :=
  ⟨fun ⟨h1, h2⟩ => ⟨h1, h2⟩, fun ⟨h1, h2⟩ => ⟨h1, h2⟩⟩

theorem Works.mem_reservations (w : Works) (p : PackerIx) (i : LineIx) :
    i ∈ w.reservations p ↔ w.reserves i p := by
  simp [Works.reservations, Works.reserves]

/-- R139: reservations but for one line's. -/
theorem Works.reservations_le_of {w v : Works} (p : PackerIx) (i : LineIx)
    (h : ∀ j, j ≠ i → v.reserves j p → w.reserves j p) :
    (v.reservations p).length ≤ (w.reservations p).length + 1 := by
  have hnodup : (v.reservations p).Nodup := (List.nodup_finRange 16).filter _
  have hsub : v.reservations p ⊆ i :: w.reservations p := fun j hj => by
    by_cases hji : j = i
    · exact hji ▸ List.mem_cons_self ..
    · exact List.mem_cons_of_mem _ ((w.mem_reservations p j).2 (h j hji ((v.mem_reservations p j).1 hj)))
  exact (List.subperm_of_subset hnodup hsub).length_le

theorem Works.reservations_le {w v : Works} (p : PackerIx)
    (h : ∀ j, v.reserves j p → w.reserves j p) :
    (v.reservations p).length ≤ (w.reservations p).length := by
  have hnodup : (v.reservations p).Nodup := (List.nodup_finRange 16).filter _
  have hsub : v.reservations p ⊆ w.reservations p := fun j hj =>
    (w.mem_reservations p j).2 (h j ((v.mem_reservations p j).1 hj))
  exact (List.subperm_of_subset hnodup hsub).length_le

/-- R139: a reservation that is gone frees a place. -/
theorem Works.reservations_lt {w v : Works} {p : PackerIx} {i : LineIx}
    (h : ∀ j, v.reserves j p → w.reserves j p) (hi : w.reserves i p) (hv : ¬ v.reserves i p) :
    (v.reservations p).length < (w.reservations p).length := by
  have hnodup : (i :: v.reservations p).Nodup :=
    List.nodup_cons.2 ⟨fun hm => hv ((v.mem_reservations p i).1 hm),
      (List.nodup_finRange 16).filter _⟩
  have hsub : i :: v.reservations p ⊆ w.reservations p := fun j hj =>
    (w.mem_reservations p j).2 ((List.mem_cons.1 hj).elim (fun e => e ▸ hi)
      fun hm => h j ((v.mem_reservations p j).1 hm))
  exact (List.subperm_of_subset hnodup hsub).length_le

/-! ## Changes that take no place -/

/-- Between `w` and `v` no place was taken: the queues stand, no reservation was made, and no coil
came to stand in a queue. -/
structure Works.takesNoPlace (w v : Works) : Prop where
  queues : v.queues = w.queues
  reserves : ∀ j p, v.reserves j p → w.reserves j p
  coils : ∀ d ∈ inUse v.coils, d.waits →
    ∃ c ∈ inUse w.coils, c.waits ∧ c.key = d.key ∧ c.packer = d.packer

section
variable {w v u : Works}

theorem Works.takesNoPlace.trans (h : w.takesNoPlace v) (k : v.takesNoPlace u) : w.takesNoPlace u where
  queues := k.queues.trans h.queues
  reserves j p hr := h.reserves j p (k.reserves j p hr)
  coils d hd hw := by
    obtain ⟨b, hb, hbw, hbk, hbp⟩ := k.coils d hd hw
    obtain ⟨c, hc, hcw, hck, hcp⟩ := h.coils b hb hbw
    exact ⟨c, hc, hcw, hck.trans hbk, hcp.trans hbp⟩

theorem Works.takesNoPlace.placesInUse (h : w.takesNoPlace v) (p : PackerIx) :
    v.placesInUse p ≤ w.placesInUse p := by
  have hle := Works.reservations_le p fun j => h.reserves j p
  unfold Works.placesInUse
  rw [h.queues]
  omega

theorem Works.placed.of_takesNoPlace (hw : w.placed) (h : w.takesNoPlace v) : v.placed where
  limit p := (h.placesInUse p).trans (hw.limit p)
  queued d hd hwait := by
    obtain ⟨c, hc, hcw, hck, hcp⟩ := h.coils d hd hwait
    obtain ⟨p, hp, hq⟩ := hw.queued c hc hcw
    exact ⟨p, hcp ▸ hp, by rw [← hck, h.queues]; exact hq⟩

/-- The coils and the queues stand, and no line gains a reservation. -/
theorem Works.takesNoPlace.of_lines (queues : v.queues = w.queues) (coils : v.coils = w.coils)
    (lines : ∀ j p, v.reserves j p → w.reserves j p) : w.takesNoPlace v where
  queues := queues
  reserves := lines
  coils d hd hw := ⟨d, coils ▸ hd, hw, rfl, rfl⟩

theorem Works.reserves_congr {j : LineIx} (p : PackerIx) (hc : (v.line j).cut = (w.line j).cut)
    (hr : (v.line j).reserved = (w.line j).reserved) : v.reserves j p ↔ w.reserves j p := by
  unfold Works.reserves
  rw [hc, hr]

theorem Works.takesNoPlace.of_same (queues : v.queues = w.queues) (coils : v.coils = w.coils)
    (lines : ∀ j, (v.line j).cut = (w.line j).cut ∧ (v.line j).reserved = (w.line j).reserved) :
    w.takesNoPlace v :=
  .of_lines queues coils fun j p => (Works.reserves_congr p (lines j).1 (lines j).2).1

/-- One line changed, and if it holds a reservation it held it before. -/
theorem Works.takesNoPlace.of_modifyLine (w : Works) (i : LineIx) (f : Line → Line)
    (hf : (f (w.line i)).cut = .ordered → (w.line i).cut = .ordered ∧
      ∀ p, (f (w.line i)).reserved = some p → (w.line i).reserved = some p) :
    w.takesNoPlace (w.modifyLine i f) :=
  .of_lines rfl rfl fun j p hr => by
    by_cases hj : j = i
    · subst hj
      rw [Works.reserves, Works.line_modifyLine_self] at hr
      exact ⟨(hf hr.1).1, (hf hr.1).2 p hr.2⟩
    · rwa [Works.reserves, Works.line_modifyLine_other w i j f hj] at hr

theorem Works.takesNoPlace.of_coils (queues : v.queues = w.queues)
    (lines : v.lines = w.lines) (f : Coil → Coil) (coils : v.coils = mapTable (Option.map f) w.coils)
    (hf : ∀ c ∈ inUse w.coils, (f c).waits → c.waits ∧ (f c).key = c.key ∧ (f c).packer = c.packer) :
    w.takesNoPlace v where
  queues := queues
  reserves j p := (Works.reserves_congr p (by rw [Works.line_congr lines])
    (by rw [Works.line_congr lines])).1
  coils d hd hw := by
    rw [coils, mem_inUse_mapTable] at hd
    obtain ⟨c, hc, rfl⟩ := hd
    obtain ⟨hcw, hk, hp⟩ := hf c hc hw
    exact ⟨c, hc, hcw, hk.symm, hp.symm⟩

theorem Works.tends.takesNoPlace {i : LineIx} (h : w.tends i v) : w.takesNoPlace v where
  queues := h.queues
  reserves j p := by
    by_cases hj : j = i
    · subst hj
      have hcut : (v.line j).cut = (w.line j).cut :=
        show (v.line j).bones.cut = (w.line j).bones.cut by rw [h.line]
      have hres : (v.line j).reserved = (w.line j).reserved :=
        show (v.line j).bones.reserved = (w.line j).bones.reserved by rw [h.line]
      exact (Works.reserves_congr p hcut hres).1
    · exact (Works.reserves_congr p (by rw [h.others j hj]) (by rw [h.others j hj])).1
  coils d hd hw := by
    obtain ⟨f, hf, hfc⟩ := h.coils
    rw [hf, mem_inUse_mapTable] at hd
    obtain ⟨c, hc, rfl⟩ := hd
    have hstate : (f c).state = c.state :=
      show (f c).bones.state = c.bones.state by rw [(hfc c).1]
    have hkey : (f c).key = c.key := show (f c).bones.key = c.bones.key by rw [(hfc c).1]
    have hpacker : (f c).packer = c.packer :=
      show (f c).bones.packer = c.bones.packer by rw [(hfc c).1]
    rw [Coil.waits, hstate] at hw
    exact ⟨c, hc, hw, hkey.symm, hpacker.symm⟩

end

/-! ## Grants -/

section
variable {w : Works}

/-- R119, R139: a cut ordered with a free place takes it. -/
theorem Works.placed.orderCut (h : w.placed) (i : LineIx) (r : Option PackerIx) (start : Nat)
    (free : ∀ p, r = some p → w.placesInUse p < 6) : (w.orderCut i r start).placed where
  limit p := by
    have hline := fun j hj => Works.line_modifyLine_other w i j (fun l =>
      { l with
        cut := .ordered, reserved := r, cutPoint := start + l.spec.target, halted := false }) hj
    have hother : ∀ j, j ≠ i → (w.orderCut i r start).reserves j p → w.reserves j p := fun j hj =>
      (Works.reserves_congr p (by rw [← hline j hj]; rfl) (by rw [← hline j hj]; rfl)).1
    by_cases hr : r = some p
    · have hle := Works.reservations_le_of p i hother
      have hlt := free p hr
      show w.queues[p].length + _ ≤ 6
      unfold Works.placesInUse at hlt
      omega
    · have hle := Works.reservations_le (w := w) (v := w.orderCut i r start) p fun j hj => by
        by_cases hji : j = i
        · subst hji
          have hself : ((w.orderCut j r start).line j).reserved = r := by
            rw [Works.orderCut, Works.line_modifyLine_self]
          exact absurd (hself.symm.trans hj.2) hr
        · exact hother j hji hj
      have hlim := h.limit p
      show w.queues[p].length + _ ≤ 6
      unfold Works.placesInUse at hlim
      omega
  queued := h.queued

theorem Works.overlengthTest_takesNoPlace (w : Works) (i : LineIx) :
    w.takesNoPlace (w.overlengthTest i) := by
  rcases Works.overlengthTest_cases w i with h | ⟨c, hc, -, h⟩ <;> rw [h]
  · exact (Works.tends.refl w i).takesNoPlace
  · have hhalt : w.takesNoPlace (w.modifyLine i fun l => { l with halted := true }) :=
      .of_modifyLine w i _ fun h => ⟨h, fun _ hp => hp⟩
    refine hhalt.trans (Works.tends.takesNoPlace (i := i) (Works.gainReason_tends _ i ?_ _))
    rw [Works.line_modifyLine_self]
    exact (Works.currentCoil?_key hc).1

theorem Works.placed.plannedCutTest (h : w.placed) (i : LineIx) : (w.plannedCutTest i).placed := by
  rcases Works.plannedCutTest_cases w i with e | ⟨c, -, -, ⟨-, e⟩ | ⟨-, e⟩⟩ <;> rw [e]
  · exact h
  · exact h.of_takesNoPlace (w.overlengthTest_takesNoPlace i)
  · rcases Works.requestCut_cases w i c.start with ⟨-, k⟩ | ⟨p, -, ⟨hp, k⟩ | ⟨-, k⟩⟩ <;> rw [k]
    · exact h.orderCut i none _ nofun
    · exact h.orderCut i (some p) _ fun q hq => by
        rw [← Option.some.inj hq]
        exact (w.placeFree_iff p).1 hp
    · have hheld : w.takesNoPlace ((w.modifyLine i fun l =>
          { l with cut := .held, reserved := some p }).joinHeld p i) :=
        .trans (.of_modifyLine w i (fun l => { l with cut := .held, reserved := some p }) nofun)
          (.of_same rfl rfl fun _ => ⟨rfl, rfl⟩)
      exact h.of_takesNoPlace (hheld.trans (Works.overlengthTest_takesNoPlace _ i))

/-- R141: a freed place is granted. -/
theorem Works.placed.placeFreed (h : w.placed) {p : PackerIx} (free : w.placesInUse p < 6) :
    (w.placeFreed p).placed := by
  rcases Works.placeFreed_cases w p with ⟨-, e⟩ | ⟨i, rest, -, e⟩ <;> rw [e]
  · exact h
  · have hv : Works.placed { w with held := w.held.set p rest } := ⟨h.limit, h.queued⟩
    exact hv.orderCut i (some p) _ fun q hq => by rw [← Option.some.inj hq]; exact free

end

end Sys2Proof.Machine
end

section
namespace Sys2Proof.Machine

/-! # What takes a place (R125, R139, R141) -/

section
variable {w v : Works} {i : LineIx}

theorem Works.takesNoPlace.of_plain (queues : v.queues = w.queues) (coils : v.coils = w.coils)
    (lines : v.lines = w.lines) : w.takesNoPlace v :=
  .of_same queues coils fun j => by rw [Works.line_congr lines]; exact ⟨rfl, rfl⟩

theorem Works.withdraw_takesNoPlace (w : Works) (i : LineIx) : w.takesNoPlace (w.withdraw i) := by
  rcases Works.withdraw_cases w i with h | ⟨p, -, -, h⟩ <;> rw [h]
  · exact .of_plain rfl rfl rfl
  · exact .trans (v := w.leaveHeld p i) (.of_plain rfl rfl rfl) (.of_modifyLine (w.leaveHeld p i) i
      (fun l => { l with cut := .noCut, reserved := none, halted := false })
        fun h => nomatch (show CutState.noCut = .ordered from h))

theorem Works.freeLine_takesNoPlace (w : Works) (i : LineIx) : w.takesNoPlace (w.freeLine i) := by
  rw [Works.freeLine_eq]
  exact .trans (.of_modifyLine w i Line.toIdle nofun) (.of_plain rfl rfl rfl)

/-- R20: a coil that opens is OPEN. -/
theorem Works.openCoil_takesNoPlace {pos : Nat} (h : w.openCoil i pos = .ok v) : w.takesNoPlace v := by
  obtain ⟨-, -, hqueues, -, -, hother, k, hself⟩ := Works.openCoil_frame w v i pos h
  obtain ⟨lot, e, -, -, he, rfl⟩ := Works.openCoil_ok w v i pos h
  refine ⟨hqueues, fun j p => (Works.reserves_congr p ?_ ?_).1, fun d hd hw => ?_⟩
  · by_cases hj : j = i
    · rw [hj, hself]
    · rw [hother j hj]
  · by_cases hj : j = i
    · rw [hj, hself]
    · rw [hother j hj]
  · rcases (mem_inUse_set _ _ _ _ (lowestFree_spec _ _ he).1).1 hd with rfl | hd
    · exact absurd hw (by simp [Coil.waits, Coil.opening])
    · exact ⟨d, hd, hw, rfl, rfl⟩

theorem Works.placed.resumeServed (h : w.placed) (i : LineIx) : (w.resumeServed i).placed :=
  Works.placed.plannedCutTest ((h.of_takesNoPlace (.of_modifyLine w i
    (fun l => { l with state := .running, starve := none }) fun h => ⟨h, fun _ hp => hp⟩)).of_takesNoPlace
      (Works.reopenZones_tends _ i _).takesNoPlace) i

/-- R26: a hand-out opens coils and orders their cuts. -/
theorem Works.placed.handOut (h : w.placed) : w.handOut.placed := by
  refine Works.serve_preserves Works.placed (fun u j rest hu _ => ?_) (fun u x j rest hu _ ho => ?_)
    w h
  · exact hu.of_takesNoPlace (.trans (v := { u with waitList := rest }) (.of_plain rfl rfl rfl)
      (.of_modifyLine _ j (fun l => { l with starve := some .seqExhausted }) fun h =>
        ⟨h, fun _ hp => hp⟩))
  · exact Works.placed.resumeServed (hu.of_takesNoPlace (.trans (Works.openCoil_takesNoPlace ho)
      (v := x) (u := { x with waitList := rest }) (.of_plain rfl rfl rfl))) j

theorem Works.removeCoil_takesNoPlace (w : Works) (k : CoilKey) : w.takesNoPlace (w.removeCoil k) :=
  ⟨rfl, fun _ _ hr => hr, fun d hd hw => ⟨d, ((mem_inUse_filter _ _ _).1 hd).1, hw, rfl, rfl⟩⟩

/-- R23, R141: the place that the freed line held is granted. -/
theorem Works.placed.releaseEmpty (h : w.placed) (i : LineIx) (k : CoilKey) :
    (w.releaseEmpty i k).placed := by
  have hfree := (w.removeCoil_takesNoPlace k).trans (Works.freeLine_takesNoPlace (w.removeCoil k) i)
  have hfreed := h.of_takesNoPlace hfree
  unfold Works.releaseEmpty
  refine Works.placed.handOut ?_
  split
  · next p hcut hres =>
    refine hfreed.placeFreed ?_
    have hgone : ¬ ((w.removeCoil k).freeLine i).reserves i p := by
      rw [Works.reserves, Works.freeLine_eq]
      exact fun hr => nomatch (Works.line_modifyLine_self (w.removeCoil k) i Line.toIdle) ▸ hr.1
    have hlt := Works.reservations_lt (fun j => hfree.reserves j p) ⟨hcut, hres⟩ hgone
    have hlim := h.limit p
    unfold Works.placesInUse at hlim ⊢
    rw [hfree.queues]
    omega
  · exact hfreed

/-! ## A coil ends -/

/-- R125, R139: the ended coil takes the place its line held, or a free one at the line's lane. -/
theorem Works.placed.coilEnded (h : w.placed) {c : Coil}
    (hc : w.coil? c.key = some c) (stop : Nat) (kind : EndKind) (hv : (w.coilEnded i c stop kind).keyed) :
    (w.coilEnded i c stop kind).placed := by
  have hends := w.endsCoil_coilEnded i c stop kind
  obtain ⟨v, hvdef⟩ : ∃ v, w.coilEnded i c stop kind = v := ⟨_, rfl⟩
  rw [hvdef] at hends hv ⊢
  obtain ⟨b, hb, hothers, hbends⟩ := hends.coil hc
  have hgone : ∀ p, ¬ v.reserves i p := fun p hr => by
    rw [Works.reserves, hends.line] at hr
    exact nomatch hr.1
  have hkept : ∀ j p, v.reserves j p → w.reserves j p := fun j p hr => by
    by_cases hj : j = i
    · exact absurd (hj ▸ hr) (hgone p)
    · rwa [Works.reserves, hends.others j hj] at hr
  have hqueues := hends.queues
  refine ⟨fun p => ?_, fun d hd hw => ?_⟩
  · have hle := Works.reservations_le p fun j => hkept j p
    have hlim := h.limit p
    by_cases hp : w.packerFor i = some p
    · have hq : v.queues[p] = w.queues[p] ++ [c.key] := by
        rw [hqueues, hp]
        exact (set_getFin _ _ _ _).trans (if_pos rfl)
      have hplace : w.queues[p].length + 1 + (v.reservations p).length ≤ 6 := by
        rw [Works.packerFor_eq] at hp
        cases hr : (w.line i).reservation with
        | some q =>
          rw [hr] at hp
          obtain rfl := Option.some.inj hp
          have hres : w.reserves i q := by
            unfold Line.reservation at hr
            split at hr
            · next hcut => exact ⟨hcut, hr⟩
            all_goals cases hr
          have hlt := Works.reservations_lt (fun j => hkept j q) hres (hgone q)
          unfold Works.placesInUse at hlim
          omega
        | none =>
          rw [hr] at hp
          have hfree : w.placesInUse p < 6 := by simpa using (Option.filter_eq_some_iff.1 hp).2
          unfold Works.placesInUse at hfree
          omega
      unfold Works.placesInUse
      rw [hq, List.length_append]
      exact hplace
    · have hq : v.queues[p] = w.queues[p] := by
        rw [hqueues]
        unfold Works.queuesWith
        split
        · rfl
        · next q hq =>
          rw [set_getFin, if_neg]
          rintro rfl
          exact hp hq
      unfold Works.placesInUse at hlim ⊢
      rw [hq]
      omega
  · have hgrow : ∀ (p : PackerIx) (k : CoilKey), k ∈ w.queues[p] → k ∈ v.queues[p] := fun p k hm => by
      have hq : v.queues[p] = (w.queuesWith c.key (w.packerFor i))[p] := by rw [hqueues]
      rw [hq]
      unfold Works.queuesWith
      split
      · exact hm
      · next q _ =>
        rw [set_getFin]
        split
        · next e => exact List.mem_append_left _ (e ▸ hm)
        · exact hm
    by_cases hdk : d.key = c.key
    · obtain rfl : d = b := Option.some.inj ((hv.coil?_eq hd).symm.trans (hdk ▸ hb))
      cases hp : w.packerFor i with
      | none =>
        have hs := (hbends.loose hp).1
        exact absurd hw (by simp [Coil.waits, hs])
      | some p =>
        refine ⟨p, (hbends.queued (by rw [hp]; nofun)).2.1.trans hp, ?_⟩
        have hq : v.queues[p] = w.queues[p] ++ [c.key] := by
          rw [hqueues, hp]
          exact (set_getFin _ _ _ _).trans (if_pos rfl)
        rw [hq, hdk]
        exact List.mem_append_right _ (List.mem_singleton_self _)
    · have hd' : w.coil? d.key = some d := (hothers d.key hdk).symm.trans (hv.coil?_eq hd)
      obtain ⟨p, hp, hq⟩ := h.queued d (Works.coil?_some _ _ _ hd').1 hw
      exact ⟨p, hp, hgrow p d.key hq⟩

theorem Works.copySpec_takesNoPlace (w : Works) (i : LineIx) : w.takesNoPlace (w.copySpec i) := by
  unfold Works.copySpec
  split
  · exact .of_plain rfl rfl rfl
  · next t _ =>
    exact .of_modifyLine w i (fun l =>
      { l with spec := t.spec, revision := t.revision, amendPending := false })
        fun h => ⟨h, fun _ hp => hp⟩

theorem Works.applyAmendment_takesNoPlace (w : Works) (i : LineIx) :
    w.takesNoPlace (w.applyAmendment i) := by
  unfold Works.applyAmendment
  split
  · exact w.copySpec_takesNoPlace i
  · exact .of_plain rfl rfl rfl

theorem Works.leaveUnassigned_takesNoPlace (w : Works) (i : LineIx) (stop : Nat) :
    w.takesNoPlace (w.leaveUnassigned i stop) := by
  cases hn : (w.line i).lot with
  | none => rw [Works.leaveUnassigned_none hn]; exact .of_plain rfl rfl rfl
  | some n =>
    obtain ⟨bits, h⟩ := Works.leaveUnassigned_eq hn stop
    rw [h]
    exact .of_plain rfl rfl rfl

theorem Works.starve_takesNoPlace (w : Works) (i : LineIx) (stop : Nat) (why : StarveReason) :
    w.takesNoPlace (w.starve i stop why) := by
  refine (w.leaveUnassigned_takesNoPlace i stop).trans (.trans (.of_modifyLine _ i
    (fun l => { l with state := .starved, starve := some why }) fun h => ⟨h, fun _ hp => hp⟩) ?_)
  cases why <;> exact .of_plain rfl rfl rfl

theorem Works.placed.openNext (h : w.placed) (i : LineIx) (stop : Nat) (carry : List (Cause × Int)) :
    (w.openNext i stop carry).placed := by
  unfold Works.openNext
  split
  · next x ho =>
    have hx := (h.of_takesNoPlace (Works.openCoil_takesNoPlace ho)).plannedCutTest i
    dsimp only
    split
    · next k hk => exact hx.of_takesNoPlace (Works.openCarried_tends carry _ hk).takesNoPlace
    · exact hx
  · next why _ =>
    exact h.of_takesNoPlace ((w.starve_takesNoPlace i stop why).trans (.of_modifyLine _ i
      (fun l => { l with jointClose := none }) fun h => ⟨h, fun _ hp => hp⟩))

theorem Works.coilEnded_evolves (w : Works) (i : LineIx) (c : Coil) (stop : Nat) (kind : EndKind) :
    w.Evolves (w.coilEnded i c stop kind) :=
  ((Works.Evolves.coil w c.key _ fun c _ => .closesAll c _).trans
    (Works.endCoil_evolves _ i _ stop kind)).trans (Works.placeCoil_evolves _ i _ _)

theorem Works.placed.boundary (h : w.placed) (hk : w.keyed) {c : Coil}
    (hc : w.currentCoil? i = some c) (stop : Nat) (kind : EndKind) :
    (w.boundary i c stop kind).placed := by
  obtain ⟨-, hc⟩ := Works.currentCoil?_key hc
  have hv := h.coilEnded (i := i) hc stop kind ((w.coilEnded_evolves i c stop kind).keyed hk)
  rw [Works.boundary_eq]
  split
  · exact (hv.of_takesNoPlace (Works.applyAmendment_takesNoPlace _ i)).openNext i stop _
  · exact hv.of_takesNoPlace ((Works.leaveUnassigned_takesNoPlace _ i stop).trans
      (Works.freeLine_takesNoPlace _ i))

theorem Works.placed.cutCompleted (h : w.placed) (hk : w.keyed) (i : LineIx) (pos : Nat) :
    (w.cutCompleted i pos).1.placed := by
  rcases Works.cutCompleted_cases w i pos with e | ⟨c, hc, -, e⟩
  · rw [e]; exact h
  · have hwc : (w.withdraw i).currentCoil? i = some c :=
      (w.withdrawn_withdraw i).currentCoil? hc
    rcases e with ⟨-, e⟩ | ⟨-, -, e⟩ | ⟨-, -, -, e⟩ | ⟨-, -, -, e⟩ | ⟨-, -, -, e⟩ <;> rw [e]
    · exact h.of_takesNoPlace (.of_plain rfl rfl rfl)
    · exact h.boundary hk hc pos .release
    · exact h.boundary hk hc pos .planned
    · exact h.boundary hk hc pos .unplanned
    · exact (h.of_takesNoPlace (w.withdraw_takesNoPlace i)).boundary
        ((w.withdraw_evolves i).keyed hk) hwc pos .unplanned

/-! ## Frames of a line -/

theorem Works.giveCredit_lists (w : Works) (i : LineIx) (counts : Counts) :
    (w.giveCredit i counts).waitList = w.waitList ∧ (w.giveCredit i counts).queues = w.queues := by
  have hsat : ∀ (v : Works) (b : Bool), (v.raiseSaturated b).waitList = v.waitList ∧
      (v.raiseSaturated b).queues = v.queues := fun v b => by
    rw [Works.raiseSaturated_eq]; exact ⟨rfl, rfl⟩
  have hprod : ∀ (v : Works) (n mm : Nat), (v.addProduced n mm).waitList = v.waitList ∧
      (v.addProduced n mm).queues = v.queues := fun v n mm => hsat _ _
  have hun : ∀ (v : Works) (n mm : Nat), (v.addUnassigned n mm).waitList = v.waitList ∧
      (v.addUnassigned n mm).queues = v.queues := fun v n mm => hsat _ _
  unfold Works.giveCredit
  dsimp only
  split
  · exact hsat _ _
  · split
    · rw [(hun _ _ _).1, (hun _ _ _).2, (hprod _ _ _).1, (hprod _ _ _).2]; exact hsat _ _
    all_goals
      rw [(hprod _ _ _).1, (hprod _ _ _).2]
      exact hsat _ _

theorem Works.giveCredit_takesNoPlace (w : Works) (i : LineIx) (counts : Counts) :
    w.takesNoPlace (w.giveCredit i counts) := by
  obtain ⟨hlines, hcoils⟩ := w.giveCredit_kept i counts
  exact .trans (.of_modifyLine w i (fun l => l.credited counts) fun h => ⟨h, fun _ hp => hp⟩)
    (.of_plain (w.giveCredit_lists i counts).2 hcoils hlines)

theorem Works.placed.creditTally (h : w.placed) (permille : Nat) (i : LineIx) (f : CountFrame) :
    (w.creditTally permille i f).placed :=
  Works.placed.plannedCutTest ((h.of_takesNoPlace (w.giveCredit_takesNoPlace i f.counts)).of_takesNoPlace
    (Works.checked_tends _ i _ _ _ _ _ _).takesNoPlace) i

theorem Works.placed.countTally (h : w.placed) (permille : Nat) (i : LineIx) (f : CountFrame) :
    (w.countTally permille i f).placed := by
  unfold Works.countTally
  split
  · exact h.of_takesNoPlace (w.resync_tends i f.counts).takesNoPlace
  · exact h.creditTally permille i f

theorem Works.placed.takeBaselines (h : w.placed) (i : LineIx) (counts : Counts) :
    (w.takeBaselines i counts).placed :=
  Works.placed.plannedCutTest (h.of_takesNoPlace (.of_modifyLine w i
    (fun l => { l with baselines := counts, baselinesValid := true, state := .running })
      fun h => ⟨h, fun _ hp => hp⟩)) i

theorem Works.placed.tally (h : w.placed) (permille : Nat) (i : LineIx) (f : CountFrame) :
    (w.tally permille i f).placed := by
  unfold Works.tally
  split
  · exact h
  · exact h.takeBaselines i f.counts
  all_goals exact h.countTally permille i f

theorem Works.placed.resolve (h : w.placed) (permille : Nat) (i : LineIx) (f : CountFrame) :
    (w.resolve permille i f).1.placed := by
  rcases Works.resolve_cases w permille i f with e | ⟨-, e⟩ | ⟨-, -, e | e⟩ <;> rw [e]
  · exact h
  · exact h.takeBaselines i f.counts
  · exact h.of_takesNoPlace (w.resync_tends i f.counts).takesNoPlace
  · exact h.countTally permille i f

theorem Works.placed.mark (h : w.placed) (permille : Nat) (i : LineIx) (kind : MarkKind)
    (f : CountFrame) : (w.mark permille i kind f).placed := by
  unfold Works.mark
  split
  · exact h
  all_goals exact (h.resolve permille i f).of_takesNoPlace (Works.applyMark_tends _ i _ kind).takesNoPlace

/-! ## Host commands and packing steps -/

theorem Works.placed.release (h : w.placed) (hk : w.keyed) (i : LineIx) : (w.release i).placed := by
  have hsuspended : (w.releaseSuspended i).placed := by
    have hx := h.of_takesNoPlace (w.withdraw_takesNoPlace i)
    unfold Works.releaseSuspended
    dsimp only
    split
    · exact hx.of_takesNoPlace (Works.freeLine_takesNoPlace _ i)
    · next c hc =>
      split
      · exact hx.releaseEmpty i c.key
      · exact hx.boundary ((w.withdraw_evolves i).keyed hk) hc _ _
  unfold Works.release
  dsimp only
  split
  · exact h
  · split
    · exact h.releaseEmpty i _
    · exact h.of_takesNoPlace (Works.freeLine_takesNoPlace _ i)
  · exact h.of_takesNoPlace (.trans (v := w.leaveWait i) (.of_plain rfl rfl rfl)
      (Works.freeLine_takesNoPlace _ i))
  · split
    · exact hsuspended
    · have hx := w.withdraw_takesNoPlace i
      refine h.of_takesNoPlace (hx.trans (.of_lines rfl rfl fun j p hr => ?_))
      by_cases hj : j = i
      · subst hj
        rw [Works.reserves, Works.releaseRunning, Works.line_modifyLine_self] at hr
        split at hr
        · exact hr
        all_goals exact nomatch hr.2
      · rwa [Works.reserves, Works.releaseRunning, Works.line_modifyLine_other _ _ _ _ hj] at hr
  · split
    · exact hsuspended
    · exact h

theorem Works.amendLine_takesNoPlace (w : Works) (n : Nat) (i : LineIx) :
    w.takesNoPlace (w.amendLine n i) := by
  have hrevise : w.takesNoPlace ((w.copySpec i).reviseCoil i) := by
    refine (w.copySpec_takesNoPlace i).trans ?_
    unfold Works.reviseCoil
    split
    · exact .of_plain rfl rfl rfl
    · next k _ =>
      refine .of_coils rfl rfl _ rfl fun c _ hw => ?_
      split
      · next e => rw [if_pos e] at hw; exact ⟨hw, rfl, rfl⟩
      · next e => rw [if_neg e] at hw; exact ⟨hw, rfl, rfl⟩
  unfold Works.amendLine
  split
  · split
    · exact .of_plain rfl rfl rfl
    · exact hrevise
    · exact w.copySpec_takesNoPlace i
    all_goals
      exact .of_modifyLine w i (fun l => { l with amendPending := true }) fun h => ⟨h, fun _ hp => hp⟩
  · exact .of_plain rfl rfl rfl

theorem Works.amend_takesNoPlace (w : Works) (n : Nat) (sp : Spec) :
    w.takesNoPlace (w.amend n sp) := by
  have hfold : ∀ (is : List LineIx) (v : Works), w.takesNoPlace v →
      w.takesNoPlace (is.foldl (fun w i => w.amendLine n i) v) := fun is => by
    induction is with
    | nil => exact fun _ hv => hv
    | cons i is ih => exact fun v hv => ih _ (hv.trans (v.amendLine_takesNoPlace n i))
  exact hfold _ _ (.of_plain rfl rfl rfl)

theorem Works.setWheels_takesNoPlace (w : Works) (i : LineIx) (m : MeasureSource) (c : CheckSource) :
    w.takesNoPlace (w.setWheels i m c) := by
  have hslip : w.takesNoPlace (if (judgedPair (w.line i).kind m c).2 = (w.line i).check then w
      else w.resetSlip i) := by
    split
    · exact .of_plain rfl rfl rfl
    · exact (w.resetSlip_tends i).takesNoPlace
  have hset := hslip.trans (.of_modifyLine _ i (fun l =>
    { l with measure := (judgedPair (w.line i).kind m c).1,
             check := (judgedPair (w.line i).kind m c).2 }) fun h => ⟨h, fun _ hp => hp⟩)
  unfold Works.setWheels
  dsimp only
  split
  · exact hset.trans (.of_plain rfl rfl rfl)
  · exact hset

theorem Works.closeIfEmpty_takesNoPlace (w : Works) (n : Nat) : w.takesNoPlace (w.closeIfEmpty n) := by
  unfold Works.closeIfEmpty
  split <;> exact .of_plain rfl rfl rfl

/-- R141, R144: a coil that is sealed at its packer frees its place. -/
theorem Works.placed.sealAt (h : w.placed) {c : Coil} (hc : w.coil? c.key = some c) {p : PackerIx}
    (state : c.waits) (queued : c.packer = some p ∨ c.key ∈ w.queues[p]) (weight : Nat) :
    (w.sealAt p c.key weight).placed := by
  obtain ⟨q, hq, hmem⟩ := h.queued c (Works.coil?_some _ _ _ hc).1 state
  have hin : c.key ∈ w.queues[p] := queued.elim (fun e => by
    obtain rfl := Option.some.inj (hq.symm.trans e); exact hmem) id
  have hqueue : ∀ r, (w.sealedOut p c.key weight).queues[r] =
      if r = p then w.queues[p].filter fun k => decide (k ≠ c.key) else w.queues[r] :=
    fun r => set_getFin _ _ _ _
  have hshort : (w.queues[p].filter fun k => decide (k ≠ c.key)).length < w.queues[p].length :=
    List.length_filter_lt_length_iff_exists.2 ⟨c.key, hin, by simp⟩
  have hin_use : ∀ r, (w.sealedOut p c.key weight).placesInUse r =
      (if r = p then w.queues[p].filter fun k => decide (k ≠ c.key) else w.queues[r]).length +
        (w.reservations r).length := fun r => by
    rw [← hqueue r]; rfl
  have hout : (w.sealedOut p c.key weight).placed := by
    refine ⟨fun r => ?_, fun d hd hw => ?_⟩
    · have hlim := h.limit r
      rw [hin_use]
      unfold Works.placesInUse at hlim
      split
      · next e => subst e; omega
      · exact hlim
    · obtain ⟨b, hb, rfl⟩ := (mem_inUse_mapTable _ _ _).1 hd
      by_cases hbk : b.key = c.key
      · rw [if_pos hbk] at hw
        exact absurd hw (by simp [Coil.waits])
      · rw [if_neg hbk] at hw ⊢
        obtain ⟨r, hr, hm⟩ := h.queued b hb hw
        refine ⟨r, hr, ?_⟩
        rw [hqueue]
        split
        · next e => exact List.mem_filter.2 ⟨e ▸ hm, decide_eq_true hbk⟩
        · exact hm
  rw [Works.sealAt_eq]
  refine hout.placeFreed ?_
  have hlim := h.limit p
  rw [hin_use, if_pos rfl]
  unfold Works.placesInUse at hlim
  omega

end

theorem Coil.waits_congr {b c : Coil} (h : b.bones = c.bones) : b.waits ↔ c.waits := by
  have hs : b.state = c.state := show b.bones.state = c.bones.state by rw [h]
  rw [Coil.waits, Coil.waits, hs]

theorem Coil.placeZone_bones (c : Coil) (z : Zone) : (c.placeZone z).bones = c.bones := by
  unfold Coil.placeZone
  split
  · exact Coil.withReason_bones _ _
  · exact Coil.withReason_bones _ _

section
variable {isolated : LineIx → Bool} {live : Prop} {w v : Works}

/-- R138, R139: what a command or a frame asks of the records keeps the places. -/
theorem Works.Does.placed (h : w.Does isolated live v) (hk : w.keyed) (hw : w.placed) : v.placed := by
  cases h with
  | plain _ lines coils _ queues => exact hw.of_takesNoPlace (.of_plain queues coils lines)
  | tally permille i f => exact hw.tally permille i f
  | mark permille i kind f => exact hw.mark permille i kind f
  | cutDone permille i f n =>
    have hcut := (hw.resolve permille i f).cutCompleted ((w.resolve_evolves permille i f).keyed hk) i
      (w.resolve permille i f).2
    exact hcut.of_takesNoPlace (v := { (w.cutDone permille i f).1 with notices := n })
      (.of_plain rfl rfl rfl)
  | takes p c hc _ full =>
    refine hw.of_takesNoPlace (.of_coils rfl rfl _ rfl fun b hb hwait => ?_)
    split
    · next e =>
      obtain rfl : b = c := hk.sameCoil hb (Works.coil?_some _ _ _ hc).1 e
      exact ⟨.inl full, rfl, rfl⟩
    · next e => rw [if_neg e] at hwait; exact ⟨hwait, rfl, rfl⟩
  | seals p c weight hc state queued => exact hw.sealAt hc state queued weight
  | retires c =>
    rw [Works.retire_eq]
    refine Works.placed.handOut (hw.of_takesNoPlace ?_)
    rw [Works.retired_eq]
    exact .trans (w.removeCoil_takesNoPlace c.key) (.of_plain rfl rfl rfl)
  | opensLot => exact hw.of_takesNoPlace (.of_plain rfl rfl rfl)
  | amends n sp => exact hw.of_takesNoPlace (w.amend_takesNoPlace n sp)
  | closes n =>
    exact hw.of_takesNoPlace (.trans (v := w.modifyLot n fun l => { l with state := .closing })
      (.of_plain rfl rfl rfl) (Works.closeIfEmpty_takesNoPlace _ n))
  | removesLot => exact hw.of_takesNoPlace (.of_plain rfl rfl rfl)
  | assigns i n t _ _ _ _ _ opens =>
    exact hw.of_takesNoPlace (.trans (.of_modifyLine w i
      (fun l => l.assigned t (isolated i)) nofun) (Works.openCoil_takesNoPlace opens))
  | releases i => exact hw.release hk i
  | wheels i m c => exact hw.of_takesNoPlace (w.setWheels_takesNoPlace i m c)
  | marks c start stop =>
    refine hw.of_takesNoPlace (.of_coils rfl rfl _ rfl fun b _ hb => ?_)
    split
    · next e =>
      rw [if_pos e] at hb
      have hbones := (Coil.regraded_bones _ (w.coilLength b)).trans
        (b.placeZone_bones ⟨.operator, start, some stop, 0⟩)
      exact ⟨(Coil.waits_congr hbones).1 hb, (congrArg Coil.key hbones).trans rfl,
        (congrArg Coil.packer hbones).trans rfl⟩
    · next e => rw [if_neg e] at hb; exact ⟨hb, rfl, rfl⟩

end

/-- Settles O58: the queues and reservations change only where a place is free, where a reservation
becomes the place of its ended coil, or where one frees. -/
theorem packerPlacesStayWithinSix : Obligations.PackerPlacesStayWithinSix := by
  unfold Obligations.PackerPlacesStayWithinSix
  intro s t hk hs ht
  rw [State.placesLawful_iff] at hs ⊢
  cases step_steps ht with
  | @does m _ ready works =>
    have hm : m.works.placed := hs.of_takesNoPlace (.of_same ready.queues ready.coils fun j => by
      rw [ready.line j]; exact ⟨rfl, rfl⟩)
    exact works.placed (((s.keysLawful_iff).1 hk).of_eq ready.lots ready.coils) hm
  | cleared v _ works =>
    rw [works]
    refine ⟨fun p => ?_, fun c hc => ?_⟩
    · have hnone : v.cleared.reservations p = [] := List.filter_eq_nil_iff.2 fun j _ => by
        rw [Works.line_cleared]; exact nofun
      have hqueue : v.cleared.queues[p] = [] := Vector.getElem_replicate ..
      unfold Works.placesInUse
      rw [hnone, hqueue]
      decide
    · rw [(Works.cleared_tables v).2] at hc
      exact absurd hc List.not_mem_nil
  | loaded img _ works =>
    refine hs.of_takesNoPlace (.of_lines works.queues works.coils fun j p hr => ?_)
    rw [Works.reserves, works.lines] at hr
    exact nomatch hr.1

end Sys2Proof.Machine
end

section
namespace Sys2Proof.Machine

/-! # How the records stay linked (R5, R17, R20, R22, R25, R102, R138) -/

/-- `State.lineLinked`, with the ISOLATED stations' lines given. -/
structure Works.lineTied (isolated : LineIx → Bool) (w : Works) (i : LineIx) : Prop where
  lot : (w.line i).lot = none ↔ (w.line i).state = .idle
  coil : (w.line i).coil = none ↔ (w.line i).state = .idle ∨ (w.line i).state = .starved
  starve : (w.line i).starve ≠ none ↔ (w.line i).state = .starved
  unused : (w.line i).kind = .unused → (w.line i).state = .idle
  suspended : (w.line i).suspended = true ↔ (w.line i).state ≠ .idle ∧ isolated i = true
  amendment : (w.line i).amendPending = true →
    (w.line i).state = .running ∨ (w.line i).state = .releasing
  runs : ∀ n, (w.line i).lot = some n → ∃ t, w.lot? n = some t ∧ t.state ≠ .closed ∧
    (w.line i).revision ≤ t.revision ∧
    ((w.line i).amendPending = false → (w.line i).revision = t.revision)
  current : ∀ k, (w.line i).coil = some k → (w.line i).lot = some k.lot ∧
    ∃ c, w.coil? k = some c ∧ c.state = .opened ∧ c.line = i ∧
      c.start ≤ (w.line i).position ∧ c.revision = (w.line i).revision
  primed : (w.line i).state = .primed → (w.line i).position = 0

/-- `State.coilLinked`, which speaks of the records alone. -/
structure Works.coilTied (w : Works) (c : Coil) : Prop where
  opened : c.state = .opened →
    (w.line c.line).coil = some c.key ∧ c.stop = none ∧ c.packer = none
  ended : c.state ≠ .opened → (∃ e, c.stop = some e ∧ c.start ≤ e) ∧
    (∀ z ∈ c.zones, z.stop ≠ none) ∧ c.unlistedOpen = []
  final : c.final = true ↔ c.state = .sealed
  revision : ∀ t, w.lot? c.key.lot = some t → c.revision ≤ t.revision

/-- R138: what stands in a packer's queue. -/
def Works.queueTied (w : Works) (p : PackerIx) : Prop :=
  w.queues[p].Nodup ∧ ∀ k ∈ w.queues[p], ∃ c, w.coil? k = some c ∧ c.packer = some p ∧
    (c.state = .full ∨ (c.state = .taken ∧ w.queues[p].head? = some k))

/-- R25: the wait list and the lines that wait for an entry. -/
def Works.waitTied (w : Works) : Prop :=
  w.waitList.Nodup ∧ ∀ i, i ∈ w.waitList ↔ (w.line i).starve = some .noEntry

/-- The laws on the records, but for the free entries (R25). -/
structure Works.tied (isolated : LineIx → Bool) (w : Works) : Prop where
  lines : ∀ i, w.lineTied isolated i
  coils : ∀ c ∈ inUse w.coils, w.coilTied c
  waiting : w.waitTied
  queues : ∀ p, w.queueTied p

/-- R25: while a line waits, no entry is free. -/
def Works.taken (w : Works) : Prop := w.waitList ≠ [] → w.freeCoils = 0

theorem State.lineLinked_iff (s : State) (i : LineIx) :
    s.lineLinked i ↔ s.works.lineTied s.link.lineIsolated i :=
  ⟨fun h => ⟨h.lot, h.coil, h.starve, h.unused, h.suspended, h.amendment, h.runs, h.current, h.primed⟩,
    fun h => ⟨h.lot, h.coil, h.starve, h.unused, h.suspended, h.amendment, h.runs, h.current,
      h.primed⟩⟩

theorem State.coilLinked_iff (s : State) (c : Coil) : s.coilLinked c ↔ s.works.coilTied c :=
  ⟨fun h => ⟨h.opened, h.ended, h.final, h.revision⟩, fun h => ⟨h.opened, h.ended, h.final, h.revision⟩⟩

/-- R174: the tables and lists stand empty in LOADING. -/
def State.emptyWhileLoading (s : State) : Prop :=
  s.partState = .loading → inUse s.works.lots = [] ∧ inUse s.works.coils = [] ∧
    s.works.waitList = [] ∧ ∀ p : PackerIx, s.works.queues[p] = []

theorem State.recordsLinked_iff (s : State) : s.recordsLinked ↔
    s.works.tied s.link.lineIsolated ∧ s.works.taken ∧ s.rolesApart ∧ s.emptyWhileLoading :=
  ⟨fun h => ⟨⟨fun i => (s.lineLinked_iff i).1 (h.lines i), fun c hc => (s.coilLinked_iff c).1
      (h.coils c hc), h.waiting, h.queues⟩, h.full, (s.rolesApart_iff).2 h.roles, h.loading⟩,
    fun ⟨h, full, roles, loading⟩ => ⟨fun i => (s.lineLinked_iff i).2 (h.lines i),
      fun c hc => (s.coilLinked_iff c).2 (h.coils c hc), (s.rolesApart_iff).1 roles, h.waiting, full,
      h.queues, loading⟩⟩

/-! ## Changes that leave the links of a record -/

/-- What links a line record, but for its state and position: the other fields at fixed values. -/
def Line.ties (l : Line) : Line :=
  { Line.reset with
    kind := l.kind, suspended := l.suspended, lot := l.lot, revision := l.revision,
    amendPending := l.amendPending, coil := l.coil, starve := l.starve }

/-- The line keeps its links; it may go on from PRIMED or RUNNING, and its run position may rise. -/
structure Line.leads (l l' : Line) : Prop where
  ties : l'.ties = l.ties
  state : l'.state = l.state ∨
    ((l.state = .primed ∨ l.state = .running) ∧ (l'.state = .running ∨ l'.state = .releasing))
  position : l.position ≤ l'.position
  primed : l'.state = .primed → l'.position = l.position

/-- The fields that `Line.ties` keeps. -/
theorem Line.ties_fields {l l' : Line} (h : l'.ties = l.ties) :
    l'.kind = l.kind ∧ l'.suspended = l.suspended ∧ l'.lot = l.lot ∧ l'.revision = l.revision ∧
    l'.amendPending = l.amendPending ∧ l'.coil = l.coil ∧ l'.starve = l.starve :=
  ⟨(congrArg Line.kind h :), (congrArg Line.suspended h :), (congrArg Line.lot h :),
    (congrArg Line.revision h :), (congrArg Line.amendPending h :), (congrArg Line.coil h :),
    (congrArg Line.starve h :)⟩

/-- The fields that `Coil.bones` keeps. -/
theorem Coil.bones_fields {c d : Coil} (h : d.bones = c.bones) :
    d.key = c.key ∧ d.state = c.state ∧ d.line = c.line ∧ d.packer = c.packer ∧
    d.revision = c.revision ∧ d.start = c.start ∧ d.stop = c.stop ∧ d.final = c.final :=
  ⟨(congrArg Coil.key h :), (congrArg Coil.state h :), (congrArg Coil.line h :),
    (congrArg Coil.packer h :), (congrArg Coil.revision h :), (congrArg Coil.start h :),
    (congrArg Coil.stop h :), (congrArg Coil.final h :)⟩

theorem Line.leads.refl (l : Line) : l.leads l := ⟨rfl, .inl rfl, le_rfl, fun _ => rfl⟩

theorem Line.leads.trans {l m n : Line} (h : l.leads m) (k : m.leads n) : l.leads n where
  ties := k.ties.trans h.ties
  state := by
    rcases h.state with e | ⟨e, e'⟩ <;> rcases k.state with f | ⟨f, f'⟩
    · exact .inl (f.trans e)
    · exact .inr ⟨e ▸ f, f'⟩
    · exact .inr ⟨e, f ▸ e'⟩
    · exact .inr ⟨e, f'⟩
  position := h.position.trans k.position
  primed hs := by
    have hm : m.state = .primed := by
      rcases k.state with e | ⟨-, e | e⟩
      · exact e ▸ hs
      · exact nomatch e ▸ hs
      · exact nomatch e ▸ hs
    exact (k.primed hs).trans (h.primed hm)

theorem Line.leads.of_same {l l' : Line} (ties : l'.ties = l.ties) (state : l'.state = l.state)
    (position : l'.position = l.position) : l.leads l' :=
  ⟨ties, .inl state, position.ge, fun _ => position⟩

theorem Line.leads.of_bones {l l' : Line} (h : l'.bones = l.bones) : l.leads l' :=
  .of_same (congrArg Line.ties h :) (congrArg Line.state h :) (congrArg Line.position h :)

/-- The lots keep what links them; one may become CLOSED when no line runs it. -/
def Works.lotsHold (w v : Works) : Prop :=
  ∃ g : Lot → Lot, v.lots = mapTable (Option.map g) w.lots ∧ ∀ t, (g t).number = t.number ∧
    (g t).revision = t.revision ∧
    ((g t).state = .closed → t.state = .closed ∨ ∀ j, (v.line j).lot ≠ some t.number)

section
variable {w v : Works} {isolated : LineIx → Bool}

theorem Works.lotsHold.of_lots (h : v.lots = w.lots) : w.lotsHold v :=
  ⟨fun t => t, h.trans (mapTable_map_id _).symm, fun _ => ⟨rfl, rfl, .inl⟩⟩

theorem Works.lotsHold.of_modifyLot (n : Nat) (f : Lot → Lot)
    (h : v.lots = (w.modifyLot n f).lots)
    (hf : ∀ t, (f t).number = t.number ∧ (f t).revision = t.revision ∧ (f t).state = t.state) :
    w.lotsHold v :=
  ⟨_, h, fun t => by
    split
    · exact ⟨(hf t).1, (hf t).2.1, fun e => .inl ((hf t).2.2 ▸ e)⟩
    · exact ⟨rfl, rfl, .inl⟩⟩

theorem Works.lot?_mapTable {g : Lot → Lot} (h : v.lots = mapTable (Option.map g) w.lots)
    (hg : ∀ t, (g t).number = t.number) (n : Nat) : v.lot? n = (w.lot? n).map g := by
  simp only [Works.lot?, h, inUse_mapTable, List.find?_map, Function.comp_def, hg]

theorem Works.coil?_mapTable {f : Coil → Coil} (h : v.coils = mapTable (Option.map f) w.coils)
    (hf : ∀ c ∈ inUse w.coils, (f c).key = c.key) (k : CoilKey) : v.coil? k = (w.coil? k).map f := by
  simp only [Works.coil?, h, inUse_mapTable, List.find?_map, Function.comp_def]
  congr 1
  exact List.find?_congr fun c hc => by rw [hf c hc]

/-- What a lot of `v` was in `w`. -/
theorem Works.lotsHold.back (h : w.lotsHold v) {n : Nat} {t : Lot} (ht : v.lot? n = some t) :
    ∃ r, w.lot? n = some r ∧ t.revision = r.revision := by
  obtain ⟨g, hg, hkeep⟩ := h
  rw [Works.lot?_mapTable hg fun t => (hkeep t).1] at ht
  obtain ⟨r, hr, rfl⟩ := Option.map_eq_some_iff.1 ht
  exact ⟨r, hr, (hkeep r).2.1⟩

/-- What a lot that a line runs becomes. -/
theorem Works.lotsHold.run (h : w.lotsHold v) {n : Nat} {t : Lot} (ht : w.lot? n = some t)
    (hs : t.state ≠ .closed) {j : LineIx} (hj : (v.line j).lot = some n) :
    ∃ r, v.lot? n = some r ∧ r.revision = t.revision ∧ r.state ≠ .closed := by
  obtain ⟨g, hg, hkeep⟩ := h
  obtain ⟨-, hrev, hstate⟩ := hkeep t
  refine ⟨g t, ?_, hrev, fun hc => ?_⟩
  · rw [Works.lot?_mapTable hg fun t => (hkeep t).1, ht]; rfl
  · rcases hstate hc with e | e
    · exact hs e
    · exact e j ((Works.lot?_some w n t ht).2 ▸ hj)

/-- A line that keeps its links, with its current coil's own links kept, stays linked. -/
theorem Works.lineTied.of {j : LineIx} (h : w.lineTied isolated j) (lots : w.lotsHold v)
    (leads : (w.line j).leads (v.line j))
    (coil : ∀ k c, (w.line j).coil = some k → w.coil? k = some c → c.state = .opened →
      ∃ d, v.coil? k = some d ∧ d.bones = c.bones) : v.lineTied isolated j := by
  obtain ⟨hkind, hsus, hlot, hrev, hamend, hcoil, hstarve⟩ := Line.ties_fields leads.ties
  have hidle : (v.line j).state = .idle ↔ (w.line j).state = .idle := by
    rcases leads.state with e | ⟨e | e, e' | e'⟩ <;> simp [*]
  have hstarved : (v.line j).state = .starved ↔ (w.line j).state = .starved := by
    rcases leads.state with e | ⟨e | e, e' | e'⟩ <;> simp [*]
  refine ⟨by rw [hlot, hidle, h.lot], by rw [hcoil, hidle, hstarved, h.coil],
    by rw [hstarve, hstarved, h.starve], fun hk => hidle.2 (h.unused (hkind ▸ hk)),
    by rw [hsus, Ne, hidle]; exact h.suspended, fun ha => ?_, fun n hn => ?_, fun k hk => ?_,
    fun hp => ?_⟩
  · rcases leads.state with e | ⟨-, e⟩
    · rw [e]; exact h.amendment (hamend ▸ ha)
    · exact e
  · obtain ⟨t, ht, hs, hle, heq⟩ := h.runs n (hlot ▸ hn)
    obtain ⟨r, hr, hrr, hrs⟩ := lots.run ht hs hn
    exact ⟨r, hr, hrs, by rw [hrev, hrr]; exact hle, fun ha => by
      rw [hrev, hrr]; exact heq (hamend ▸ ha)⟩
  · obtain ⟨hl, c, hc, hs, hline, hstart, hcrev⟩ := h.current k (hcoil ▸ hk)
    obtain ⟨d, hd, hbones⟩ := coil k c (hcoil ▸ hk) hc hs
    obtain ⟨-, hds, hdl, -, hdr, hdst, -, -⟩ := Coil.bones_fields hbones
    exact ⟨hlot.trans hl, d, hd, hds.trans hs, hdl.trans hline,
      by rw [hdst]; exact hstart.trans leads.position, by rw [hdr, hrev, hcrev]⟩
  · have hw : (w.line j).state = .primed := by
      rcases leads.state with e | ⟨-, e | e⟩
      · exact e ▸ hp
      · exact nomatch e ▸ hp
      · exact nomatch e ▸ hp
    rw [leads.primed hp]
    exact h.primed hw

/-- What a unit may make of a coil: its links stay, and one that has ended gets no open zone. -/
structure Coil.settles (c d : Coil) : Prop where
  bones : d.bones = c.bones
  sealed : c.state = .sealed → d = c
  ended : c.state ≠ .opened → (∀ z ∈ c.zones, z.stop ≠ none) → c.unlistedOpen = [] →
    (∀ z ∈ d.zones, z.stop ≠ none) ∧ d.unlistedOpen = []

theorem Coil.settles.refl (c : Coil) : c.settles c := ⟨rfl, fun _ => rfl, fun _ hz hu => ⟨hz, hu⟩⟩

theorem Coil.settles.trans {c d e : Coil} (h : c.settles d) (k : d.settles e) : c.settles e where
  bones := k.bones.trans h.bones
  sealed hs := by
    obtain rfl := h.sealed hs
    exact k.sealed hs
  ended hs hz hu := by
    obtain ⟨hz', hu'⟩ := h.ended hs hz hu
    exact k.ended ((Coil.bones_fields h.bones).2.1 ▸ hs) hz' hu'

/-- An OPEN coil may be changed as long as its links stay. -/
theorem Coil.settles.of_opened {c d : Coil} (hs : c.state = .opened) (h : d.bones = c.bones) :
    c.settles d :=
  ⟨h, fun e => absurd (hs.symm.trans e) nofun, fun e => absurd hs e⟩

theorem Works.coilTied.of {c d : Coil} (h : w.coilTied c) (lots : w.lotsHold v) (settles : c.settles d)
    (line : c.state = .opened → (v.line c.line).coil = (w.line c.line).coil) : v.coilTied d := by
  obtain ⟨hkey, hstate, hline, hpacker, hrev, hstart, hstop, hfinal⟩ :=
    Coil.bones_fields settles.bones
  refine ⟨fun hs => ?_, fun hs => ?_, by rw [hfinal, hstate]; exact h.final, fun t ht => ?_⟩
  · obtain ⟨hl, he, hp⟩ := h.opened (hstate ▸ hs)
    exact ⟨by rw [hline, line (hstate ▸ hs), hkey]; exact hl, hstop.trans he, hpacker.trans hp⟩
  · obtain ⟨⟨e, he, hle⟩, hz, hu⟩ := h.ended (hstate ▸ hs)
    exact ⟨⟨e, hstop.trans he, hstart ▸ hle⟩, settles.ended (hstate ▸ hs) hz hu⟩
  · obtain ⟨r, hr, hrr⟩ := lots.back (hkey ▸ ht)
    rw [hrev, hrr]
    exact h.revision r hr

/-- The queue stands, and what stands in it keeps its place. -/
theorem Works.queueTied.of {p : PackerIx} (h : w.queueTied p) (queue : v.queues[p] = w.queues[p])
    (coil : ∀ k c, k ∈ w.queues[p] → w.coil? k = some c →
      ∃ d, v.coil? k = some d ∧ d.packer = c.packer ∧ d.state = c.state) : v.queueTied p := by
  refine ⟨by rw [queue]; exact h.1, fun k hk => ?_⟩
  rw [queue] at hk ⊢
  obtain ⟨c, hc, hp, hs⟩ := h.2 k hk
  obtain ⟨d, hd, hdp, hds⟩ := coil k c hk hc
  exact ⟨d, hd, hdp.trans hp, hds ▸ hs⟩

end

/-! ## Changes that keep every link -/

/-- Between `w` and `v` the records kept what links them. -/
structure Works.minds (w v : Works) : Prop where
  lots : ∃ g : Lot → Lot, v.lots = mapTable (Option.map g) w.lots ∧ ∀ t, (g t).number = t.number ∧
    (g t).state = t.state ∧ (g t).revision = t.revision
  lines : ∀ j, (w.line j).leads (v.line j)
  coils : ∃ f : Coil → Coil, v.coils = mapTable (Option.map f) w.coils ∧
    ∀ c ∈ inUse w.coils, c.settles (f c)
  queues : v.queues = w.queues
  waitList : v.waitList = w.waitList

section
variable {w v u : Works} {isolated : LineIx → Bool}

theorem Works.minds.trans (h : w.minds v) (k : v.minds u) : w.minds u where
  lots := by
    obtain ⟨g, hg, hkeep⟩ := h.lots
    obtain ⟨g', hg', hkeep'⟩ := k.lots
    refine ⟨fun t => g' (g t), by rw [hg', hg, mapTable_mapTable], fun t => ?_⟩
    obtain ⟨a, b, c⟩ := hkeep t
    obtain ⟨a', b', c'⟩ := hkeep' (g t)
    exact ⟨a'.trans a, b'.trans b, c'.trans c⟩
  lines j := (h.lines j).trans (k.lines j)
  coils := by
    obtain ⟨f, hf, hkeep⟩ := h.coils
    obtain ⟨f', hf', hkeep'⟩ := k.coils
    refine ⟨fun c => f' (f c), by rw [hf', hf, mapTable_mapTable], fun c hc => ?_⟩
    exact (hkeep c hc).trans (hkeep' (f c) (hf ▸ (mem_inUse_mapTable _ _ _).2 ⟨c, hc, rfl⟩))
  queues := k.queues.trans h.queues
  waitList := k.waitList.trans h.waitList

theorem Works.minds.of_lines (lots : v.lots = w.lots) (coils : v.coils = w.coils)
    (queues : v.queues = w.queues) (waitList : v.waitList = w.waitList)
    (lines : ∀ j, (w.line j).leads (v.line j)) : w.minds v where
  lots := ⟨fun t => t, lots.trans (mapTable_map_id _).symm, fun _ => ⟨rfl, rfl, rfl⟩⟩
  lines := lines
  coils := ⟨fun c => c, coils.trans (mapTable_map_id _).symm, fun c _ => .refl c⟩
  queues := queues
  waitList := waitList

theorem Works.minds.of_plain (lots : v.lots = w.lots) (lines : v.lines = w.lines)
    (coils : v.coils = w.coils) (waitList : v.waitList = w.waitList) (queues : v.queues = w.queues) :
    w.minds v :=
  .of_lines lots coils queues waitList fun j => by rw [Works.line_congr lines]; exact .refl _

theorem Works.minds.refl (w : Works) : w.minds w := .of_plain rfl rfl rfl rfl rfl

theorem Works.minds.of_modifyLine (w : Works) (i : LineIx) (f : Line → Line)
    (h : (w.line i).leads (f (w.line i))) : w.minds (w.modifyLine i f) :=
  .of_lines rfl rfl rfl rfl fun j => by
    rw [Works.line_modifyLine]
    split
    · next e => exact e ▸ h
    · exact .refl _

theorem Works.minds.of_modifyCoil (w : Works) (k : CoilKey) (f : Coil → Coil)
    (h : ∀ c ∈ inUse w.coils, c.key = k → c.settles (f c)) : w.minds (w.modifyCoil k f) where
  lots := ⟨fun t => t, (mapTable_map_id _).symm, fun _ => ⟨rfl, rfl, rfl⟩⟩
  lines _ := .refl _
  coils := ⟨_, rfl, fun c hc => by
    split
    · next e => exact h c hc e
    · exact .refl c⟩
  queues := rfl
  waitList := rfl

theorem Works.minds.lotsHold (h : w.minds v) : w.lotsHold v := by
  obtain ⟨g, hg, hkeep⟩ := h.lots
  exact ⟨g, hg, fun t => ⟨(hkeep t).1, (hkeep t).2.2, fun e => .inl ((hkeep t).2.1 ▸ e)⟩⟩

theorem Works.minds.coil? (h : w.minds v) {k : CoilKey} {c : Coil} (hc : w.coil? k = some c) :
    ∃ d, v.coil? k = some d ∧ c.settles d := by
  obtain ⟨f, hf, hkeep⟩ := h.coils
  have hmem := (Works.coil?_some w k c hc).1
  refine ⟨f c, ?_, hkeep c hmem⟩
  rw [Works.coil?_mapTable hf fun c hc => (Coil.bones_fields (hkeep c hc).bones).1, hc]
  rfl

theorem Works.minds.tied (h : w.minds v) (hw : w.tied isolated) : v.tied isolated where
  lines j := (hw.lines j).of h.lotsHold (h.lines j) fun k c _ hc _ => by
    obtain ⟨d, hd, hs⟩ := h.coil? hc
    exact ⟨d, hd, hs.bones⟩
  coils d hd := by
    obtain ⟨f, hf, hkeep⟩ := h.coils
    rw [hf, mem_inUse_mapTable] at hd
    obtain ⟨c, hc, rfl⟩ := hd
    exact (hw.coils c hc).of h.lotsHold (hkeep c hc) fun _ =>
      (Line.ties_fields (h.lines c.line).ties).2.2.2.2.2.1
  waiting := by
    obtain ⟨hnd, hiff⟩ := hw.waiting
    refine ⟨h.waitList ▸ hnd, fun i => ?_⟩
    rw [h.waitList, hiff, (Line.ties_fields (h.lines i).ties).2.2.2.2.2.2]
  queues p := (hw.queues p).of (by rw [h.queues]) fun k c _ hc => by
    obtain ⟨d, hd, hs⟩ := h.coil? hc
    obtain ⟨-, hstate, -, hpacker, -⟩ := Coil.bones_fields hs.bones
    exact ⟨d, hd, hpacker, hstate⟩

/-- As many entries are free. -/
theorem Works.freeCoils_mapTable {f : Coil → Coil} (h : v.coils = mapTable (Option.map f) w.coils) :
    v.freeCoils = w.freeCoils := by
  have hlist : v.coils.toList = w.coils.toList.map (Option.map f) := by
    rw [h]
    unfold mapTable
    simp
  simp only [Works.freeCoils, hlist, List.filter_map, List.length_map]
  exact congrArg List.length (List.filter_congr fun e _ => by cases e <;> rfl)

theorem Works.minds.taken (h : w.minds v) (hw : w.taken) : v.taken := by
  obtain ⟨f, hf, -⟩ := h.coils
  unfold Works.taken
  rw [h.waitList, Works.freeCoils_mapTable hf]
  exact hw

/-- The current coil of a line is OPEN, and no other line's. -/
theorem Works.tied.currentCoil? (h : w.tied isolated) {i : LineIx} {c : Coil}
    (hc : w.currentCoil? i = some c) : c.state = .opened ∧ c.line = i ∧ c.stop = none ∧
      c.start ≤ (w.line i).position ∧ (w.line i).lot = some c.key.lot ∧
      c.revision = (w.line i).revision := by
  obtain ⟨hk, hq⟩ := Works.currentCoil?_key hc
  obtain ⟨hlot, d, hd, hs, hl, hstart, hrev⟩ := (h.lines i).current c.key hk
  obtain rfl := Option.some.inj (hd.symm.trans hq)
  exact ⟨hs, hl, ((h.coils d (Works.coil?_some _ _ _ hd).1).opened hs).2.1, hstart, hlot, hrev⟩

/-- What a unit that tends a line does keeps the links. -/
theorem Works.tends.minds {i : LineIx} (h : w.tends i v) (hw : w.tied isolated) (hk : w.keyed) :
    w.minds v where
  lots := ⟨fun t => t, h.lots.trans (mapTable_map_id _).symm, fun _ => ⟨rfl, rfl, rfl⟩⟩
  lines j := by
    by_cases hj : j = i
    · exact hj ▸ .of_bones h.line
    · rw [h.others j hj]; exact .refl _
  coils := by
    obtain ⟨f, hf, hkeep⟩ := h.coils
    refine ⟨f, hf, fun c hc => ?_⟩
    by_cases hcur : some c.key = (w.line i).coil
    · have hq : w.currentCoil? i = some c := by
        rw [Works.currentCoil?, ← hcur]
        exact hk.coil?_eq hc
      exact .of_opened (hw.currentCoil? hq).1 (hkeep c).1
    · rw [(hkeep c).2 hcur]; exact .refl c
  queues := h.queues
  waitList := h.waitList

end

end Sys2Proof.Machine
end

section
namespace Sys2Proof.Machine

/-! ## Changes that leave the lots and the run positions -/

/-- Between `w` and `v` the records kept their links, their lots and the run positions. -/
structure Works.rests (w v : Works) : Prop extends w.minds v where
  sameLots : v.lots = w.lots
  position : ∀ j, (v.line j).position = (w.line j).position

section
variable {w v u : Works} {isolated : LineIx → Bool}

theorem Works.rests.trans (h : w.rests v) (k : v.rests u) : w.rests u :=
  ⟨h.tominds.trans k.tominds, k.sameLots.trans h.sameLots,
    fun j => (k.position j).trans (h.position j)⟩

theorem Works.rests.of_plain (lots : v.lots = w.lots) (lines : v.lines = w.lines)
    (coils : v.coils = w.coils) (waitList : v.waitList = w.waitList) (queues : v.queues = w.queues) :
    w.rests v :=
  ⟨.of_plain lots lines coils waitList queues, lots, fun j => by rw [Works.line_congr lines]⟩

theorem Works.rests.refl (w : Works) : w.rests w := .of_plain rfl rfl rfl rfl rfl

theorem Works.rests.of_modifyLine (w : Works) (i : LineIx) (f : Line → Line)
    (h : (w.line i).leads (f (w.line i))) (hp : (f (w.line i)).position = (w.line i).position) :
    w.rests (w.modifyLine i f) :=
  ⟨.of_modifyLine w i f h, rfl, fun j => by
    rw [Works.line_modifyLine]
    split
    · next e => exact e ▸ hp
    · rfl⟩

theorem Works.rests.keyed (h : w.rests v) (hk : w.keyed) : v.keyed := by
  obtain ⟨f, hf, hkeep⟩ := h.coils
  exact hk.map (fun t => t) f (h.sameLots.trans (mapTable_map_id _).symm) hf
    (fun _ _ => ⟨rfl, le_rfl⟩) fun c hc => (Coil.bones_fields (hkeep c hc).bones).1

/-- A change of a line that leaves its links, its state and its position. -/
theorem Works.rests.of_ties (w : Works) (i : LineIx) (f : Line → Line)
    (ties : (f (w.line i)).ties = (w.line i).ties) (state : (f (w.line i)).state = (w.line i).state)
    (position : (f (w.line i)).position = (w.line i).position) : w.rests (w.modifyLine i f) :=
  .of_modifyLine w i f (.of_same ties state position) position

theorem Works.tends.rests {i : LineIx} (h : w.tends i v) (hw : w.tied isolated) (hk : w.keyed) :
    w.rests v :=
  ⟨h.minds hw hk, h.lots, fun j => by
    by_cases hj : j = i
    · exact hj ▸ h.position
    · rw [h.others j hj]⟩

/-! ## The Cut Controller -/

theorem Works.overlengthTest_rests (w : Works) (i : LineIx) (hw : w.tied isolated) (hk : w.keyed) :
    w.rests (w.overlengthTest i) := by
  rcases Works.overlengthTest_cases w i with h | ⟨c, hc, -, h⟩ <;> rw [h]
  · exact .refl w
  · have hhalt : w.rests (w.modifyLine i fun l => { l with halted := true }) :=
      .of_ties w i _ rfl rfl rfl
    refine hhalt.trans (Works.tends.rests (i := i) (Works.gainReason_tends _ i ?_ _)
      (hhalt.tied hw) (hk.of_eq rfl rfl))
    rw [Works.line_modifyLine_self]
    exact (Works.currentCoil?_key hc).1

theorem Works.orderCut_rests (w : Works) (i : LineIx) (r : Option PackerIx) (start : Nat) :
    w.rests (w.orderCut i r start) := .of_ties w i _ rfl rfl rfl

theorem Works.plannedCutTest_rests (w : Works) (i : LineIx) (hw : w.tied isolated) (hk : w.keyed) :
    w.rests (w.plannedCutTest i) := by
  rcases Works.plannedCutTest_cases w i with e | ⟨c, -, -, ⟨-, e⟩ | ⟨-, e⟩⟩ <;> rw [e]
  · exact .refl w
  · exact w.overlengthTest_rests i hw hk
  · rcases Works.requestCut_cases w i c.start with ⟨-, k⟩ | ⟨p, -, ⟨-, k⟩ | ⟨-, k⟩⟩ <;> rw [k]
    · exact w.orderCut_rests i none c.start
    · exact w.orderCut_rests i (some p) c.start
    · have hheld : w.rests ((w.modifyLine i fun l =>
          { l with cut := .held, reserved := some p }).joinHeld p i) :=
        .trans (.of_ties w i (fun l => { l with cut := .held, reserved := some p }) rfl rfl rfl)
          (.of_plain rfl rfl rfl rfl rfl)
      exact hheld.trans (Works.overlengthTest_rests _ i (hheld.tied hw) (hk.of_eq rfl rfl))

theorem Works.placeFreed_rests (w : Works) (p : PackerIx) : w.rests (w.placeFreed p) := by
  rcases Works.placeFreed_cases w p with ⟨-, e⟩ | ⟨i, rest, -, e⟩ <;> rw [e]
  · exact .refl w
  · exact .trans (v := { w with held := w.held.set p rest }) (.of_plain rfl rfl rfl rfl rfl)
      (Works.orderCut_rests _ i (some p) _)

theorem Works.withdraw_rests (w : Works) (i : LineIx) : w.rests (w.withdraw i) := by
  rcases Works.withdraw_cases w i with h | ⟨p, -, -, h⟩ <;> rw [h]
  · exact .refl w
  · exact .trans (v := w.leaveHeld p i) (.of_plain rfl rfl rfl rfl rfl) (.of_ties _ i
      (fun l => { l with cut := .noCut, reserved := none, halted := false }) rfl rfl rfl)

theorem Works.releaseRunning_rests (w : Works) (i : LineIx) (hs : (w.line i).state = .running) :
    w.rests (w.releaseRunning i) := by
  have hx := w.withdraw_rests i
  refine hx.trans (.of_modifyLine _ i _ ?_ ?_)
  · have hstate : ((w.withdraw i).line i).state = .running :=
      (congrArg Line.state (w.withdrawn_withdraw i).line).trans hs
    refine ⟨?_, .inr ⟨.inr hstate, ?_⟩, ?_, fun _ => ?_⟩
    · split <;> rfl
    · split <;> exact .inr rfl
    · split <;> exact le_rfl
    · split <;> rfl
  · split <;> rfl

/-! ## The Length Unit -/

theorem Works.resync_rests (w : Works) (i : LineIx) (counts : Counts) (hw : w.tied isolated)
    (hk : w.keyed) : w.rests (w.resync i counts) := (w.resync_tends i counts).rests hw hk

/-- R36: a PRIMED line begins to run. -/
theorem Works.takeBaselines_rests (w : Works) (i : LineIx) (counts : Counts)
    (hs : (w.line i).state = .primed) (hw : w.tied isolated) (hk : w.keyed) :
    w.rests (w.takeBaselines i counts) := by
  have hset : w.rests (w.modifyLine i fun l =>
      { l with baselines := counts, baselinesValid := true, state := .running }) :=
    .of_modifyLine w i _ ⟨rfl, .inr ⟨.inl hs, .inl rfl⟩, le_rfl, nofun⟩ rfl
  exact hset.trans (Works.plannedCutTest_rests _ i (hset.tied hw) (hk.of_eq rfl rfl))

theorem Works.applyMark_rests (w : Works) (i : LineIx) (pos : Nat) (kind : MarkKind)
    (hw : w.tied isolated) (hk : w.keyed) : w.rests (w.applyMark i pos kind) :=
  (w.applyMark_tends i pos kind).rests hw hk

/-- A change of one lot record that leaves its links. -/
theorem Works.modifyLot_map (w : Works) (n : Nat) (f : Lot → Lot)
    (hf : ∀ t, (f t).number = t.number ∧ (f t).state = t.state ∧ (f t).revision = t.revision) :
    ∃ g : Lot → Lot, (w.modifyLot n f).lots = mapTable (Option.map g) w.lots ∧
      ∀ t, (g t).number = t.number ∧ (g t).state = t.state ∧ (g t).revision = t.revision :=
  ⟨_, rfl, fun t => by
    split
    · exact hf t
    · exact ⟨rfl, rfl, rfl⟩⟩

theorem Works.giveCredit_lots (w : Works) (i : LineIx) (counts : Counts) :
    ∃ g : Lot → Lot, (w.giveCredit i counts).lots = mapTable (Option.map g) w.lots ∧
      ∀ t, (g t).number = t.number ∧ (g t).state = t.state ∧ (g t).revision = t.revision := by
  have hsat : ∀ (v : Works) (b : Bool), (v.raiseSaturated b).lots = v.lots := fun v b => by
    rw [Works.raiseSaturated_eq]
  unfold Works.giveCredit
  dsimp only
  split
  · exact ⟨fun t => t, (hsat _ _).trans (mapTable_map_id _).symm, fun _ => ⟨rfl, rfl, rfl⟩⟩
  · next n _ =>
    obtain ⟨g, hg, hkeep⟩ := w.modifyLot_map n
      (fun l => { l with produced := addLength l.produced ((w.line i).credit counts) })
      fun _ => ⟨rfl, rfl, rfl⟩
    have hprod : ∀ (v : Works) (mm : Nat), v.lots = w.lots → mm = (w.line i).credit counts →
        (v.addProduced n mm).lots = mapTable (Option.map g) w.lots := fun v mm hv hmm => by
      rw [← hg, Works.addProduced, hsat, hmm]
      show mapTable _ v.lots = _
      rw [hv]
      rfl
    split
    · obtain ⟨g', hg', hkeep'⟩ := Works.modifyLot_map
        (((w.modifyLine i fun l => l.credited counts).raiseSaturated
          (passesLimit (w.line i).position ((w.line i).credit counts))).addProduced n
            ((w.line i).credit counts)) n
        (fun l => { l with unassigned := addLength l.unassigned ((w.line i).credit counts) })
        fun _ => ⟨rfl, rfl, rfl⟩
      refine ⟨fun t => g' (g t), ?_, fun t => ?_⟩
      · rw [Works.addUnassigned, hsat, hg', hprod _ _ (hsat (w.modifyLine i _) _) rfl,
          mapTable_mapTable]
      · obtain ⟨a, b, c⟩ := hkeep t
        obtain ⟨a', b', c'⟩ := hkeep' (g t)
        exact ⟨a'.trans a, b'.trans b, c'.trans c⟩
    all_goals exact ⟨g, hprod _ _ (hsat _ _) rfl, hkeep⟩

/-- R38, R39: a credit raises the run position of a line that is not PRIMED. -/
theorem Works.giveCredit_minds (w : Works) (i : LineIx) (counts : Counts)
    (hs : (w.line i).state ≠ .primed) (hp : (w.line i).position ≤ Config.positionLimit) :
    w.minds (w.giveCredit i counts) := by
  obtain ⟨hlines, hcoils⟩ := w.giveCredit_kept i counts
  obtain ⟨hwait, hqueues⟩ := w.giveCredit_lists i counts
  have hrise : (w.line i).position ≤ ((w.line i).credited counts).position :=
    Nat.le_min.2 ⟨hp, Nat.le_add_right _ _⟩
  refine ⟨w.giveCredit_lots i counts, fun j => ?_,
    ⟨fun c => c, hcoils.trans (mapTable_map_id _).symm, fun c _ => .refl c⟩, hqueues, hwait⟩
  by_cases hj : j = i
  · subst hj
    rw [Works.line_of_lines (u := w) (f := fun l => l.credited counts) hlines]
    exact ⟨rfl, .inl rfl, hrise, fun e => absurd e hs⟩
  · rw [Works.line_of_lines_other (u := w) (f := fun l => l.credited counts) hlines hj]
    exact .refl _

theorem Works.creditTally_minds (w : Works) (permille : Nat) (i : LineIx) (f : CountFrame)
    (hs : (w.line i).state ≠ .primed) (hp : (w.line i).position ≤ Config.positionLimit)
    (hw : w.tied isolated) (hk : w.keyed) :
    w.minds (w.creditTally permille i f) ∧
      (w.giveCredit i f.counts).rests (w.creditTally permille i f) := by
  have hcredit := w.giveCredit_minds i f.counts hs hp
  have hk1 := (w.giveCredit_evolves i f.counts).keyed hk
  have hcheck := (Works.checked_tends (w.giveCredit i f.counts) i
    ((w.line i).measureLength (f.counts.minus (w.line i).baselines))
    (f.counts.minus (w.line i).baselines) f (w.line i).position permille
    ((w.line i).checkLength? (f.counts.minus (w.line i).baselines))).rests (hcredit.tied hw) hk1
  obtain ⟨v, hv⟩ : ∃ v, (((w.giveCredit i f.counts).monitorTally i
    ((w.line i).measureLength (f.counts.minus (w.line i).baselines))
    (f.counts.minus (w.line i).baselines) f (w.line i).position).slipCheck permille i
    ((w.line i).measureLength (f.counts.minus (w.line i).baselines))
    ((w.line i).checkLength? (f.counts.minus (w.line i).baselines))
    (w.line i).position).gradeTally i = v := ⟨_, rfl⟩
  have hw2 : w.creditTally permille i f = v.plannedCutTest i := by rw [← hv]; rfl
  rw [hv] at hcheck
  have hk2 := hcheck.keyed hk1
  have htest := hcheck.trans (v.plannedCutTest_rests i (hcheck.tied (hcredit.tied hw)) hk2)
  rw [hw2]
  exact ⟨hcredit.trans htest.tominds, htest⟩

end

end Sys2Proof.Machine
end

section
namespace Sys2Proof.Machine

/-! # Changes of one line and its coil -/

section
variable {w v : Works} {isolated : LineIx → Bool} {i : LineIx}

/-- Only line `i` moved, with its current coil, and what it became is linked. -/
theorem Works.tied.moves (hw : w.tied isolated) (hk : w.keyed) (hv : v.keyed) (i : LineIx)
    (lots : w.lotsHold v) (others : ∀ j, j ≠ i → v.line j = w.line j)
    (line : v.lineTied isolated i)
    (kept : ∀ c ∈ inUse w.coils, (w.line i).coil ≠ some c.key → c ∈ inUse v.coils)
    (coils : ∀ d ∈ inUse v.coils,
      (d ∈ inUse w.coils ∧ (w.line i).coil ≠ some d.key) ∨ v.coilTied d)
    (waiting : v.waitTied) (queues : ∀ p, v.queueTied p) : v.tied isolated where
  lines j := by
    by_cases hj : j = i
    · exact hj ▸ line
    · refine (hw.lines j).of lots (by rw [others j hj]; exact .refl _) fun k c hjk hc hs => ?_
      obtain ⟨-, d, hd, -, hdl, -⟩ := (hw.lines j).current k hjk
      obtain rfl := Option.some.inj (hc.symm.trans hd)
      have hmem := Works.coil?_some w k c hc
      have hne : (w.line i).coil ≠ some c.key := fun e => by
        have hcur : w.currentCoil? i = some c := by
          rw [Works.currentCoil?, e]; exact hk.coil?_eq hmem.1
        exact hj (hdl.symm.trans (hw.currentCoil? hcur).2.1)
      exact ⟨c, by rw [← hmem.2]; exact hv.coil?_eq (kept c hmem.1 hne), rfl⟩
  coils d hd := by
    rcases coils d hd with ⟨hdw, hne⟩ | h
    · refine (hw.coils d hdw).of lots (.refl d) fun hs => ?_
      have hcur := ((hw.coils d hdw).opened hs).1
      by_cases hj : d.line = i
      · exact absurd (hj ▸ hcur) hne
      · rw [others _ hj]
    · exact h
  waiting := waiting
  queues := queues

/-- A coil in a packer's queue is no line's current coil. -/
theorem Works.tied.queued_not_current (hw : w.tied isolated) {p : PackerIx} {k : CoilKey}
    (hm : k ∈ w.queues[p]) (i : LineIx) : (w.line i).coil ≠ some k := fun e => by
  obtain ⟨c, hc, -, hs⟩ := (hw.queues p).2 k hm
  obtain ⟨-, d, hd, hdo, -⟩ := (hw.lines i).current k e
  obtain rfl := Option.some.inj (hc.symm.trans hd)
  rw [hdo] at hs
  exact hs.elim nofun fun h => nomatch h.1

/-- The queues stand, and so do the coils but for a line's current one. -/
theorem Works.tied.queueTied_same (hw : w.tied isolated) (hv : v.keyed) (i : LineIx)
    (queues : v.queues = w.queues)
    (kept : ∀ c ∈ inUse w.coils, (w.line i).coil ≠ some c.key → c ∈ inUse v.coils) (p : PackerIx) :
    v.queueTied p :=
  (hw.queues p).of (by rw [queues]) fun k c hm hc => by
    obtain ⟨hmem, rfl⟩ := Works.coil?_some w k c hc
    exact ⟨c, hv.coil?_eq (kept c hmem (hw.queued_not_current hm i)), rfl, rfl⟩

/-- R138: the ended coil, if it goes to a packer, joins the tail of its queue. -/
theorem Works.tied.queueTied_with (hw : w.tied isolated) (hv : v.keyed) {c b : Coil}
    (hc : w.currentCoil? i = some c) {packer : Option PackerIx}
    (queues : v.queues = w.queuesWith c.key packer)
    (kept : ∀ c ∈ inUse w.coils, (w.line i).coil ≠ some c.key → c ∈ inUse v.coils)
    (hb : v.coil? c.key = some b) (queued : packer ≠ none → b.state = .full ∧ b.packer = packer)
    (p : PackerIx) : v.queueTied p := by
  have hcur := (Works.currentCoil?_key hc).1
  have hold : ∀ k ∈ w.queues[p], ∃ d, v.coil? k = some d ∧ d.packer = some p ∧
      (d.state = .full ∨ (d.state = .taken ∧ w.queues[p].head? = some k)) := fun k hm => by
    obtain ⟨d, hd, hp, hs⟩ := (hw.queues p).2 k hm
    obtain ⟨hmem, rfl⟩ := Works.coil?_some w k d hd
    exact ⟨d, hv.coil?_eq (kept d hmem (hw.queued_not_current hm i)), hp, hs⟩
  by_cases hp : packer = some p
  · have hq : v.queues[p] = w.queues[p] ++ [c.key] := by
      rw [queues, hp]
      exact (set_getFin _ _ _ _).trans (if_pos rfl)
    obtain ⟨hfull, hpacker⟩ := queued (by rw [hp]; nofun)
    refine ⟨?_, fun k hm => ?_⟩
    · rw [hq]
      refine List.Nodup.append (hw.queues p).1 (List.nodup_singleton _) fun k hk hk' => ?_
      rw [List.mem_singleton.1 hk'] at hk
      exact hw.queued_not_current hk i hcur
    · rw [hq] at hm ⊢
      rcases List.mem_append.1 hm with hm | hm
      · obtain ⟨d, hd, hdp, hs⟩ := hold k hm
        refine ⟨d, hd, hdp, hs.imp_right fun ⟨ht, hh⟩ => ⟨ht, ?_⟩⟩
        rw [List.head?_append, hh]
        rfl
      · rw [List.mem_singleton.1 hm]
        exact ⟨b, hb, hpacker.trans hp, .inl hfull⟩
  · have hq : v.queues[p] = w.queues[p] := by
      rw [queues]
      unfold Works.queuesWith
      split
      · rfl
      · next q =>
        rw [set_getFin, if_neg]
        rintro rfl
        exact hp rfl
    refine ⟨by rw [hq]; exact (hw.queues p).1, fun k hm => ?_⟩
    rw [hq] at hm ⊢
    exact hold k hm

theorem Works.waitTied.of (h : w.waitTied) (waitList : v.waitList = w.waitList)
    (starve : ∀ j, (v.line j).starve = some .noEntry ↔ (w.line j).starve = some .noEntry) :
    v.waitTied := ⟨waitList ▸ h.1, fun j => by rw [waitList, h.2, starve]⟩

/-- R5, R102: an ended coil. -/
theorem Works.coilTied.ends {c b : Coil} {stop : Nat} {rs : List Reason} {packer : Option PackerIx}
    (h : w.coilTied c) (hs : c.state = .opened) (hends : c.endsAs b stop rs packer)
    (hstop : c.start ≤ stop) (lots : w.lotsHold v) : v.coilTied b := by
  have hfinal : c.final = false := Bool.eq_false_iff.2 fun e => by
    rw [h.final.1 e] at hs; exact nomatch hs
  have hframe := hends.frame
  have hstate : (b.state = .full ∧ b.final = false) ∨ (b.state = .sealed ∧ b.final = true) := by
    cases hp : packer with
    | none => exact .inr ⟨(hends.loose hp).1, (hends.loose hp).2.2⟩
    | some p =>
      obtain ⟨hf, -, hfin⟩ := hends.queued (by rw [hp]; nofun)
      exact .inl ⟨hf, hfin.trans hfinal⟩
  refine ⟨fun e => ?_, fun _ => ⟨⟨stop, by rw [hframe], by rw [hframe]; exact hstop⟩, fun z hz => ?_,
    by rw [hframe]⟩, ?_, fun t ht => ?_⟩
  · rcases hstate with ⟨hf, -⟩ | ⟨hf, -⟩ <;> exact nomatch hf.symm.trans e
  · rw [hends.zones] at hz
    obtain ⟨y, -, rfl⟩ := List.mem_map.1 hz
    split
    · exact nofun
    · next hy => exact hy
  · rcases hstate with ⟨hf, hg⟩ | ⟨hf, hg⟩ <;> rw [hf, hg] <;> simp
  · have hkey : b.key = c.key := by rw [hframe]
    have hrev : b.revision = c.revision := by rw [hframe]
    obtain ⟨r, hr, hrr⟩ := lots.back (hkey ▸ ht)
    rw [hrev, hrr]
    exact h.revision r hr

/-- A line that has become IDLE. -/
theorem Works.lineTied.of_idle {l : Line} (h : v.line i = l.toIdle) : v.lineTied isolated i := by
  refine ⟨?_, ?_, ?_, ?_, ?_, ?_, fun n hn => ?_, fun k hk => ?_, ?_⟩ <;> rw [h] at *
  · exact ⟨fun _ => rfl, fun _ => rfl⟩
  · exact ⟨fun _ => .inl rfl, fun _ => rfl⟩
  · exact ⟨fun e => absurd rfl e, nofun⟩
  · exact fun _ => rfl
  · exact ⟨nofun, fun e => absurd rfl e.1⟩
  · exact nofun
  · exact nomatch hn
  · exact nomatch hk
  · exact nofun

end

end Sys2Proof.Machine
end

section
namespace Sys2Proof.Machine

/-! # Lines that are freed, and coils that end with them -/

section
variable {w v u : Works} {isolated : LineIx → Bool} {i : LineIx}

theorem Works.lotsHold.trans (h : w.lotsHold v) (k : v.lotsHold u)
    (lots : ∀ j n, (u.line j).lot = some n → (v.line j).lot = some n) : w.lotsHold u := by
  obtain ⟨g, hg, hkeep⟩ := h
  obtain ⟨g', hg', hkeep'⟩ := k
  refine ⟨fun t => g' (g t), by rw [hg', hg, mapTable_mapTable], fun t => ?_⟩
  obtain ⟨a, b, c⟩ := hkeep t
  obtain ⟨a', b', c'⟩ := hkeep' (g t)
  refine ⟨a'.trans a, b'.trans b, fun hs => ?_⟩
  rcases c' hs with e | e
  · exact (c e).imp_right fun e' j hj => e' j (lots j _ hj)
  · exact .inr fun j hj => e j (a ▸ hj)

/-- R7: a line that leaves its lot may close it. -/
theorem Works.freeLine_lotsHold (w : Works) (i : LineIx) : w.lotsHold (w.freeLine i) := by
  rw [Works.freeLine_eq]
  refine ⟨_, rfl, fun t => ?_⟩
  split
  · next h =>
    refine ⟨rfl, rfl, fun _ => .inr fun j hj => ?_⟩
    change ((w.modifyLine i Line.toIdle).line j).lot = _ at hj
    by_cases hji : j = i
    · rw [hji, Works.line_modifyLine_self] at hj; exact nomatch hj
    · rw [Works.line_modifyLine_other _ _ _ _ hji] at hj
      exact hji (h.2.2 j hj)
  · exact ⟨rfl, rfl, .inl⟩

theorem Works.leaveUnassigned_lotsHold (w : Works) (i : LineIx) (stop : Nat) :
    w.lotsHold (w.leaveUnassigned i stop) := by
  cases hn : (w.line i).lot with
  | none => rw [Works.leaveUnassigned_none hn]; exact .of_lots rfl
  | some n =>
    obtain ⟨bits, h⟩ := Works.leaveUnassigned_eq hn stop
    rw [h]
    exact .of_modifyLot n _ rfl fun _ => ⟨rfl, rfl, rfl⟩

theorem Works.leaveUnassigned_lines (w : Works) (i : LineIx) (stop : Nat) :
    (w.leaveUnassigned i stop).lines = w.lines := by
  cases hn : (w.line i).lot with
  | none => rw [Works.leaveUnassigned_none hn]
  | some n =>
    obtain ⟨bits, h⟩ := Works.leaveUnassigned_eq hn stop
    rw [h]

theorem Works.line_freeLine (w : Works) (i j : LineIx) :
    (w.freeLine i).line j = if j = i then (w.line i).toIdle else w.line j := by
  rw [Works.freeLine_eq]
  exact Works.line_modifyLine w i j Line.toIdle

theorem Works.endsCoil.lotsHold {c : Coil} {stop : Nat} {kind : EndKind} {packer : Option PackerIx}
    (h : u.endsCoil w i c stop kind packer) : u.lotsHold w :=
  .of_modifyLot c.key.lot _ h.lots fun _ => ⟨rfl, rfl, rfl⟩

theorem Works.boundary_lotsHold (u : Works) (i : LineIx) (c : Coil) (stop : Nat) {kind : EndKind}
    (hk : kind.opensNext = false) : u.lotsHold (u.boundary i c stop kind) := by
  have hends := u.endsCoil_coilEnded i c stop kind
  rw [Works.boundary_eq, hk, if_neg Bool.false_ne_true]
  have hlines := (u.coilEnded i c stop kind).leaveUnassigned_lines i stop
  have hlot : ∀ j n, ((u.coilEnded i c stop kind).line j).lot = some n → (u.line j).lot = some n :=
    fun j n h => by
      by_cases hj : j = i
      · rw [hj, hends.line] at h; exact hj ▸ h
      · rwa [hends.others j hj] at h
  have h1 := hends.lotsHold.trans ((u.coilEnded i c stop kind).leaveUnassigned_lotsHold i stop)
    fun j n h => by rwa [Works.line_congr hlines] at h
  refine h1.trans (Works.freeLine_lotsHold _ i) fun j n h => ?_
  rw [Works.line_freeLine] at h
  split at h
  · exact nomatch h
  · exact h

/-! ## Tables that differ at one key -/

/-- The coils stand but for one key's. -/
def Works.coilsBut (w v : Works) (k : CoilKey) : Prop := ∀ k', k' ≠ k → v.coil? k' = w.coil? k'

theorem Works.coilsBut.kept {c : Coil} (h : w.coilsBut v c.key) (hk : w.keyed)
    (hc : w.currentCoil? i = some c) :
    ∀ d ∈ inUse w.coils, (w.line i).coil ≠ some d.key → d ∈ inUse v.coils := fun d hd hne => by
  have hne' : d.key ≠ c.key := fun e => hne ((Works.currentCoil?_key hc).1.trans (congrArg some e.symm))
  exact (Works.coil?_some _ _ _ ((h d.key hne').trans (hk.coil?_eq hd))).1

theorem Works.coilsBut.back {c b : Coil} (h : w.coilsBut v c.key) (hv : v.keyed)
    (hc : w.currentCoil? i = some c) (hb : v.coil? c.key = some b) (tied : v.coilTied b) :
    ∀ d ∈ inUse v.coils, (d ∈ inUse w.coils ∧ (w.line i).coil ≠ some d.key) ∨ v.coilTied d :=
  fun d hd => by
    by_cases hdk : d.key = c.key
    · obtain rfl := Option.some.inj ((hv.coil?_eq hd).symm.trans (hdk ▸ hb))
      exact .inr tied
    · refine .inl ⟨(Works.coil?_some _ _ _ ((h d.key hdk).symm.trans (hv.coil?_eq hd))).1, fun e => ?_⟩
      exact hdk (Option.some.inj (e.symm.trans (Works.currentCoil?_key hc).1))

/-! ## The end of a coil as its line is freed (R129, R132) -/

theorem Works.tied.boundary_frees (hw : w.tied isolated) (hk : w.keyed) {c : Coil}
    (hc : w.currentCoil? i = some c) {stop : Nat} (hstart : c.start ≤ stop) {kind : EndKind}
    (hkind : kind.opensNext = false) : (w.boundary i c stop kind).tied isolated := by
  have hfree := w.freesLine_boundary i c stop hkind
  have hlots := w.boundary_lotsHold i c stop hkind
  have hv := (w.boundary_evolves i c stop kind).keyed hk
  obtain ⟨v, hvdef⟩ : ∃ v, w.boundary i c stop kind = v := ⟨_, rfl⟩
  rw [hvdef] at hfree hlots hv ⊢
  obtain ⟨hcur, hcq⟩ := Works.currentCoil?_key hc
  obtain ⟨b, hb, hothers, hends⟩ := hfree.coil hcq
  have hopened := (hw.currentCoil? hc).1
  have hbut : w.coilsBut v c.key := hothers
  refine hw.moves hk hv i hlots hfree.others (.of_idle hfree.line) (hbut.kept hk hc)
    (hbut.back hv hc hb ((hw.coils c (Works.coil?_some _ _ _ hcq).1).ends hopened hends hstart hlots))
    (hw.waiting.of hfree.waitList fun j => ?_)
    (hw.queueTied_with hv hc hfree.queues (hbut.kept hk hc) hb fun h =>
      ⟨(hends.queued h).1, (hends.queued h).2.1⟩)
  by_cases hj : j = i
  · subst hj
    rw [hfree.line]
    refine ⟨nofun, fun h => ?_⟩
    have hs := (hw.lines j).starve.1 (by rw [h]; nofun)
    exact absurd (((hw.lines j).coil.2 (.inr hs)).symm.trans hcur) nofun
  · rw [hfree.others j hj]

/-! ## A line that is freed with its coil removed, or without one -/

theorem Works.tied.freesWithout (hw : w.tied isolated) (hk : w.keyed) {k : CoilKey}
    (hc : (w.line i).coil = some k) : ((w.removeCoil k).freeLine i).tied isolated := by
  obtain ⟨v, hvdef⟩ : ∃ v, (w.removeCoil k).freeLine i = v := ⟨_, rfl⟩
  have hv : v.keyed := hvdef ▸ (Works.freeLine_evolves _ i).keyed (hk.removeCoil k)
  have hlots : w.lotsHold v := by
    have h := (w.removeCoil k).freeLine_lotsHold i
    rwa [hvdef] at h
  have hline : ∀ j, v.line j = if j = i then (w.line i).toIdle else w.line j := fun j => by
    rw [← hvdef]; exact (w.removeCoil k).line_freeLine i j
  have hcoils : v.coils = (w.removeCoil k).coils := by rw [← hvdef, Works.freeLine_eq]
  have hqueues : v.queues = w.queues := by rw [← hvdef, Works.freeLine_eq]; rfl
  have hwait : v.waitList = w.waitList := by rw [← hvdef, Works.freeLine_eq]; rfl
  have hmem : ∀ d, d ∈ inUse v.coils ↔ d ∈ inUse w.coils ∧ d.key ≠ k := fun d => by
    rw [hcoils]
    exact (mem_inUse_filter _ _ _).trans (and_congr_right fun _ => decide_eq_true_iff)
  have hkept : ∀ c ∈ inUse w.coils, (w.line i).coil ≠ some c.key → c ∈ inUse v.coils :=
    fun c hm hne => (hmem c).2 ⟨hm, fun e => hne (hc.trans (congrArg some e.symm))⟩
  rw [hvdef]
  refine hw.moves hk hv i hlots (fun j hj => by rw [hline, if_neg hj])
    (.of_idle ((hline i).trans (if_pos rfl))) hkept (fun d hd => ?_) (hw.waiting.of hwait fun j => ?_)
    (hw.queueTied_same hv i hqueues hkept)
  · obtain ⟨hm, hne⟩ := (hmem d).1 hd
    exact .inl ⟨hm, fun e => hne (Option.some.inj (e.symm.trans hc))⟩
  · rw [hline]
    split
    · next e =>
      subst e
      refine ⟨nofun, fun h => ?_⟩
      have hs := (hw.lines j).starve.1 (by rw [h]; nofun)
      exact absurd (((hw.lines j).coil.2 (.inr hs)).symm.trans hc) nofun
    · rfl

/-- R131, R132: a STARVED line leaves the wait list. -/
theorem Works.tied.releaseStarved (hw : w.tied isolated) (hk : w.keyed)
    (hs : (w.line i).state = .starved) : (w.releaseStarved i).tied isolated := by
  obtain ⟨v, hvdef⟩ : ∃ v, w.releaseStarved i = v := ⟨_, rfl⟩
  have hv : v.keyed := hvdef ▸ (Works.freeLine_evolves _ i).keyed (hk.of_eq rfl rfl)
  have hlots : w.lotsHold v := by
    have h := (w.leaveWait i).freeLine_lotsHold i
    have e : (w.leaveWait i).freeLine i = v := hvdef
    rwa [e] at h
  have hline : ∀ j, v.line j = if j = i then (w.line i).toIdle else w.line j := fun j => by
    rw [← hvdef]; exact (w.leaveWait i).line_freeLine i j
  have hframe : v.coils = w.coils ∧ v.queues = w.queues ∧
      v.waitList = w.waitList.filter fun j => decide (j ≠ i) := by
    rw [← hvdef, Works.releaseStarved, Works.freeLine_eq]
    exact ⟨rfl, rfl, rfl⟩
  obtain ⟨hcoils, hqueues, hwait⟩ := hframe
  have hnone : (w.line i).coil = none := (hw.lines i).coil.2 (.inr hs)
  have hkept : ∀ c ∈ inUse w.coils, (w.line i).coil ≠ some c.key → c ∈ inUse v.coils :=
    fun c hm _ => hcoils ▸ hm
  rw [hvdef]
  refine hw.moves hk hv i hlots (fun j hj => by rw [hline, if_neg hj])
    (.of_idle ((hline i).trans (if_pos rfl))) hkept
    (fun d hd => .inl ⟨hcoils ▸ hd, by rw [hnone]; nofun⟩) ⟨?_, fun j => ?_⟩
    (hw.queueTied_same hv i hqueues hkept)
  · rw [hwait]; exact hw.waiting.1.filter _
  · rw [hwait, List.mem_filter, decide_eq_true_iff, hw.waiting.2, hline]
    split
    · next e => exact ⟨fun h => absurd e h.2, nofun⟩
    · next e => exact ⟨fun h => h.1, fun h => ⟨h, e⟩⟩

end

end Sys2Proof.Machine
end

section
namespace Sys2Proof.Machine

/-! # A line that takes a coil (R14, R15, R20, R26, R127) -/

/-- Between `y` and `x` the line `i`, with the record `l`, took a new coil of key `K` that starts at
`pos`. -/
structure Works.takesCoil (y x : Works) (i : LineIx) (l : Line) (pos : Nat) (K : CoilKey) : Prop where
  lot : l.lot = some K.lot
  line : x.line i = { l with coil := some K }
  others : ∀ j, j ≠ i → x.line j = y.line j
  mem : ∀ d, d ∈ inUse x.coils ↔ d = Coil.opening K i l pos ∨ d ∈ inUse y.coils
  lots : x.lots = (y.modifyLot K.lot fun t => { t with nextSequence := t.nextSequence + 1 }).lots
  queues : x.queues = y.queues
  keyed : x.keyed
  fresh : ∀ d ∈ inUse y.coils, d.key ≠ K
  entry : ∃ e : CoilIx, y.coils[e] = none ∧ x.coils = y.coils.set e (some (Coil.opening K i l pos))
  issued : ∃ t ∈ inUse y.lots, t.number = K.lot ∧ t.nextSequence = K.sequence

/-- R15, R20, R26: a line record fit to take a coil. -/
structure Works.lineReady (isolated : LineIx → Bool) (y : Works) (i : LineIx) (l : Line) : Prop where
  state : l.state = .primed ∨ l.state = .running
  starve : l.starve = none
  used : l.kind ≠ .unused
  suspended : l.suspended = isolated i
  amendment : l.amendPending = true → l.state = .running
  runs : ∀ n, l.lot = some n → ∃ t, y.lot? n = some t ∧ t.state ≠ .closed ∧
    l.revision ≤ t.revision ∧ (l.amendPending = false → l.revision = t.revision)
  primed : l.state = .primed → l.position = 0

section
variable {w v y x : Works} {isolated : LineIx → Bool} {i : LineIx} {l : Line} {pos : Nat} {K : CoilKey}

theorem Works.takesCoil.lotsHold (h : y.takesCoil x i l pos K) : y.lotsHold x :=
  .of_modifyLot K.lot _ h.lots fun _ => ⟨rfl, rfl, rfl⟩

theorem Works.takesCoil.newCoil (h : y.takesCoil x i l pos K) :
    x.coil? K = some (Coil.opening K i l pos) :=
  h.keyed.coil?_eq ((h.mem (Coil.opening K i l pos)).2 (.inl rfl))

theorem Works.takesCoil.lineTied (h : y.takesCoil x i l pos K) (hl : y.lineReady isolated i l)
    (hpos : pos ≤ l.position) : x.lineTied isolated i := by
  have hnot : l.state ≠ .idle ∧ l.state ≠ .starved := by
    rcases hl.state with e | e <;> rw [e] <;> exact ⟨nofun, nofun⟩
  have hx := h.line
  refine ⟨?_, ?_, ?_, ?_, ?_, ?_, fun n hn => ?_, fun k hk => ?_, ?_⟩ <;> simp only [hx] at *
  · exact ⟨fun e => absurd (h.lot.symm.trans e) nofun, fun e => absurd e hnot.1⟩
  · exact ⟨nofun, fun e => e.elim (fun e => absurd e hnot.1) fun e => absurd e hnot.2⟩
  · exact ⟨fun e => absurd hl.starve e, fun e => absurd e hnot.2⟩
  · exact fun e => absurd e hl.used
  · rw [hl.suspended]; exact ⟨fun e => ⟨hnot.1, e⟩, fun e => e.2⟩
  · exact fun e => .inl (hl.amendment e)
  · obtain ⟨t, ht, hs, hle, heq⟩ := hl.runs n hn
    obtain ⟨r, hr, hrr, hrs⟩ := h.lotsHold.run ht hs (j := i)
      ((congrArg Line.lot h.line).trans hn)
    exact ⟨r, hr, hrs, hrr ▸ hle, fun e => (heq e).trans hrr.symm⟩
  · obtain rfl := Option.some.inj hk
    exact ⟨h.lot, _, h.newCoil, rfl, rfl, hpos, rfl⟩
  · exact hl.primed

theorem Works.takesCoil.coilTied (h : y.takesCoil x i l pos K) (hl : y.lineReady isolated i l) :
    x.coilTied (Coil.opening K i l pos) := by
  refine ⟨fun _ => ⟨?_, rfl, rfl⟩, fun e => absurd rfl e, ⟨nofun, nofun⟩, fun t ht => ?_⟩
  · show (x.line i).coil = _
    rw [h.line]; rfl
  · obtain ⟨r, hr, hrr⟩ := h.lotsHold.back ht
    obtain ⟨s, hs, -, hle, -⟩ := hl.runs K.lot h.lot
    obtain rfl := Option.some.inj (hr.symm.trans hs)
    exact hrr ▸ hle

/-- A coil that opens for a line whose record is then set to `f`, which leaves what the coil
copies. -/
theorem Works.keyed.takesCoil_openCoil (hy : y.keyed) (ho : y.openCoil i pos = .ok x)
    (f : Line → Line) (hf : ∀ l, (f l).lot = l.lot ∧ (f l).revision = l.revision ∧
      (f l).spec = l.spec ∧ (f l).coil = l.coil)
    (hcoil : ∀ l k, f { l with coil := k } = { f l with coil := k }) :
    ∃ K, y.takesCoil (x.modifyLine i f) i (f (y.line i)) pos K := by
  obtain ⟨lot, e, hlot, -, he, rfl⟩ := Works.openCoil_ok y x i pos ho
  obtain ⟨n, hn, hln⟩ := Option.bind_eq_some_iff.1 hlot
  obtain ⟨hmem, rfl⟩ := Works.lot?_some y n lot hln
  obtain ⟨hfl, hfr, hfs, -⟩ := hf (y.line i)
  have hfree := (lowestFree_spec _ _ he).1
  have hopening : Coil.opening ⟨lot.number, lot.nextSequence⟩ i (f (y.line i)) pos =
      Coil.opening ⟨lot.number, lot.nextSequence⟩ i (y.line i) pos := by
    unfold Coil.opening
    rw [hfr, hfs]
  have hkeyed := hy.openCoil i pos ho
  refine ⟨⟨lot.number, lot.nextSequence⟩, hfl.trans hn, ?_, fun j hj => ?_, fun d => ?_, rfl, rfl,
    hkeyed.of_eq rfl rfl, fun d hd => ?_, ⟨e, hfree, by rw [hopening]; rfl⟩,
    lot, hmem, rfl, rfl⟩
  · rw [Works.line_modifyLine_self, Works.line_modifyLine_self]
    exact hcoil (y.line i) _
  · rw [Works.line_modifyLine_other _ _ _ _ hj, Works.line_modifyLine_other _ _ _ _ hj]
    rfl
  · rw [hopening]
    exact mem_inUse_set _ _ _ _ hfree
  · obtain ⟨j, hj⟩ := (mem_inUse _ _).1 hd
    exact hy.next_fresh hmem j d hj

theorem Works.takesCoil.kept (h : y.takesCoil x i l pos K) : ∀ d ∈ inUse y.coils, d ∈ inUse x.coils :=
  fun d hd => (h.mem d).2 (.inr hd)

/-- A line without a coil, linked but for its own record, takes one. -/
theorem Works.tied.takesCoil (hw : w.tied isolated) (hk : w.keyed) (h : w.takesCoil x i l pos K)
    (hnone : (w.line i).coil = none) (hl : w.lineReady isolated i l) (hpos : pos ≤ l.position)
    (waiting : x.waitTied) : x.tied isolated :=
  hw.moves hk h.keyed i h.lotsHold h.others (h.lineTied hl hpos) (fun d hd _ => h.kept d hd)
    (fun d hd => ((h.mem d).1 hd).elim (fun e => .inr (e ▸ h.coilTied hl))
      fun hd => .inl ⟨hd, by rw [hnone]; nofun⟩)
    waiting (hw.queueTied_same h.keyed i h.queues fun d hd _ => h.kept d hd)

end

/-! ## Free entries (R2, R25) -/

section
variable {w v : Works}

/-- R25: no entry is free. -/
theorem Works.freeCoils_zero_iff (w : Works) : w.freeCoils = 0 ↔ ∀ e : CoilIx, w.coils[e] ≠ none := by
  unfold Works.freeCoils
  rw [List.length_eq_zero_iff, List.filter_eq_nil_iff]
  constructor
  · intro h e he
    have hmem : w.coils[e] ∈ w.coils.toList := by simp
    exact h _ hmem (by rw [he]; rfl)
  · intro h c hc
    obtain ⟨e, he, rfl⟩ := List.mem_iff_getElem.1 hc
    have := h ⟨e, by simpa using he⟩
    cases hx : w.coils.toList[e] with
    | some b => exact nofun
    | none => exact absurd (by simpa using hx) this

theorem Works.taken_iff (w : Works) :
    w.taken ↔ (w.waitList ≠ [] → ∀ e : CoilIx, w.coils[e] ≠ none) := by
  unfold Works.taken
  rw [Works.freeCoils_zero_iff]

/-- One entry is free at most. -/
def Works.oneFree (w : Works) : Prop :=
  ∀ e e' : CoilIx, w.coils[e] = none → w.coils[e'] = none → e = e'

theorem Works.takesCoil.full {i : LineIx} {l : Line} {pos : Nat} {K : CoilKey}
    (h : w.takesCoil v i l pos K) (hw : w.oneFree) (e : CoilIx) : v.coils[e] ≠ none := by
  obtain ⟨e0, he0, hset⟩ := h.entry
  rw [hset, set_getFin]
  split
  · exact nofun
  · next hne => exact fun he => hne (hw e e0 he he0)

/-- R23, R24: the entry of one coil is freed. -/
theorem Works.removeCoil_oneFree (hk : w.keyed) (hfull : ∀ e : CoilIx, w.coils[e] ≠ none)
    (k : CoilKey) : (w.removeCoil k).oneFree := by
  have hentry : ∀ e : CoilIx, (w.removeCoil k).coils[e] = none →
      ∃ c, w.coils[e] = some c ∧ c.key = k := fun e he => by
    obtain ⟨c, hc⟩ := Option.ne_none_iff_exists'.1 (hfull e)
    refine ⟨c, hc, by_contra fun hne => ?_⟩
    rw [Works.removeCoil, mapTable_getFin, hc] at he
    simp [Option.filter, hne] at he
  intro e e' he he'
  obtain ⟨c, hc, hck⟩ := hentry e he
  obtain ⟨c', hc', hck'⟩ := hentry e' he'
  exact hk.oneCoil e e' c c' hc hc' (hck.trans hck'.symm)

end

end Sys2Proof.Machine
end

section
namespace Sys2Proof.Machine

/-! # Assignment and hand-out (R14, R15, R26) -/

section
variable {w v x : Works} {isolated : LineIx → Bool} {live : Prop} {i : LineIx}

theorem Works.modifyLine_same (w : Works) (i : LineIx) : (w.modifyLine i fun l => l) = w := by
  unfold Works.modifyLine
  rw [show w.lines.set i w.lines[i] = w.lines from Vector.set_getElem_self ..]

/-- A coil that opens for a line. -/
theorem Works.keyed.takesCoil_of_openCoil (hw : w.keyed) {pos : Nat} (ho : w.openCoil i pos = .ok x) :
    ∃ K, w.takesCoil x i (w.line i) pos K := by
  obtain ⟨K, hK⟩ := hw.takesCoil_openCoil ho (fun l => l) (fun _ => ⟨rfl, rfl, rfl, rfl⟩) fun _ _ => rfl
  exact ⟨K, by rwa [Works.modifyLine_same] at hK⟩

theorem Works.takesCoil.of_modifyLine {f : Line → Line} {l : Line} {pos : Nat} {K : CoilKey}
    (h : (w.modifyLine i f).takesCoil x i l pos K) : w.takesCoil x i l pos K :=
  ⟨h.lot, h.line, fun j hj => (h.others j hj).trans (Works.line_modifyLine_other w i j f hj), h.mem,
    h.lots, h.queues, h.keyed, h.fresh, h.entry, h.issued⟩

theorem Works.takesCoil.taken {l : Line} {pos : Nat} {K : CoilKey} (h : w.takesCoil x i l pos K)
    (hw : w.taken) (hwait : x.waitList = w.waitList) : x.taken := by
  rw [Works.taken_iff] at hw ⊢
  intro hne
  obtain ⟨e, he, -⟩ := h.entry
  exact absurd he (hw (hwait ▸ hne) e)

/-- R15: the line record of an assignment is fit to take a coil. -/
theorem Works.lineReady_assigned {l : Line} {n : Nat} {t : Lot} (used : l.kind ≠ .unused)
    (h : w.lot? n = some t) (opened : t.state = .opened) :
    w.lineReady isolated i (l.assigned t (isolated i)) := by
  have hn := (Works.lot?_some w n t h).2
  refine ⟨.inl rfl, rfl, ?_, rfl, nofun, fun m hm => ?_, fun _ => rfl⟩
  · show l.resetMonitor.kind ≠ _
    rw [Line.resetMonitor_eq]
    exact used
  · obtain rfl : t.number = m := Option.some.inj hm
    exact ⟨t, hn ▸ h, by rw [opened]; nofun, le_rfl, fun _ => rfl⟩

theorem Works.tied.assigns (hw : w.tied isolated) (hk : w.keyed) {n : Nat} {t : Lot}
    (used : (w.line i).kind ≠ .unused) (h : w.lot? n = some t) (idle : (w.line i).state = .idle)
    (opened : t.state = .opened)
    (opens : (w.modifyLine i fun l => l.assigned t (isolated i)).openCoil i 0 = .ok v) :
    v.tied isolated ∧ (w.taken → v.taken) ∧
      ∃ K, w.takesCoil v i ((w.line i).assigned t (isolated i)) 0 K := by
  have hky : (w.modifyLine i fun l => l.assigned t (isolated i)).keyed := hk.of_eq rfl rfl
  obtain ⟨K, hK⟩ := hky.takesCoil_of_openCoil opens
  have hwait : v.waitList = w.waitList := (Works.openCoil_frame _ v i 0 opens).1
  have htakes := hK.of_modifyLine
  rw [Works.line_modifyLine_self] at htakes
  have hnone : (w.line i).coil = none := (hw.lines i).coil.2 (.inl idle)
  refine ⟨hw.takesCoil hk htakes hnone (Works.lineReady_assigned used h opened) (Nat.zero_le _)
    (hw.waiting.of hwait fun j => ?_), fun ht => htakes.taken ht hwait, K, htakes⟩
  by_cases hj : j = i
  · subst hj
    rw [htakes.line]
    refine ⟨nofun, fun e => ?_⟩
    exact absurd (idle.symm.trans ((hw.lines j).starve.1 (by rw [e]; nofun))) nofun
  · rw [htakes.others j hj]

/-! ## Hand-out -/

/-- R26: a served line runs again. -/
def Line.resumed (l : Line) : Line := { l with state := .running, starve := none }

/-- R26: the records once the head of the wait list has taken its coil. -/
def Works.resumedWith (x : Works) (i : LineIx) (rest : List LineIx) : Works :=
  { x with waitList := rest }.modifyLine i Line.resumed

theorem Works.resumeServed_resumedWith (x : Works) (i : LineIx) (rest : List LineIx) :
    { x with waitList := rest }.resumeServed i =
      ((x.resumedWith i rest).reopenZones i ((x.resumedWith i rest).line i).position).plannedCutTest
        i := rfl

/-- What a waiting line is. -/
theorem Works.tied.waits (hw : w.tied isolated) {rest : List LineIx} (h : w.waitList = i :: rest) :
    (w.line i).starve = some .noEntry ∧ (w.line i).state = .starved ∧ (w.line i).coil = none ∧
      i ∉ rest ∧ rest.Nodup := by
  have hs := (hw.waiting.2 i).1 (by rw [h]; exact List.mem_cons_self ..)
  have hstate := (hw.lines i).starve.1 (by rw [hs]; nofun)
  have hnd := List.nodup_cons.1 (h ▸ hw.waiting.1)
  exact ⟨hs, hstate, (hw.lines i).coil.2 (.inr hstate), hnd.1, hnd.2⟩

theorem Works.tied.lineReady_resumed (hw : w.tied isolated) (hs : (w.line i).state = .starved) :
    w.lineReady isolated i (w.line i).resumed := by
  have hl := hw.lines i
  refine ⟨.inr rfl, rfl, fun e => ?_, ?_, fun _ => rfl, hl.runs, nofun⟩
  · exact absurd (hs.symm.trans (hl.unused e)) nofun
  · show (w.line i).suspended = _
    rw [Bool.eq_iff_iff, hl.suspended, hs]
    exact ⟨fun e => e.2, fun e => ⟨nofun, e⟩⟩

/-- R26: the head of the wait list is served. -/
theorem Works.tied.served (hw : w.tied isolated) (hk : w.keyed) {rest : List LineIx}
    (hwait : w.waitList = i :: rest) (ho : w.openCoil i (w.line i).position = .ok x) :
    (∃ K, w.takesCoil (x.resumedWith i rest) i (w.line i).resumed (w.line i).position K) ∧
      (x.resumedWith i rest).tied isolated := by
  obtain ⟨hstarve, hs, hnone, hout, hnd⟩ := hw.waits hwait
  obtain ⟨K, hK⟩ := hk.takesCoil_openCoil ho Line.resumed (fun _ => ⟨rfl, rfl, rfl, rfl⟩)
    fun _ _ => rfl
  have htakes : w.takesCoil (x.resumedWith i rest) i (w.line i).resumed (w.line i).position K :=
    ⟨hK.lot, hK.line, hK.others, hK.mem, hK.lots, hK.queues, hK.keyed.of_eq rfl rfl,
      hK.fresh, hK.entry, hK.issued⟩
  refine ⟨⟨K, htakes⟩, hw.takesCoil hk htakes hnone (hw.lineReady_resumed hs) le_rfl
    ⟨hnd, fun j => ?_⟩⟩
  by_cases hj : j = i
  · subst hj
    rw [htakes.line]
    exact ⟨fun e => absurd e hout, nofun⟩
  · rw [htakes.others j hj, ← hw.waiting.2, hwait, List.mem_cons]
    exact ⟨.inr, fun e => e.resolve_left hj⟩

theorem Works.tied.served_rests (hw : w.tied isolated) (hk : w.keyed) {rest : List LineIx}
    (hwait : w.waitList = i :: rest) (ho : w.openCoil i (w.line i).position = .ok x) :
    (x.resumedWith i rest).rests ({ x with waitList := rest }.resumeServed i) := by
  obtain ⟨⟨K, hK⟩, hz⟩ := hw.served hk hwait ho
  rw [Works.resumeServed_resumedWith]
  have hopen := ((x.resumedWith i rest).reopenZones_tends i
    ((x.resumedWith i rest).line i).position).rests hz hK.keyed
  exact hopen.trans (Works.plannedCutTest_rests _ i (hopen.tied hz) (hopen.keyed hK.keyed))

/-- R26: a waiting line whose lot is exhausted is passed over. -/
def Works.passes (w : Works) (i : LineIx) (rest : List LineIx) : Works :=
  { w with waitList := rest }.modifyLine i fun l => { l with starve := some .seqExhausted }

theorem Works.line_passes (w : Works) (i j : LineIx) (rest : List LineIx) :
    (w.passes i rest).line j =
      if j = i then { w.line j with starve := some .seqExhausted } else w.line j := by
  unfold Works.passes
  rw [Works.line_modifyLine]
  split
  · next e => rw [e]; rfl
  · rfl

theorem Works.tied.passes (hw : w.tied isolated) (hk : w.keyed) {rest : List LineIx}
    (hwait : w.waitList = i :: rest) : (w.passes i rest).tied isolated := by
  obtain ⟨-, hs, hnone, hout, hnd⟩ := hw.waits hwait
  have hline := w.line_passes i
  refine hw.moves hk (hk.of_eq rfl rfl) i (.of_lots rfl)
    (fun j hj => by rw [hline, if_neg hj]) ?_ (fun _ hc _ => hc)
    (fun d hd => .inl ⟨hd, by rw [hnone]; nofun⟩) ⟨hnd, fun j => ?_⟩
    (hw.queueTied_same (hk.of_eq rfl rfl) i rfl fun _ hc _ => hc)
  · have hl := hw.lines i
    have hi : (w.passes i rest).line i = { w.line i with starve := some .seqExhausted } :=
      (hline i rest).trans (if_pos rfl)
    refine ⟨?_, ?_, ?_, ?_, ?_, ?_, ?_, ?_, ?_⟩ <;> rw [hi]
    · exact hl.lot
    · exact hl.coil
    · exact ⟨fun _ => hs, fun _ => nofun⟩
    · exact hl.unused
    · exact hl.suspended
    · exact hl.amendment
    · exact hl.runs
    · exact hl.current
    · exact hl.primed
  · rw [hline]
    split
    · next e => exact ⟨fun h => absurd (e ▸ h) hout, nofun⟩
    · next e =>
      rw [← hw.waiting.2, hwait, List.mem_cons]
      exact ⟨.inr, fun h => h.resolve_left e⟩

/-- R26: a hand-out keeps the links. -/
theorem Works.tied.handOut (hw : w.tied isolated) (hk : w.keyed) :
    w.handOut.tied isolated :=
  (Works.serve_preserves (fun u => u.tied isolated ∧ u.keyed)
    (fun u j rest hu hwait => ⟨hu.1.passes hu.2 hwait, hu.2.of_eq rfl rfl⟩)
    (fun u z j rest hu hwait ho => by
      have hr := hu.1.served_rests hu.2 hwait ho
      obtain ⟨⟨K, hK⟩, hz⟩ := hu.1.served hu.2 hwait ho
      exact ⟨hr.tied hz, hr.keyed hK.keyed⟩) w ⟨hw, hk⟩).1

/-- R25, R26: after a hand-out no line waits while an entry is free. -/
theorem Works.tied.handOut_taken (hw : w.tied isolated) (hk : w.keyed)
    (hone : w.waitList ≠ [] → w.oneFree) : w.handOut.taken := by
  have go : ∀ (l : List LineIx) (w : Works), w.waitList = l → w.tied isolated → w.keyed →
      (w.waitList ≠ [] → w.oneFree) → (Works.serve l w).taken := by
    intro l
    induction l with
    | nil => exact fun w hl _ _ _ hne => absurd hl hne
    | cons i rest ih =>
      intro w hl hw hk hone
      unfold Works.serve
      split
      · next x ho =>
        obtain ⟨⟨K, hK⟩, -⟩ := hw.served hk hl ho
        exact (hw.served_rests hk hl ho).taken
          fun _ => (Works.freeCoils_zero_iff _).2 (hK.full (hone (by rw [hl]; nofun)))
      · next ho =>
        intro _
        refine (Works.freeCoils_zero_iff _).2 fun e he => ?_
        have hsome := lowestFree_none _ (Works.openCoil_noEntry w i _ ho) e
        rw [he] at hsome
        exact nomatch hsome
      · exact ih _ rfl (hw.passes hk hl) (hk.of_eq rfl rfl) fun _ => hone (by rw [hl]; nofun)
  exact go w.waitList w rfl hw hk hone

end

end Sys2Proof.Machine
end

section
namespace Sys2Proof.Machine

/-! # The boundary of a RUNNING line (R122 to R128) -/

section
variable {w v : Works} {i : LineIx}

theorem Works.coilsBut.mem {c b : Coil} (h : w.coilsBut v c.key) (hv : v.keyed)
    (hc : w.currentCoil? i = some c) (hb : v.coil? c.key = some b) :
    ∀ d ∈ inUse v.coils, (d ∈ inUse w.coils ∧ (w.line i).coil ≠ some d.key) ∨ d = b :=
  fun d hd => by
    by_cases hdk : d.key = c.key
    · exact .inr (Option.some.inj ((hv.coil?_eq hd).symm.trans (hdk ▸ hb)))
    · refine .inl ⟨(Works.coil?_some _ _ _ ((h d.key hdk).symm.trans (hv.coil?_eq hd))).1, fun e => ?_⟩
      exact hdk (Option.some.inj (e.symm.trans (Works.currentCoil?_key hc).1))

end

section
variable {u y x z : Works} {isolated : LineIx → Bool} {i : LineIx} {c : Coil} {lot : Lot} {pos : Nat}

theorem Works.cutTo.lotsHold (h : u.cutTo y i c lot pos) : u.lotsHold y :=
  .of_modifyLot c.key.lot _ h.lots fun _ => ⟨rfl, rfl, rfl⟩

/-- A RUNNING line waits for no entry. -/
theorem Works.tied.no_starve (hw : u.tied isolated) (hs : (u.line i).state ≠ .starved) :
    (u.line i).starve = none :=
  by_contra fun h => hs ((hw.lines i).starve.1 h)

/-- R126: after the boundary a RUNNING line is fit to take the next coil. -/
theorem Works.tied.lineReady_cutTo (hw : u.tied isolated) (hs : (u.line i).state = .running)
    (hlot : (u.line i).lot = some c.key.lot) (hl : u.lot? c.key.lot = some lot)
    (h : u.cutTo y i c lot pos) : y.lineReady isolated i (y.line i) := by
  have hi := hw.lines i
  have hline := h.line
  have hstate : (y.line i).state = .running := by rw [hline]; exact hs
  refine ⟨.inr hstate, ?_, fun e => ?_, ?_, fun _ => hstate, fun n hn => ?_, fun e => ?_⟩
  · rw [hline]; exact hw.no_starve (by rw [hs]; nofun)
  · rw [hline] at e
    exact absurd (hs.symm.trans (hi.unused e)) nofun
  · rw [hline]
    show (u.line i).suspended = _
    rw [Bool.eq_iff_iff, hi.suspended, hs]
    exact ⟨fun e => e.2, fun e => ⟨nofun, e⟩⟩
  · have hyl : (y.line i).lot = (u.line i).lot := by rw [hline]; rfl
    obtain ⟨t, ht, hts, hle, heq⟩ := hi.runs n (hyl ▸ hn)
    obtain rfl : c.key.lot = n := Option.some.inj (hlot.symm.trans (hyl ▸ hn))
    obtain rfl := Option.some.inj (hl.symm.trans ht)
    obtain ⟨r, hr, hrr, hrs⟩ := h.lotsHold.run ht hts hn
    have hrev : (y.line i).revision = lot.revision := by
      rw [hline]
      show (if (u.line i).amendPending then lot.revision else (u.line i).revision) = _
      cases ha : (u.line i).amendPending with
      | true => rfl
      | false => exact heq ha
    exact ⟨r, hr, hrs, (hrev.trans hrr.symm).le, fun _ => hrev.trans hrr.symm⟩
  · rw [hstate] at e; exact nomatch e

/-- R126, R127: the boundary's next coil opens. -/
theorem Works.tied.cutTo_opens (hw : u.tied isolated) (hk : u.keyed) (hc : u.currentCoil? i = some c)
    (hs : (u.line i).state = .running) (hl : u.lot? c.key.lot = some lot)
    (h : u.cutTo y i c lot pos) (hstart : c.start ≤ pos) (hpos : pos ≤ (u.line i).position)
    {K : CoilKey} (hx : y.takesCoil x i (y.line i) pos K) (hwait : x.waitList = y.waitList) :
    x.tied isolated := by
  obtain ⟨hopened, -, -, -, hlot, -⟩ := hw.currentCoil? hc
  have hready := hw.lineReady_cutTo hs hlot hl h
  obtain ⟨b, hb, hothers, hends⟩ := h.coil
  have hbut : u.coilsBut y c.key := hothers
  have hyk := h.keyed hk
  have hlots : u.lotsHold x := h.lotsHold.trans hx.lotsHold fun j n hj => by
    by_cases hji : j = i
    · subst hji
      rw [hx.line] at hj
      exact hj
    · rwa [hx.others j hji] at hj
  have hkept : ∀ d ∈ inUse u.coils, (u.line i).coil ≠ some d.key → d ∈ inUse x.coils :=
    fun d hd hne => hx.kept d (hbut.kept hk hc d hd hne)
  have hbx : x.coil? c.key = some b := by
    obtain ⟨hbm, hbk⟩ := Works.coil?_some _ _ _ hb
    rw [← hbk]
    exact hx.keyed.coil?_eq (hx.kept b hbm)
  have hposy : pos ≤ (y.line i).position := by rw [h.line]; exact hpos
  refine hw.moves hk hx.keyed i hlots (fun j hj => (hx.others j hj).trans (h.others j hj))
    (hx.lineTied hready hposy) hkept (fun d hd => ?_)
    (hw.waiting.of (hwait.trans h.waitList) fun j => ?_)
    (hw.queueTied_with hx.keyed hc (hx.queues.trans h.queues) hkept hbx fun e =>
      ⟨(hends.queued e).1, (hends.queued e).2.1⟩)
  · rcases (hx.mem d).1 hd with rfl | hdy
    · exact .inr (hx.coilTied hready)
    · rcases hbut.mem hyk hc hb d hdy with hold | rfl
      · exact .inl hold
      · exact .inr ((hw.coils c (Works.coil?_some _ _ _ (Works.currentCoil?_key hc).2).1).ends hopened
          hends hstart hlots)
  · by_cases hj : j = i
    · subst hj
      rw [hx.line, hw.no_starve (by rw [hs]; nofun)]
      show (y.line j).starve = _ ↔ _
      rw [hready.starve]
    · rw [hx.others j hj, h.others j hj]

/-- R128: the line starves. -/
theorem Works.tied.cutTo_starves (hw : u.tied isolated) (hk : u.keyed)
    (hc : u.currentCoil? i = some c) (hs : (u.line i).state = .running)
    (hl : u.lot? c.key.lot = some lot) (h : u.cutTo y i c lot pos) (hstart : c.start ≤ pos)
    {why : StarveReason} (hz : y.starvesAs z i pos c.key.lot why) : z.tied isolated := by
  obtain ⟨hopened, -, -, -, hlot, -⟩ := hw.currentCoil? hc
  have hready := hw.lineReady_cutTo hs hlot hl h
  obtain ⟨b, hb, hothers, hends⟩ := h.coil
  have hbut : u.coilsBut z c.key := fun k hk' =>
    (Works.coil?_congr hz.coils k).trans (hothers k hk')
  have hbz : z.coil? c.key = some b := (Works.coil?_congr hz.coils _).trans hb
  have hyz : y.lotsHold z := .of_modifyLot c.key.lot _ hz.lots fun _ => ⟨rfl, rfl, rfl⟩
  have hzlot : (z.line i).lot = (y.line i).lot := by rw [hz.line]
  have hlots : u.lotsHold z := h.lotsHold.trans hyz fun j n hj => by
    by_cases hji : j = i
    · subst hji; exact hzlot ▸ hj
    · rwa [hz.others j hji] at hj
  have hzk : z.keyed := (h.keyed hk).map _ (fun c => c) hz.lots
    (hz.coils.trans (mapTable_map_id _).symm) (fun t _ => by split <;> exact ⟨rfl, le_rfl⟩)
    fun _ _ => rfl
  have hkept := hbut.kept hk hc
  have hnone := hw.no_starve (i := i) (by rw [hs]; nofun)
  have hout : i ∉ u.waitList := fun e => absurd (hnone.symm.trans ((hw.waiting.2 i).1 e)) nofun
  have hzi := hz.line
  refine hw.moves hk hzk i hlots (fun j hj => (hz.others j hj).trans (h.others j hj)) ?_ hkept
    (hbut.back hzk hc hbz ((hw.coils c (Works.coil?_some _ _ _ (Works.currentCoil?_key hc).2).1).ends
      hopened hends hstart hlots))
    ?_ (hw.queueTied_with hzk hc (hz.queues.trans h.queues) hkept hbz fun e =>
      ⟨(hends.queued e).1, (hends.queued e).2.1⟩)
  · have hyi := h.line
    refine ⟨?_, ?_, ?_, ?_, ?_, ?_, fun n hn => ?_, fun k hk' => ?_, ?_⟩
    · rw [hzi, hyi]
      refine ⟨fun e => ?_, nofun⟩
      exact absurd (hlot.symm.trans e) nofun
    · rw [hzi, hyi]; exact ⟨fun _ => .inr rfl, fun _ => rfl⟩
    · rw [hzi]; exact ⟨fun _ => rfl, fun _ => nofun⟩
    · rw [hzi]; exact fun e => absurd e hready.used
    · rw [hzi]
      show (y.line i).suspended = _ ↔ _
      rw [hready.suspended]
      exact ⟨fun e => ⟨nofun, e⟩, fun e => e.2⟩
    · rw [hzi, hyi]; exact nofun
    · obtain ⟨t, ht, hts, hle, heq⟩ := hready.runs n (hzlot ▸ hn)
      obtain ⟨r, hr, hrr, hrs⟩ := hyz.run ht hts hn
      rw [hzi]
      exact ⟨r, hr, hrs, hrr ▸ hle, fun e => (heq e).trans hrr.symm⟩
    · rw [hzi, hyi] at hk'; exact nomatch hk'
    · rw [hzi]; exact nofun
  · have hstarve : ∀ j, j ≠ i → (z.line j).starve = (u.line j).starve := fun j hj => by
      rw [hz.others j hj, h.others j hj]
    unfold Works.waitTied
    rw [hz.waitList, h.waitList]
    by_cases hwhy : why = .noEntry
    · rw [if_pos hwhy]
      refine ⟨List.Nodup.append hw.waiting.1 (List.nodup_singleton i) fun j hj hj' => ?_, fun j => ?_⟩
      · rw [List.mem_singleton.1 hj'] at hj
        exact hout hj
      · rw [List.mem_append, List.mem_singleton, hw.waiting.2]
        by_cases hj : j = i
        · subst hj
          rw [hzi]
          exact ⟨fun _ => congrArg some hwhy, fun _ => .inr rfl⟩
        · rw [hstarve j hj]
          exact ⟨fun e => e.resolve_right hj, .inl⟩
    · rw [if_neg hwhy]
      refine ⟨hw.waiting.1, fun j => ?_⟩
      by_cases hj : j = i
      · subst hj
        rw [hzi]
        exact ⟨fun e => absurd e hout, fun e => absurd (Option.some.inj e) hwhy⟩
      · rw [hw.waiting.2, hstarve j hj]

/-- R123 to R128: how a boundary of a RUNNING line goes on from the coil's end. -/
theorem Works.tied.openNext_cases (hw : u.tied isolated) (hk : u.keyed)
    (hc : u.currentCoil? i = some c) (hs : (u.line i).state = .running)
    (hl : u.lot? c.key.lot = some lot) (h : u.cutTo y i c lot pos) (hstart : c.start ≤ pos)
    (hpos : pos ≤ (u.line i).position) (carry : List (Cause × Int)) :
    (∃ x K, y.takesCoil x i (y.line i) pos K ∧ x.waitList = y.waitList ∧ x.tied isolated ∧
      x.rests (y.openNext i pos carry)) ∨
    ∃ why, y.starvesAs (y.openNext i pos carry) i pos c.key.lot why ∧
      (why = .noEntry → lowestFree y.coils = none) := by
  have hlot : (y.line i).lot = some c.key.lot := by
    rw [h.line]; exact (hw.currentCoil? hc).2.2.2.2.1
  unfold Works.openNext
  split
  · next x ho =>
    obtain ⟨K, hK⟩ := (h.keyed hk).takesCoil_of_openCoil ho
    have hwait := (Works.openCoil_frame y x i pos ho).1
    have hx := hw.cutTo_opens hk hc hs hl h hstart hpos hK hwait
    have hplan := x.plannedCutTest_rests i hx hK.keyed
    refine .inl ⟨x, K, hK, hwait, hx, ?_⟩
    dsimp only
    split
    · next k hk' =>
      exact hplan.trans ((Works.openCarried_tends carry _ hk').rests (hplan.tied hx)
        (hplan.keyed hK.keyed))
    · exact hplan
  · next why ho =>
    refine .inr ⟨why, Works.starvesAs_starve hlot pos why, fun e => ?_⟩
    subst e
    exact Works.openCoil_noEntry y i pos ho

theorem lowestFree_eq_none {α : Type} {n : Nat} {t : Vector (Option α) n} :
    lowestFree t = none ↔ ∀ e : Fin n, t[e] ≠ none := by
  constructor
  · intro h e he
    have hsome := lowestFree_none t h e
    rw [he] at hsome
    exact nomatch hsome
  · intro h
    cases hl : lowestFree t with
    | none => rfl
    | some e => exact absurd (lowestFree_spec t e hl).1 (h e)

/-- R122 to R128: a boundary of a RUNNING line keeps the links. -/
theorem Works.tied.boundary_runs (hw : u.tied isolated) (hk : u.keyed) (ht : u.taken)
    (hc : u.currentCoil? i = some c) (hs : (u.line i).state = .running) (hstart : c.start ≤ pos)
    (hpos : pos ≤ (u.line i).position) :
    ((u.withdraw i).boundary i c pos (u.line i).cutKind).tied isolated ∧
      ((u.withdraw i).boundary i c pos (u.line i).cutKind).taken := by
  obtain ⟨-, -, -, -, hlot, -⟩ := hw.currentCoil? hc
  obtain ⟨lot, hl, -⟩ := (hw.lines i).runs _ hlot
  obtain ⟨y, hy, hbound⟩ := Works.boundary_cutTo pos hc hlot hl
  rw [hbound]
  have hfull : u.waitList ≠ [] → lowestFree y.coils = none := fun hne => by
    rw [hy.free]
    exact lowestFree_eq_none.2 ((u.taken_iff).1 ht hne)
  rcases hw.openNext_cases hk hc hs hl hy hstart hpos (carrySet (u.line i) c) with
    ⟨x, K, hx, hwait, htied, hrest⟩ | ⟨why, hz, hno⟩
  · refine ⟨hrest.tied htied, hrest.taken ?_⟩
    rw [Works.taken_iff]
    intro hne
    obtain ⟨e, he, -⟩ := hx.entry
    rw [hwait, hy.waitList] at hne
    exact absurd he (lowestFree_eq_none.1 (hfull hne) e)
  · refine ⟨hw.cutTo_starves hk hc hs hl hy hstart hz, ?_⟩
    rw [Works.taken_iff]
    intro hne
    rw [hz.coils]
    refine lowestFree_eq_none.1 ?_
    rw [hz.waitList, hy.waitList] at hne
    by_cases hwhy : why = .noEntry
    · exact hno hwhy
    · exact hfull (by rwa [if_neg hwhy] at hne)

end

end Sys2Proof.Machine
end

section
namespace Sys2Proof.Machine

/-! # Frames of a line keep the links -/

section
variable {w : Works} {isolated : LineIx → Bool}

theorem Works.resync_line_state (w : Works) (i : LineIx) (counts : Counts) :
    ((w.resync i counts).line i).state = (w.line i).state := by
  rw [(w.resynced_resync i counts).line, Line.resynced_eq]

theorem Works.countTally_minds (w : Works) (permille : Nat) (i : LineIx) (f : CountFrame)
    (hs : (w.line i).state ≠ .primed) (hp : (w.line i).position ≤ Config.positionLimit)
    (hw : w.tied isolated) (hk : w.keyed) : w.minds (w.countTally permille i f) := by
  unfold Works.countTally
  split
  · exact (w.resync_rests i f.counts hw hk).tominds
  · exact (w.creditTally_minds permille i f hs hp hw hk).1

theorem Works.tally_minds (w : Works) (permille : Nat) (i : LineIx) (f : CountFrame)
    (hp : (w.line i).position ≤ Config.positionLimit) (hw : w.tied isolated) (hk : w.keyed) :
    w.minds (w.tally permille i f) := by
  unfold Works.tally
  split
  · exact .refl w
  · next hs => exact (w.takeBaselines_rests i f.counts hs hw hk).tominds
  all_goals
    next hs => exact w.countTally_minds permille i f (by rw [hs]; nofun) hp hw hk

theorem Works.resolve_minds (w : Works) (permille : Nat) (i : LineIx) (f : CountFrame)
    (hp : (w.line i).position ≤ Config.positionLimit) (hw : w.tied isolated) (hk : w.keyed) :
    w.minds (w.resolve permille i f).1 := by
  rcases Works.resolve_cases w permille i f with e | ⟨hs, e⟩ | ⟨-, hs, e | e⟩ <;> rw [e]
  · exact .refl w
  · exact (w.takeBaselines_rests i f.counts hs hw hk).tominds
  · exact (w.resync_rests i f.counts hw hk).tominds
  · exact w.countTally_minds permille i f hs hp hw hk

/-- R46: a line that hands on an event is no longer PRIMED. -/
theorem Works.resolve_not_primed (w : Works) (permille : Nat) (i : LineIx) (f : CountFrame) :
    ((w.resolve permille i f).1.line i).state ≠ .primed := by
  unfold Works.resolve
  dsimp only
  split
  · next hs => rw [hs]; nofun
  · rw [Works.takeBaselines_state]; nofun
  all_goals
    next hs =>
    split
    · rw [Works.resync_line_state, hs]; nofun
    · split
      · rw [Works.countTally_state, hs]; nofun
      · rw [hs]; nofun

theorem Works.resolve_idle (w : Works) (permille : Nat) {i : LineIx} (f : CountFrame)
    (hs : (w.line i).state = .idle) : ((w.resolve permille i f).1.line i).state = .idle := by
  unfold Works.resolve
  simp only [hs]

/-- R47, R49: a resolved position lies between the start of the current coil and the run position. -/
theorem Works.resolve_bounds (w : Works) (permille : Nat) (i : LineIx) (f : CountFrame)
    (hw : w.tied isolated) (hk : w.keyed) (hp : (w.line i).position ≤ Config.positionLimit)
    (hr : (w.line i).remainder < 1000) (hs : (w.line i).state ≠ .idle) :
    ∀ c, (w.resolve permille i f).1.currentCoil? i = some c → c.start ≤ (w.resolve permille i f).2 ∧
      (w.resolve permille i f).2 ≤ ((w.resolve permille i f).1.line i).position := by
  intro c hc
  have hminds := w.resolve_minds permille i f hp hw hk
  have hstart := ((hminds.tied hw).currentCoil? hc).2.2.2.1
  have hclamp : ∀ (v : Works) (pos : Int), v.currentCoil? i = some c →
      c.start ≤ (v.line i).position → pos ≤ ((v.line i).position : Int) →
      c.start ≤ v.clampPosition i pos ∧ v.clampPosition i pos ≤ (v.line i).position := by
    intro v pos hv hle hpos
    have e : v.clampPosition i pos = max pos.toNat c.start := by
      unfold Works.clampPosition
      rw [hv]
      rfl
    rw [e]
    omega
  revert hc hstart
  unfold Works.resolve
  dsimp only
  split
  · next h => exact absurd h hs
  · next h =>
    intro hc hstart
    have hzero : ((w.takeBaselines i f.counts).line i).position = 0 :=
      ((w.takeBaselines_rests i f.counts h hw hk).position i).trans ((hw.lines i).primed h)
    exact ⟨hzero ▸ hstart, Nat.zero_le _⟩
  all_goals
    split
    · exact fun hc hstart => hclamp _ _ hc hstart le_rfl
    · next hno =>
      split
      · exact fun hc hstart => hclamp _ _ hc hstart le_rfl
      · next hd =>
        refine fun hc hstart => hclamp _ _ hc hstart ?_
        unfold Line.backdated
        have hmul : ((w.line i).measure.of (f.counts.minus (w.line i).baselines)).toInt *
            ((w.line i).measureUnit : Int) ≤ 0 :=
          mul_nonpos_of_nonpos_of_nonneg (not_lt.1 hd) (Int.natCast_nonneg _)
        push_cast
        omega

theorem Works.leaveUnassigned_coils (w : Works) (i : LineIx) (stop : Nat) :
    (w.leaveUnassigned i stop).coils = w.coils := by
  cases hn : (w.line i).lot with
  | none => rw [Works.leaveUnassigned_none hn]
  | some n =>
    obtain ⟨bits, h⟩ := Works.leaveUnassigned_eq hn stop
    rw [h]

/-- R129: a boundary that frees the line frees no entry. -/
theorem Works.taken.boundary {u : Works} (ht : u.taken) {kind : EndKind}
    (hk : kind.opensNext = false) (i : LineIx) (c : Coil) (stop : Nat) :
    (u.boundary i c stop kind).taken := by
  have hwait := (u.freesLine_boundary i c stop hk).waitList
  obtain ⟨f, hf, -⟩ := (u.endsCoil_coilEnded i c stop kind).coils
  have hcoils : (u.boundary i c stop kind).coils = (u.modifyCoil c.key f).coils := by
    rw [Works.boundary_eq, hk, if_neg Bool.false_ne_true, Works.freeLine_eq]
    exact (Works.leaveUnassigned_coils _ i stop).trans hf
  unfold Works.taken
  rw [hwait, Works.freeCoils_mapTable (w := u) hcoils]
  exact ht

/-- R122: a CUT_DONE keeps the links. -/
theorem Works.tied.cutCompleted {u : Works} {i : LineIx} {pos : Nat} (hu : u.tied isolated)
    (hk : u.keyed) (ht : u.taken) (hs : (u.line i).state ≠ .primed)
    (hpos : ∀ c, u.currentCoil? i = some c → (u.line i).state ≠ .idle →
      c.start ≤ pos ∧ pos ≤ (u.line i).position) :
    (u.cutCompleted i pos).1.tied isolated ∧ (u.cutCompleted i pos).1.taken := by
  rcases Works.cutCompleted_cases u i pos with e | ⟨c, hc, hstate, e⟩
  · rw [e]; exact ⟨hu, ht⟩
  · obtain ⟨hstart, hle⟩ := hpos c hc (by rcases hstate with h | h | h <;> rw [h] <;> nofun)
    have hstate := hstate.resolve_left hs
    by_cases hp : pos = c.start
    · have hraise : u.rests (u.raiseLine i Bit.cutIgnored) := .of_plain rfl rfl rfl rfl rfl
      rcases e with ⟨-, e⟩ | ⟨h, -⟩ | ⟨h, -⟩ | ⟨h, -⟩ | ⟨h, -⟩
      · rw [e]; exact ⟨hraise.tied hu, hraise.taken ht⟩
      all_goals exact absurd hp h
    · rcases hstate with hrun | hrel
      · rw [Works.cutCompleted_boundary hrun hc hp]
        exact hu.boundary_runs hk ht hc hrun hstart hle
      · rw [Works.cutCompleted_releasing hrel hc hp]
        exact ⟨hu.boundary_frees hk hc hstart (kind := .release) rfl,
          ht.boundary (kind := .release) rfl i c pos⟩

end

end Sys2Proof.Machine
end

section
namespace Sys2Proof.Machine

/-! # Packing steps and host commands keep the links -/

section
variable {w v : Works} {isolated : LineIx → Bool}

/-- The lines stand, and so do the OPEN coils. -/
theorem Works.tied.of_ended (hw : w.tied isolated) (lots : w.lotsHold v)
    (lines : v.lines = w.lines) (waitList : v.waitList = w.waitList)
    (kept : ∀ c ∈ inUse w.coils, c.state = .opened → v.coil? c.key = some c)
    (coils : ∀ d ∈ inUse v.coils, d ∈ inUse w.coils ∨ v.coilTied d)
    (queues : ∀ p, v.queueTied p) : v.tied isolated where
  lines j := (hw.lines j).of lots (by rw [Works.line_congr lines]; exact .refl _)
    fun k c _ hc hs => by
      obtain ⟨hm, rfl⟩ := Works.coil?_some w k c hc
      exact ⟨c, kept c hm hs, rfl⟩
  coils d hd := (coils d hd).elim (fun h => (hw.coils d h).of lots (.refl d) fun _ => by
    rw [Works.line_congr lines]) id
  waiting := hw.waiting.of waitList fun j => by rw [Works.line_congr lines]
  queues := queues

/-- The coils stand, and so do the lines. -/
theorem Works.tied.of_lots (hw : w.tied isolated) (hk : w.keyed) (lots : w.lotsHold v)
    (lines : v.lines = w.lines) (coils : v.coils = w.coils) (waitList : v.waitList = w.waitList)
    (queues : v.queues = w.queues) : v.tied isolated :=
  hw.of_ended lots lines waitList
    (fun c hc _ => (Works.coil?_congr coils c.key).trans (hk.coil?_eq hc))
    (fun d hd => .inl (coils ▸ hd))
    fun p => (hw.queues p).of (by rw [queues]) fun k c _ hc =>
      ⟨c, (Works.coil?_congr coils k).trans hc, rfl, rfl⟩

theorem Works.taken.of_same (h : w.taken) (coils : v.coils = w.coils)
    (waitList : v.waitList = w.waitList) : v.taken := by
  unfold Works.taken Works.freeCoils
  rw [coils, waitList]
  exact h

theorem Works.taken.of_map (h : w.taken) {f : Coil → Coil}
    (coils : v.coils = mapTable (Option.map f) w.coils) (waitList : v.waitList = w.waitList) :
    v.taken := by
  unfold Works.taken
  rw [waitList, Works.freeCoils_mapTable coils]
  exact h

/-! ## Packing steps (R138, R143, R144) -/

/-- R143: the head of a queue is TAKEN. -/
theorem Works.tied.takes (hw : w.tied isolated) (hk : w.keyed) {p : PackerIx} {c : Coil}
    (hc : w.coil? c.key = some c) (head : w.queues[p].head? = some c.key) (full : c.state = .full) :
    (w.modifyCoil c.key fun b => { b with state := .taken }).tied isolated := by
  have hmem := (Works.coil?_some _ _ _ hc).1
  obtain ⟨v, hv⟩ : ∃ v, (w.modifyCoil c.key fun b => { b with state := .taken }) = v := ⟨_, rfl⟩
  have hself : v.coil? c.key = some { c with state := .taken } := by
    rw [← hv]; exact Works.coil?_modifyCoil_self w c.key _ c (fun _ => rfl) hc
  have hother : ∀ k, k ≠ c.key → v.coil? k = w.coil? k := fun k hne => by
    rw [← hv]; exact Works.coil?_modifyCoil_other w c.key k _ (fun _ => rfl) hne
  have hqueues : v.queues = w.queues := by rw [← hv]; rfl
  have hlots : w.lotsHold v := .of_lots (by rw [← hv]; rfl)
  rw [hv]
  refine hw.of_ended hlots (by rw [← hv]; rfl) (by rw [← hv]; rfl) (fun d hd hs => ?_)
    (fun d hd => ?_) fun q => ⟨by rw [hqueues]; exact (hw.queues q).1, fun k hm => ?_⟩
  · refine (hother d.key fun e => ?_).trans (hk.coil?_eq hd)
    rw [hk.sameCoil hd hmem e, full] at hs
    exact nomatch hs
  · rw [← hv] at hd
    obtain ⟨b, hb, rfl⟩ := (mem_inUse_mapTable _ _ _).1 hd
    by_cases hbk : b.key = c.key
    · obtain rfl := hk.sameCoil hb hmem hbk
      rw [if_pos rfl]
      have hb' := hw.coils b hb
      refine .inr ⟨nofun, fun _ => hb'.ended (by rw [full]; nofun), ⟨fun e => ?_, nofun⟩, ?_⟩
      · exact absurd (full.symm.trans (hb'.final.1 e)) nofun
      · intro t ht
        obtain ⟨r, hr, hrr⟩ := hlots.back ht
        exact hrr ▸ hb'.revision r hr
    · rw [if_neg hbk]; exact .inl hb
  · rw [hqueues] at hm ⊢
    obtain ⟨d, hd, hdp, hds⟩ := (hw.queues q).2 k hm
    by_cases hkc : k = c.key
    · subst hkc
      obtain rfl := Option.some.inj (hd.symm.trans hc)
      obtain ⟨e, he, hep, -⟩ := (hw.queues p).2 _ (List.mem_of_mem_head? head)
      obtain rfl := Option.some.inj (he.symm.trans hc)
      obtain rfl := Option.some.inj (hdp.symm.trans hep)
      exact ⟨_, hself, hdp, .inr ⟨rfl, head⟩⟩
    · exact ⟨d, (hother k hkc).trans hd, hdp, hds⟩

theorem Coil.sealedWith_eq (c : Coil) (weight len : Nat) : c.sealedWith weight len = { c with
    state := .sealed, final := true, weight := (c.sealedWith weight len).weight,
    density := (c.sealedWith weight len).density, reasons := (c.sealedWith weight len).reasons,
    grade := (c.sealedWith weight len).grade } := by
  unfold Coil.sealedWith
  rw [Coil.regraded_eq, Coil.weighed_eq]

/-- A list without one element keeps its head. -/
theorem List.head?_filter_ne {α : Type} [DecidableEq α] {l : List α} {k x : α} (h : l.head? = some k)
    (hne : k ≠ x) : (l.filter fun y => decide (y ≠ x)).head? = some k := by
  cases l with
  | nil => exact nomatch h
  | cons a l =>
    obtain rfl := Option.some.inj h
    rw [List.filter_cons_of_pos (by simpa using hne)]
    rfl

/-- R144: a coil is sealed at its packer. -/
theorem Works.tied.sealedOut (hw : w.tied isolated) (hk : w.keyed) {p : PackerIx} {c : Coil}
    (hc : w.coil? c.key = some c) (state : c.state = .full ∨ c.state = .taken)
    (queued : c.packer = some p ∨ c.key ∈ w.queues[p]) (weight : Nat) :
    (w.sealedOut p c.key weight).tied isolated := by
  have hmem := (Works.coil?_some _ _ _ hc).1
  have hnot : c.state ≠ .opened := by rcases state with e | e <;> rw [e] <;> nofun
  obtain ⟨v, hv⟩ : ∃ v, w.sealedOut p c.key weight = v := ⟨_, rfl⟩
  have hother : ∀ k, k ≠ c.key → v.coil? k = w.coil? k := fun k hne => by
    rw [← hv]; exact w.sealedOut_coil?_other p c.key k weight hne
  have hqueue : ∀ q, v.queues[q] =
      if q = p then w.queues[p].filter fun k => decide (k ≠ c.key) else w.queues[q] := fun q => by
    rw [← hv]; exact set_getFin _ _ _ _
  have hpacker : c.packer = some p := queued.elim id fun hm => by
    obtain ⟨d, hd, hdp, -⟩ := (hw.queues p).2 _ hm
    obtain rfl := Option.some.inj (hd.symm.trans hc)
    exact hdp
  have hlots : w.lotsHold v := .of_lots (by rw [← hv]; rfl)
  rw [hv]
  refine hw.of_ended hlots (by rw [← hv]; rfl) (by rw [← hv]; rfl) (fun d hd hs => ?_)
    (fun d hd => ?_) fun q => ⟨?_, fun k hm => ?_⟩
  · refine (hother d.key fun e => ?_).trans (hk.coil?_eq hd)
    exact hnot (hk.sameCoil hd hmem e ▸ hs)
  · rw [← hv] at hd
    obtain ⟨b, hb, rfl⟩ := (mem_inUse_mapTable _ _ _).1 hd
    by_cases hbk : b.key = c.key
    · obtain rfl := hk.sameCoil hb hmem hbk
      rw [if_pos rfl]
      dsimp only
      rw [Coil.sealedWith_eq]
      have hb' := hw.coils b hb
      refine .inr ⟨nofun, fun _ => hb'.ended hnot, ⟨fun _ => rfl, fun _ => rfl⟩, fun t ht => ?_⟩
      obtain ⟨r, hr, hrr⟩ := hlots.back ht
      exact hrr ▸ hb'.revision r hr
    · rw [if_neg hbk]; exact .inl hb
  · rw [hqueue]
    split
    · exact (hw.queues p).1.filter _
    · exact (hw.queues q).1
  · rw [hqueue] at hm ⊢
    split at hm
    · next e =>
      subst e
      obtain ⟨hm, hne⟩ := List.mem_filter.1 hm
      have hne := of_decide_eq_true hne
      obtain ⟨d, hd, hdp, hs⟩ := (hw.queues q).2 k hm
      rw [if_pos rfl]
      exact ⟨d, (hother k hne).trans hd, hdp, hs.imp_right fun ⟨h1, h2⟩ =>
        ⟨h1, List.head?_filter_ne h2 hne⟩⟩
    · next e =>
      obtain ⟨d, hd, hdp, hs⟩ := (hw.queues q).2 k hm
      have hne : k ≠ c.key := fun h => by
        subst h
        obtain rfl := Option.some.inj (hd.symm.trans hc)
        exact e (Option.some.inj (hdp.symm.trans hpacker))
      rw [if_neg e]
      exact ⟨d, (hother k hne).trans hd, hdp, hs⟩

theorem Works.tied.seals (hw : w.tied isolated) (hk : w.keyed) (ht : w.taken) {p : PackerIx}
    {c : Coil} (hc : w.coil? c.key = some c) (state : c.state = .full ∨ c.state = .taken)
    (queued : c.packer = some p ∨ c.key ∈ w.queues[p]) (weight : Nat) :
    (w.sealAt p c.key weight).tied isolated ∧ (w.sealAt p c.key weight).taken := by
  rw [Works.sealAt_eq]
  have hfree := Works.placeFreed_rests (w.sealedOut p c.key weight) p
  exact ⟨hfree.tied (hw.sealedOut hk hc state queued weight),
    hfree.taken (ht.of_map (w := w) rfl rfl)⟩

/-! ## Retirement and release (R24, R130 to R132) -/

theorem Works.retired_lotsHold (w : Works) (c : Coil) : w.lotsHold (w.retired c) := by
  rw [Works.retired_eq]
  exact .of_modifyLot (w := w) c.key.lot _ rfl fun _ => ⟨rfl, rfl, rfl⟩

/-- R24: a SEALED coil leaves the table. -/
theorem Works.tied.retired (hw : w.tied isolated) (hk : w.keyed) {c : Coil}
    (hc : w.coil? c.key = some c) (sealed : c.state = .sealed) : (w.retired c).tied isolated := by
  have hmem := (Works.coil?_some _ _ _ hc).1
  have hlots := w.retired_lotsHold c
  have hv := hk.retired c
  obtain ⟨v, hvdef⟩ : ∃ v, w.retired c = v := ⟨_, rfl⟩
  have hcoils : ∀ d, d ∈ inUse v.coils ↔ d ∈ inUse w.coils ∧ d.key ≠ c.key := fun d => by
    rw [← hvdef, Works.retired_eq]
    exact (mem_inUse_filter _ _ _).trans (and_congr_right fun _ => decide_eq_true_iff)
  have hframe : v.lines = w.lines ∧ v.waitList = w.waitList ∧ v.queues = w.queues := by
    rw [← hvdef, Works.retired_eq]; exact ⟨rfl, rfl, rfl⟩
  rw [hvdef] at hv hlots ⊢
  have hkeep : ∀ d ∈ inUse w.coils, d.state ≠ .sealed → v.coil? d.key = some d := fun d hd hs =>
    hv.coil?_eq ((hcoils d).2 ⟨hd, fun e => hs (hk.sameCoil hd hmem e ▸ sealed)⟩)
  refine hw.of_ended hlots hframe.1 hframe.2.1 (fun d hd hs => hkeep d hd (by rw [hs]; nofun))
    (fun d hd => .inl ((hcoils d).1 hd).1) fun p => (hw.queues p).of (by rw [hframe.2.2]) ?_
  intro k d hm hd
  obtain ⟨hdm, rfl⟩ := Works.coil?_some _ _ _ hd
  obtain ⟨e, he, -, hs⟩ := (hw.queues p).2 _ hm
  obtain rfl := Option.some.inj (he.symm.trans hd)
  exact ⟨e, hkeep e hdm (by rcases hs with h | ⟨h, -⟩ <;> rw [h] <;> nofun), rfl, rfl⟩

theorem Works.tied.retires (hw : w.tied isolated) (hk : w.keyed) (ht : w.taken) {c : Coil}
    (hc : w.coil? c.key = some c) (sealed : c.state = .sealed) :
    (w.retire c).tied isolated ∧ (w.retire c).taken := by
  rw [Works.retire_eq]
  have hr := hw.retired hk hc sealed
  refine ⟨hr.handOut (hk.retired c), hr.handOut_taken (hk.retired c) fun hne => ?_⟩
  have hone := Works.removeCoil_oneFree hk ((w.taken_iff).1 ht (by
    rwa [Works.retired_eq] at hne)) c.key
  rw [Works.retired_eq]
  exact hone

/-- R23, R131: a line's coil is removed and its entry handed out. -/
theorem Works.tied.releaseEmpty (hw : w.tied isolated) (hk : w.keyed) (ht : w.taken) {i : LineIx}
    {k : CoilKey} (hc : (w.line i).coil = some k) :
    (w.releaseEmpty i k).tied isolated ∧ (w.releaseEmpty i k).taken := by
  have hfreed := hw.freesWithout hk hc
  have hfk := (Works.freeLine_evolves (w.removeCoil k) i).keyed (hk.removeCoil k)
  have hone : ((w.removeCoil k).freeLine i).waitList ≠ [] → ((w.removeCoil k).freeLine i).oneFree := by
    rw [Works.freeLine_eq]
    exact fun hne => Works.removeCoil_oneFree hk ((w.taken_iff).1 ht hne) k
  have hgo : ∀ v, ((w.removeCoil k).freeLine i).rests v → v.handOut.tied isolated ∧ v.handOut.taken :=
    fun v hv => by
      have hvt := hv.tied hfreed
      refine ⟨hvt.handOut (hv.keyed hfk), hvt.handOut_taken (hv.keyed hfk) fun hne => ?_⟩
      have hw1 := hone (hv.waitList ▸ hne)
      obtain ⟨f, hf, -⟩ := hv.coils
      intro e e' he he'
      rw [hf, mapTable_getFin, Option.map_eq_none_iff] at he he'
      exact hw1 e e' he he'
  unfold Works.releaseEmpty
  dsimp only
  split
  · exact hgo _ (Works.placeFreed_rests _ _)
  · exact hgo _ (.refl _)

/-- R130 to R132: a release keeps the links. -/
theorem Works.tied.release (hw : w.tied isolated) (hk : w.keyed) (ht : w.taken) (i : LineIx) :
    (w.release i).tied isolated ∧ (w.release i).taken := by
  have hsuspended : (w.line i).state = .running ∨ (w.line i).state = .releasing →
      (w.releaseSuspended i).tied isolated ∧ (w.releaseSuspended i).taken := fun hs => by
    have hx := w.withdraw_rests i
    have hxw := hx.tied hw
    have hxk := hx.keyed hk
    have hcoil : ((w.withdraw i).line i).coil = (w.line i).coil :=
      (Line.ties_fields (hx.lines i).ties).2.2.2.2.2.1
    unfold Works.releaseSuspended
    dsimp only
    split
    · next hnone =>
      refine absurd hnone ?_
      have hne : (w.line i).coil ≠ none := fun e => by
        rcases hs with h | h <;> rw [(hw.lines i).coil, h] at e <;> exact e.elim nofun nofun
      obtain ⟨k, hk'⟩ := Option.ne_none_iff_exists'.1 hne
      obtain ⟨-, c, hc, -⟩ := (hxw.lines i).current k (hcoil.trans hk')
      rw [Works.currentCoil?, hcoil, hk']
      intro h
      exact nomatch hc.symm.trans h
    · next c hc =>
      split
      · exact hxw.releaseEmpty hxk (hx.taken ht) (Works.currentCoil?_key hc).1
      · exact ⟨hxw.boundary_frees hxk hc (hxw.currentCoil? hc).2.2.2.1 rfl,
          (hx.taken ht).boundary rfl i c _⟩
  unfold Works.release
  dsimp only
  split
  · exact ⟨hw, ht⟩
  · next hs =>
    split
    · next k hk' => exact hw.releaseEmpty hk ht hk'
    · next hnone =>
      rw [(hw.lines i).coil, hs] at hnone
      exact hnone.elim nofun nofun
  · next hs =>
    refine ⟨hw.releaseStarved hk hs, ?_⟩
    rw [Works.releaseStarved, Works.freeLine_eq]
    intro hne
    exact ht fun e => hne (by
      show (w.leaveWait i).waitList = []
      rw [Works.leaveWait, e]
      rfl)
  · next hs =>
    split
    · exact hsuspended (.inl hs)
    · have h := w.releaseRunning_rests i hs
      exact ⟨h.tied hw, h.taken ht⟩
  · next hs =>
    split
    · exact hsuspended (.inr hs)
    · exact ⟨hw, ht⟩

end

end Sys2Proof.Machine
end

section
namespace Sys2Proof.Machine

/-! # Lots, wheels and marks keep the links -/

section
variable {w v : Works} {isolated : LineIx → Bool} {live : Prop}

/-! ## Lots that open, close and leave (R3, R6 to R8) -/

theorem Works.lot?_openLot (w : Works) {e : LotIx} {n : Nat} {sp : Spec}
    (free : lowestFree w.lots = some e) (hk : w.keyed) (fresh : w.lot? n = none) {m : Nat} :
    Works.lot? { w with lots := w.lots.set e (some (Lot.opening n sp)) } m =
      if m = n then some (Lot.opening n sp) else w.lot? m := by
  have hv := hk.openLot e n sp fresh free
  have hmem := mem_inUse_set w.lots e (Lot.opening n sp) (hfree := (lowestFree_spec _ _ free).1)
  split
  · next hm =>
    rw [hm]
    exact hv.lot?_eq (l := Lot.opening n sp) ((hmem _).2 (.inl rfl))
  · next hm =>
    cases hl : w.lot? m with
    | some t =>
      obtain ⟨ht, rfl⟩ := Works.lot?_some w m t hl
      exact hv.lot?_eq ((hmem t).2 (.inr ht))
    | none =>
      refine List.find?_eq_none.2 fun t ht e => ?_
      have e := of_decide_eq_true e
      rcases (hmem t).1 ht with rfl | ht
      · exact hm e.symm
      · exact absurd (List.find?_eq_none.1 hl t ht) (by simpa using e)

/-- R3: a lot opens. -/
theorem Works.tied.opensLot (hw : w.tied isolated) (hk : w.keyed) {e : LotIx} {n : Nat} {sp : Spec}
    (fresh : w.lot? n = none) (free : lowestFree w.lots = some e) :
    Works.tied isolated { w with lots := w.lots.set e (some (Lot.opening n sp)) } where
  lines i :=
    have h := hw.lines i
    { h with
      runs := fun m hm => by
        obtain ⟨t, ht, hrest⟩ := h.runs m hm
        refine ⟨t, ?_, hrest⟩
        rw [w.lot?_openLot free hk fresh, if_neg, ht]
        rintro rfl
        exact nomatch fresh.symm.trans ht
      current := h.current }
  coils c hc :=
    have h := hw.coils c hc
    { h with
      opened := h.opened
      revision := fun t ht => by
        obtain ⟨l, hl, hnum, -⟩ := hk.issued c hc
        have hl? := hk.lot?_eq hl
        rw [hnum] at hl?
        rw [w.lot?_openLot free hk fresh, if_neg] at ht
        · exact h.revision t ht
        · rintro hm
          rw [hm, fresh] at hl?
          exact nomatch hl? }
  waiting := hw.waiting
  queues := hw.queues

theorem Works.lot?_removeLot (w : Works) {n m : Nat} (h : m ≠ n) :
    (w.removeLot n).lot? m = w.lot? m := by
  rw [Works.lot?, Works.removeLot, inUse_filterTable, List.find?_filter]
  refine congrArg (fun p => List.find? p (inUse w.lots)) (funext fun t => ?_)
  by_cases ht : t.number = m
  · simp [ht, h]
  · simp [ht]

theorem Works.lot?_removeLot_self (w : Works) (n : Nat) : (w.removeLot n).lot? n = none := by
  rw [Works.lot?, Works.removeLot, inUse_filterTable, List.find?_eq_none]
  intro t ht
  have := (List.mem_filter.1 ht).2
  simpa using this

/-- R8: a CLOSED lot leaves. -/
theorem Works.tied.removesLot (hw : w.tied isolated) {n : Nat} {t : Lot} (ht : w.lot? n = some t)
    (closed : t.state = .closed) : (w.removeLot n).tied isolated where
  lines i :=
    have h := hw.lines i
    { h with
      runs := fun m hm => by
        obtain ⟨r, hr, hs, hrest⟩ := h.runs m hm
        refine ⟨r, ?_, hs, hrest⟩
        rw [w.lot?_removeLot, hr]
        rintro rfl
        obtain rfl := Option.some.inj (ht.symm.trans hr)
        exact hs closed
      current := h.current }
  coils c hc :=
    have h := hw.coils c hc
    { h with
      opened := h.opened
      revision := fun r hr => by
        refine h.revision r ?_
        rw [← hr, w.lot?_removeLot]
        intro hm
        rw [hm, w.lot?_removeLot_self] at hr
        exact nomatch hr }
  waiting := hw.waiting
  queues := hw.queues

/-- R6, R7: a lot closes when no line runs it. -/
theorem Works.closes_lotsHold (w : Works) (n : Nat) :
    w.lotsHold ((w.modifyLot n fun l => { l with state := .closing }).closeIfEmpty n) := by
  have h1 : w.lotsHold (w.modifyLot n fun l => { l with state := .closing }) :=
    ⟨_, rfl, fun t => by
      split
      · exact ⟨rfl, rfl, nofun⟩
      · exact ⟨rfl, rfl, .inl⟩⟩
  obtain ⟨u, hu⟩ : ∃ u, (w.modifyLot n fun l => { l with state := .closing }) = u := ⟨_, rfl⟩
  rw [hu] at h1 ⊢
  refine h1.trans ?_ fun j m hm => ?_
  · unfold Works.closeIfEmpty
    split
    · next he =>
      refine ⟨_, rfl, fun t => ?_⟩
      split
      · next hn =>
        refine ⟨rfl, rfl, fun _ => .inr fun j hj => ?_⟩
        have hmem : j ∈ u.runningSet n :=
          List.mem_filter.2 ⟨List.mem_finRange j, decide_eq_true (hn ▸ hj)⟩
        rw [List.isEmpty_iff.1 he] at hmem
        exact nomatch hmem
      · exact ⟨rfl, rfl, .inl⟩
    · exact .of_lots rfl
  · unfold Works.closeIfEmpty at hm
    split at hm <;> exact hm

theorem Works.closeIfEmpty_frame (w : Works) (n : Nat) : (w.closeIfEmpty n).lines = w.lines ∧
    (w.closeIfEmpty n).coils = w.coils ∧ (w.closeIfEmpty n).waitList = w.waitList ∧
    (w.closeIfEmpty n).queues = w.queues := by
  unfold Works.closeIfEmpty
  split <;> exact ⟨rfl, rfl, rfl, rfl⟩

theorem Works.tied.closes (hw : w.tied isolated) (hk : w.keyed) (n : Nat) :
    ((w.modifyLot n fun l => { l with state := .closing }).closeIfEmpty n).tied isolated := by
  obtain ⟨hlines, hcoils, hwait, hqueues⟩ :=
    (w.modifyLot n fun l => { l with state := .closing }).closeIfEmpty_frame n
  exact hw.of_lots hk (w.closes_lotsHold n) hlines hcoils hwait hqueues

/-! ## Amendments (R4, R5) -/

/-- R4: the lot as an amendment leaves it. -/
def Lot.amendedTo (t : Lot) (sp : Spec) : Lot := { t with spec := sp, revision := t.revision + 1 }

/-- R5: what an amendment leaves of the records, against those before it. -/
theorem Works.amend_amendedBy {n : Nat} {t : Lot} (sp : Spec) (ht : w.lot? n = some t) :
    (w.modifyLot n fun l => l.amendedTo sp).amendedBy (w.amend n sp) n (t.amendedTo sp)
      (List.finRange 16) :=
  Works.foldl_amendLine (List.finRange 16) (List.nodup_finRange 16) _
    (Works.lot?_modifyLot_self (fun _ => rfl) ht)

/-- What an amendment leaves of every coil. -/
def Coil.revisedTo (c d : Coil) : Prop := d = { c with revision := d.revision, limits := d.limits }

theorem Works.amendLine_map (w : Works) (n : Nat) (i : LineIx) : ∃ f : Coil → Coil,
    (w.amendLine n i).coils = mapTable (Option.map f) w.coils ∧ ∀ c : Coil, c.revisedTo (f c) := by
  have hsame : ∃ f : Coil → Coil, w.coils = mapTable (Option.map f) w.coils ∧ ∀ c : Coil, c.revisedTo (f c) :=
    ⟨fun c => c, (mapTable_map_id _).symm, fun _ => rfl⟩
  have hcopy : (w.copySpec i).coils = w.coils := by
    unfold Works.copySpec; split <;> rfl
  unfold Works.amendLine
  split
  · split
    · exact hsame
    · unfold Works.reviseCoil
      split
      · rw [hcopy]; exact hsame
      · refine ⟨_, congrArg (mapTable _) hcopy, fun c => ?_⟩
        split <;> rfl
    · rw [hcopy]; exact hsame
    all_goals exact hsame
  · exact hsame

theorem Works.amend_map (w : Works) (n : Nat) (sp : Spec) : ∃ f : Coil → Coil,
    (w.amend n sp).coils = mapTable (Option.map f) w.coils ∧ ∀ c : Coil, c.revisedTo (f c) := by
  have hfold : ∀ (is : List LineIx) (u : Works), ∃ f : Coil → Coil,
      (is.foldl (fun w i => w.amendLine n i) u).coils = mapTable (Option.map f) u.coils ∧
        ∀ c : Coil, c.revisedTo (f c) := by
    intro is
    induction is with
    | nil => exact fun u => ⟨fun c => c, (mapTable_map_id _).symm, fun _ => rfl⟩
    | cons i is ih =>
      intro u
      obtain ⟨f, hf, hkeep⟩ := u.amendLine_map n i
      obtain ⟨g, hg, hkeep'⟩ := ih (u.amendLine n i)
      refine ⟨fun c => g (f c), by rw [List.foldl_cons, hg, hf, mapTable_mapTable], fun c => ?_⟩
      have h1 := hkeep c
      have h2 := hkeep' (f c)
      unfold Coil.revisedTo at h1 h2 ⊢
      dsimp only
      rw [h2, h1]
  exact hfold (List.finRange 16) (w.modifyLot n fun l => l.amendedTo sp)

/-- R5: an amendment leaves these fields of a line. -/
theorem Line.amended_keeps (l : Line) (n : Nat) (t : Lot) : (l.amended n t).state = l.state ∧
    (l.amended n t).lot = l.lot ∧ (l.amended n t).coil = l.coil ∧ (l.amended n t).starve = l.starve ∧
    (l.amended n t).kind = l.kind ∧ (l.amended n t).suspended = l.suspended ∧
    (l.amended n t).position = l.position := by
  unfold Line.amended
  split
  · split <;> next hs => simp only [hs]; exact ⟨trivial, trivial, trivial, trivial, trivial, trivial, trivial⟩
  · exact ⟨rfl, rfl, rfl, rfl, rfl, rfl, rfl⟩

/-- R5, R99: whether an amendment revises a coil. -/
theorem Works.revised_iff (w : Works) (n : Nat) (k : CoilKey) :
    ((List.finRange 16).any fun i => (w.line i).revises n k) = true ↔
      ∃ i, (w.line i).lot = some n ∧ (w.line i).state = .primed ∧ (w.line i).coil = some k := by
  rw [List.any_eq_true]
  exact ⟨fun ⟨i, _, hi⟩ => ⟨i, of_decide_eq_true hi⟩,
    fun ⟨i, hi⟩ => ⟨i, List.mem_finRange i, decide_eq_true hi⟩⟩

/-- R4, R5, R99: between `w` and `v` the lot `n` was amended from `t` to `t'`. -/
structure Works.amendsTo (w v : Works) (n : Nat) (t t' : Lot) : Prop where
  old : w.lot? n = some t
  new : v.lot? n = some t'
  revision : t'.revision = t.revision + 1
  state : t'.state = t.state
  lots : ∀ m, m ≠ n → v.lot? m = w.lot? m
  line : ∀ j, v.line j = (w.line j).amended n t'
  coil : ∀ k c, w.coil? k = some c → ∃ d, v.coil? k = some d ∧
    (d = c ∧ (∀ i, (w.line i).lot = some n → (w.line i).state = .primed → (w.line i).coil ≠ some k) ∨
    d = { c with revision := t'.revision, limits := t'.spec.limits } ∧
      ∃ i, (w.line i).lot = some n ∧ (w.line i).state = .primed ∧ (w.line i).coil = some k)
  back : ∀ k d, v.coil? k = some d → ∃ c, w.coil? k = some c
  waitList : v.waitList = w.waitList
  queues : v.queues = w.queues

theorem Works.amend_amendsTo {n : Nat} {t : Lot} (sp : Spec) (ht : w.lot? n = some t) :
    w.amendsTo (w.amend n sp) n t (t.amendedTo sp) := by
  have h := Works.amend_amendedBy sp ht
  obtain ⟨hwait, -, hqueues, -, -⟩ := h.aside
  refine ⟨ht, (Works.lot?_congr h.lots n).trans (Works.lot?_modifyLot_self (fun _ => rfl) ht), rfl, rfl,
    fun m hm => ?_, fun j => (h.line j).trans (if_pos (List.mem_finRange j)), fun k c hc => ?_,
    fun k d hd => ?_, hwait, hqueues⟩
  · rw [Works.lot?_congr h.lots, Works.lot?_modifyLot w n m (fun l => l.amendedTo sp) fun _ => rfl]
    cases hl : w.lot? m with
    | none => rfl
    | some r => exact congrArg some (if_neg fun e => hm ((Works.lot?_some w m r hl).2.symm.trans e))
  · refine ⟨_, (h.coil k).trans (congrArg (Option.map _) hc), ?_⟩
    have hiff := w.revised_iff n k
    by_cases hr : ((List.finRange 16).any fun i => (w.line i).revises n k) = true
    · exact .inr ⟨if_pos hr, hiff.1 hr⟩
    · exact .inl ⟨if_neg hr, fun i hn hs hc' => hr (hiff.2 ⟨i, hn, hs, hc'⟩)⟩
  · obtain ⟨c, hc, -⟩ := Option.map_eq_some_iff.1 ((h.coil k).symm.trans hd)
    exact ⟨c, hc⟩

/-- R5: how an amendment reaches the revision of a line. -/
theorem Line.amended_revision (l : Line) (n : Nat) (t : Lot) :
    ((l.amended n t).revision = l.revision ∧ (l.amended n t).amendPending = l.amendPending ∧
      (l.lot ≠ some n ∨ l.state = .idle)) ∨
    (l.lot = some n ∧ (l.state = .primed ∨ l.state = .starved) ∧
      (l.amended n t).revision = t.revision ∧ (l.amended n t).amendPending = false) ∨
    (l.lot = some n ∧ (l.state = .running ∨ l.state = .releasing) ∧
      (l.amended n t).revision = l.revision ∧ (l.amended n t).amendPending = true) := by
  unfold Line.amended
  by_cases hn : l.lot = some n
  · rw [if_pos hn]
    cases hs : l.state with
    | idle => exact .inl ⟨rfl, rfl, .inr rfl⟩
    | primed => exact .inr (.inl ⟨hn, .inl rfl, rfl, rfl⟩)
    | starved => exact .inr (.inl ⟨hn, .inr rfl, rfl, rfl⟩)
    | running => exact .inr (.inr ⟨hn, .inl rfl, rfl, rfl⟩)
    | releasing => exact .inr (.inr ⟨hn, .inr rfl, rfl, rfl⟩)
  · rw [if_neg hn]
    exact .inl ⟨rfl, rfl, .inl hn⟩

/-- The line that a coil is current for. -/
theorem Works.tied.owner (hw : w.tied isolated) {i j : LineIx} {k : CoilKey}
    (hi : (w.line i).coil = some k) (hj : (w.line j).coil = some k) : i = j := by
  obtain ⟨-, c, hc, -, hcl, -⟩ := (hw.lines i).current k hi
  obtain ⟨-, d, hd, -, hdl, -⟩ := (hw.lines j).current k hj
  obtain rfl := Option.some.inj (hc.symm.trans hd)
  exact hcl.symm.trans hdl

/-- R5: a line of the lot agrees with its lot and its coil after the amendment. -/
theorem Works.tied.amends_line (hw : w.tied isolated) {n : Nat} {t t' : Lot} (h : w.amendsTo v n t t')
    (j : LineIx) : v.lineTied isolated j := by
  obtain ⟨hstate, hlot, hcl, hstarve, hkind, hsus, hpos⟩ := (w.line j).amended_keeps n t'
  have hrev := (w.line j).amended_revision n t'
  rw [← h.line j] at hstate hlot hcl hstarve hkind hsus hpos hrev
  have hj := hw.lines j
  refine ⟨by rw [hlot, hstate]; exact hj.lot, by rw [hcl, hstate]; exact hj.coil,
    by rw [hstarve, hstate]; exact hj.starve, by rw [hkind, hstate]; exact hj.unused,
    by rw [hsus, hstate]; exact hj.suspended, fun ha => ?_, fun m hm => ?_, fun k hk => ?_,
    by rw [hstate, hpos]; exact hj.primed⟩
  · rw [hstate]
    rcases hrev with ⟨-, he, -⟩ | ⟨-, -, -, he⟩ | ⟨-, hs, -⟩
    · exact hj.amendment (he ▸ ha)
    · exact nomatch he.symm.trans ha
    · exact hs
  · rw [hlot] at hm
    obtain ⟨r, hr, hrs, hle, heq⟩ := hj.runs m hm
    by_cases hmn : m = n
    · subst hmn
      obtain rfl := Option.some.inj (h.old.symm.trans hr)
      have hup := h.revision
      refine ⟨t', h.new, h.state ▸ hrs, ?_, fun ha => ?_⟩
      · rcases hrev with ⟨he, -⟩ | ⟨-, -, he, -⟩ | ⟨-, -, he, -⟩ <;> rw [he] <;> omega
      · rcases hrev with ⟨-, -, he⟩ | ⟨-, -, he, -⟩ | ⟨-, -, -, he⟩
        · exact he.elim (absurd hm) fun hs => nomatch hm.symm.trans (hj.lot.2 hs)
        · exact he
        · exact nomatch he.symm.trans ha
    · refine ⟨r, (h.lots m hmn).trans hr, hrs, ?_⟩
      rcases hrev with ⟨he, ha, -⟩ | ⟨hn, -⟩ | ⟨hn, -⟩
      · rw [he, ha]; exact ⟨hle, heq⟩
      · exact absurd (Option.some.inj (hm.symm.trans hn)) hmn
      · exact absurd (Option.some.inj (hm.symm.trans hn)) hmn
  · rw [hcl] at hk
    obtain ⟨hl, c, hc, hs, hcline, hstart, hcrev⟩ := hj.current k hk
    obtain ⟨d, hd, hcase⟩ := h.coil k c hc
    refine ⟨hlot.trans hl, d, hd, ?_⟩
    rcases hcase with ⟨rfl, hno⟩ | ⟨rfl, i, hin, hip, hik⟩
    · refine ⟨hs, hcline, hpos ▸ hstart, ?_⟩
      rcases hrev with ⟨he, -⟩ | ⟨hn, hp, -⟩ | ⟨-, -, he, -⟩
      · exact hcrev.trans he.symm
      · rcases hp with hp | hp
        · exact absurd hk (hno j hn hp)
        · exact nomatch hk.symm.trans (hj.coil.2 (.inr hp))
      · exact hcrev.trans he.symm
    · obtain rfl := hw.owner hik hk
      refine ⟨hs, hcline, hpos ▸ hstart, ?_⟩
      rcases hrev with ⟨-, -, he⟩ | ⟨-, -, he, -⟩ | ⟨-, he, -⟩
      · exact he.elim (absurd hin) fun e => nomatch hip.symm.trans e
      · exact he.symm
      · rw [hip] at he; exact he.elim nofun nofun

/-- R5, R99: no coil's revision passes its lot's after the amendment. -/
theorem Works.tied.amends_coil (hw : w.tied isolated) {n : Nat} {t t' : Lot} (h : w.amendsTo v n t t')
    (hv : v.keyed) {d : Coil} (hd : d ∈ inUse v.coils) : v.coilTied d := by
  obtain ⟨c, hc⟩ := h.back _ _ (hv.coil?_eq hd)
  obtain ⟨e, he, hcase⟩ := h.coil _ c hc
  obtain rfl := Option.some.inj ((hv.coil?_eq hd).symm.trans he)
  have hct := hw.coils c (Works.coil?_some w _ c hc).1
  have hline : ∀ i, (v.line i).coil = (w.line i).coil := fun i => by
    rw [h.line]; exact ((w.line i).amended_keeps n t').2.2.1
  rcases hcase with ⟨rfl, -⟩ | ⟨rfl, i, hin, -, hik⟩
  · refine ⟨fun hs => ?_, hct.ended, hct.final, fun r hr => ?_⟩
    · rw [hline]; exact hct.opened hs
    · by_cases hn : d.key.lot = n
      · rw [hn, h.new] at hr
        obtain rfl := Option.some.inj hr
        rw [h.revision]
        exact (hct.revision t (hn ▸ h.old)).trans (Nat.le_succ _)
      · exact hct.revision r ((h.lots _ hn).symm.trans hr)
  · obtain ⟨hl, -⟩ := (hw.lines i).current _ hik
    refine ⟨fun hs => ?_, hct.ended, hct.final, fun r hr => ?_⟩
    · rw [hline]; exact hct.opened hs
    · have hn : c.key.lot = n := Option.some.inj (hl.symm.trans hin)
      change v.lot? c.key.lot = some r at hr
      rw [hn, h.new] at hr
      obtain rfl := Option.some.inj hr
      exact le_rfl

/-- R4, R5: an amendment keeps the links. -/
theorem Works.tied.amends (hw : w.tied isolated) {n : Nat} {sp : Spec} {t : Lot}
    (ht : w.lot? n = some t) (hv : (w.amend n sp).keyed) : (w.amend n sp).tied isolated := by
  have h := Works.amend_amendsTo sp ht
  refine ⟨hw.amends_line h, fun d hd => hw.amends_coil h hv hd, ?_, fun p => ?_⟩
  · exact hw.waiting.of h.waitList fun j => by
      rw [h.line, ((w.line j).amended_keeps n (t.amendedTo sp)).2.2.2.1]
  · refine (hw.queues p).of (by rw [h.queues]) fun k c _ hc => ?_
    obtain ⟨d, hd, ⟨rfl, -⟩ | ⟨rfl, -⟩⟩ := h.coil k c hc <;> exact ⟨_, hd, rfl, rfl⟩

/-! ## Wheels and marks (R34, R107) -/

theorem Works.setWheels_rests (w : Works) (i : LineIx) (m : MeasureSource) (c : CheckSource)
    (hw : w.tied isolated) (hk : w.keyed) : w.rests (w.setWheels i m c) := by
  have hslip : w.rests (if (judgedPair (w.line i).kind m c).2 = (w.line i).check then w
      else w.resetSlip i) := by
    split
    · exact .refl w
    · exact (w.resetSlip_tends i).rests hw hk
  have hset := hslip.trans (.of_ties _ i (fun l =>
    { l with measure := (judgedPair (w.line i).kind m c).1,
             check := (judgedPair (w.line i).kind m c).2 }) rfl rfl rfl)
  unfold Works.setWheels
  dsimp only
  split
  · exact hset.trans (.of_plain rfl rfl rfl rfl rfl)
  · exact hset

theorem Works.rests.of_modifyCoil (w : Works) (k : CoilKey) (f : Coil → Coil)
    (h : ∀ c ∈ inUse w.coils, c.key = k → c.settles (f c)) : w.rests (w.modifyCoil k f) :=
  ⟨.of_modifyCoil w k f h, rfl, fun _ => rfl⟩

theorem mem_insertZone (z y : Zone) (zs : List Zone) : y ∈ insertZone z zs ↔ y = z ∨ y ∈ zs := by
  induction zs with
  | nil => simp [insertZone]
  | cons x zs ih =>
    unfold insertZone
    split
    · rw [List.mem_cons, ih, List.mem_cons]; tauto
    · rw [List.mem_cons]

theorem Coil.placeZone_fields (c : Coil) (z : Zone) :
    (∀ y ∈ (c.placeZone z).zones, y = z ∨ y ∈ c.zones) ∧
      (c.placeZone z).unlistedOpen = c.unlistedOpen := by
  unfold Coil.placeZone
  split
  · rw [Coil.withReason_eq]; exact ⟨fun y hy => .inr hy, rfl⟩
  · rw [Coil.withReason_eq]; exact ⟨fun y hy => (mem_insertZone z y c.zones).1 hy, rfl⟩

/-- R107: a coil that is not SEALED takes a closed zone. -/
theorem Works.placeOperator_rests (w : Works) (hk : w.keyed) {c : Coil}
    (hc : w.coil? c.key = some c) (state : c.state ≠ .sealed) (start stop : Nat) :
    w.rests (w.placeOperator c.key start stop) := by
  refine .of_modifyCoil w c.key _ fun b hb hbk => ?_
  obtain rfl := hk.sameCoil hb (Works.coil?_some _ _ _ hc).1 hbk
  obtain ⟨hz, hu⟩ := b.placeZone_fields ⟨.operator, start, some stop, 0⟩
  refine ⟨(Coil.regraded_bones _ _).trans (b.placeZone_bones _), fun e => absurd e state,
    fun _ hzones hopen => ?_⟩
  rw [Coil.regraded_eq]
  refine ⟨fun y hy => ?_, hu.trans hopen⟩
  rcases hz y hy with rfl | h
  · exact nofun
  · exact hzones y h

/-! ## Every command and frame -/

/-- The laws on the records hold after every command and frame. -/
theorem Works.Does.tied (h : w.Does isolated live v) (hk : w.keyed) (hw : w.tied isolated)
    (ht : w.taken) (hr : ∀ i, (w.line i).position ≤ Config.positionLimit ∧ (w.line i).remainder < 1000) :
    v.tied isolated ∧ v.taken := by
  have hvk := h.keyed hk
  have of_minds : ∀ {u : Works}, w.minds u → u.tied isolated ∧ u.taken := fun m => ⟨m.tied hw, m.taken ht⟩
  cases h with
  | plain lots lines coils waitList queues =>
    exact of_minds (.of_plain lots lines coils waitList queues)
  | tally permille i f => exact of_minds (w.tally_minds permille i f (hr i).1 hw hk)
  | mark permille i kind f =>
    unfold Works.mark
    have hres := w.resolve_minds permille i f (hr i).1 hw hk
    have hmark := Works.applyMark_rests (w.resolve permille i f).1 i (w.resolve permille i f).2 kind
      (hres.tied hw) ((w.resolve_evolves permille i f).keyed hk)
    split
    · exact ⟨hw, ht⟩
    all_goals exact of_minds (hres.trans hmark.tominds)
  | cutDone permille i f n =>
    have hres := w.resolve_minds permille i f (hr i).1 hw hk
    have hbounds := w.resolve_bounds permille i f hw hk (hr i).1 (hr i).2
    have hcut := (hres.tied hw).cutCompleted (i := i) (pos := (w.resolve permille i f).2)
      ((w.resolve_evolves permille i f).keyed hk) (hres.taken ht) (w.resolve_not_primed permille i f)
      fun c hc hne => hbounds (fun hs => hne (w.resolve_idle permille f hs)) c hc
    have hn : (w.cutDone permille i f).1.minds { (w.cutDone permille i f).1 with notices := n } :=
      .of_plain rfl rfl rfl rfl rfl
    exact ⟨hn.tied hcut.1, hn.taken hcut.2⟩
  | takes p c hc head full => exact ⟨hw.takes hk hc head full, ht.of_map (w := w) rfl rfl⟩
  | seals p c weight hc state queued => exact hw.seals hk ht hc state queued weight
  | retires c hc sealed => exact hw.retires hk ht hc sealed
  | opensLot e n sp _ _ fresh free =>
    exact ⟨hw.opensLot hk fresh free, ht.of_same (w := w) rfl rfl⟩
  | amends n sp t hl =>
    obtain ⟨f, hf, -⟩ := w.amend_map n sp
    exact ⟨hw.amends hl hvk, ht.of_map hf (Works.amend_amendedBy sp hl).aside.1⟩
  | closes n =>
    obtain ⟨-, hcoils, hwait, -⟩ :=
      (w.modifyLot n fun l => { l with state := .closing }).closeIfEmpty_frame n
    exact ⟨hw.closes hk n, ht.of_same hcoils hwait⟩
  | removesLot n t hl closed => exact ⟨hw.removesLot hl closed, ht.of_same (w := w) rfl rfl⟩
  | assigns i n t _ used hl idle opened opens =>
    obtain ⟨h1, h2, -⟩ := hw.assigns hk used hl idle opened opens
    exact ⟨h1, h2 ht⟩
  | releases i => exact hw.release hk ht i
  | wheels i m c => exact of_minds (w.setWheels_rests i m c hw hk).tominds
  | marks c start stop hc state =>
    exact of_minds (w.placeOperator_rests hk hc state start stop).tominds

end

end Sys2Proof.Machine
end

section
namespace Sys2Proof.Machine

/-! # Length is conserved (R11) -/

/-- `State.lengthConserved`, which speaks of the records alone. -/
structure Works.conserved (w : Works) : Prop where
  totals : ∀ t ∈ inUse w.lots, t.produced < Config.positionLimit →
    t.produced = w.lengthHeld t.number + t.retired + t.unassigned
  lines : ∀ (i : LineIx) (t : Lot), (w.line i).lot.bind w.lot? = some t →
    (w.line i).position ≤ t.produced

theorem State.lengthConserved_iff (s : State) : s.lengthConserved ↔ s.works.conserved :=
  ⟨fun ⟨h1, h2⟩ => ⟨h1, h2⟩, fun ⟨h1, h2⟩ => ⟨h1, h2⟩⟩

/-! ## The sum of the lengths of a lot's coils -/

/-- What a coil adds to the sum of a lot. -/
def Works.lengthIn (w : Works) (n : Nat) (c : Coil) : Nat :=
  if c.key.lot = n then w.coilLength c else 0

section
variable {w v : Works} {isolated : LineIx → Bool}

theorem Works.keyed.nodup (h : w.keyed) : (inUse w.coils).Nodup := by
  refine List.pairwise_filterMap.2 (List.pairwise_iff_getElem.2 fun i j hi hj hij b hb c hc hbc => ?_)
  subst hbc
  rw [Vector.length_toList] at hi hj
  have hb : w.coils[(⟨i, hi⟩ : CoilIx)] = some b := by simpa using hb
  have hc : w.coils[(⟨j, hj⟩ : CoilIx)] = some b := by simpa using hc
  have hij' := congrArg Fin.val (h.oneCoil ⟨i, hi⟩ ⟨j, hj⟩ b b hb hc rfl)
  exact absurd hij' (ne_of_lt hij)

theorem Works.keyed.lengthHeld (h : w.keyed) (n : Nat) :
    w.lengthHeld n = ∑ c ∈ (inUse w.coils).toFinset, w.lengthIn n c := by
  rw [List.sum_toFinset _ h.nodup, Works.lengthHeld]
  induction inUse w.coils with
  | nil => rfl
  | cons c cs ih =>
    rw [List.map_cons, List.sum_cons, ← ih]
    unfold Works.lengthIn
    rw [List.filter_cons]
    by_cases hn : c.key.lot = n
    · rw [if_pos (decide_eq_true hn), List.map_cons, List.sum_cons, if_pos hn]
    · rw [if_neg (by simpa using hn), if_neg hn, Nat.zero_add]

theorem Works.lengthIn_congr {n : Nat} {c : Coil} (h : v.coilLength c = w.coilLength c) :
    v.lengthIn n c = w.lengthIn n c := by
  unfold Works.lengthIn
  rw [h]

/-- The coils keep their lengths. -/
theorem Works.lengthHeld_map {f : Coil → Coil} (coils : v.coils = mapTable (Option.map f) w.coils)
    (hf : ∀ c ∈ inUse w.coils, (f c).key = c.key ∧ v.coilLength (f c) = w.coilLength c) (n : Nat) :
    v.lengthHeld n = w.lengthHeld n := by
  unfold Works.lengthHeld
  rw [coils, inUse_mapTable, List.filter_map, List.map_map]
  refine congrArg List.sum ?_
  have hfilter : (inUse w.coils).filter ((fun c : Coil => decide (c.key.lot = n)) ∘ f) =
      (inUse w.coils).filter fun c => decide (c.key.lot = n) :=
    List.filter_congr fun c hc => by rw [Function.comp_apply, (hf c hc).1]
  rw [hfilter]
  exact List.map_congr_left fun c hc => (hf c (List.mem_filter.1 hc).1).2

/-- One coil joins the table. -/
theorem Works.lengthHeld_insert (hw : w.keyed) (hv : v.keyed) {b : Coil}
    (mem : ∀ d, d ∈ inUse v.coils ↔ d = b ∨ d ∈ inUse w.coils) (fresh : b ∉ inUse w.coils)
    (same : ∀ d ∈ inUse w.coils, v.coilLength d = w.coilLength d) (n : Nat) :
    v.lengthHeld n = w.lengthHeld n + v.lengthIn n b := by
  rw [hv.lengthHeld, hw.lengthHeld]
  have hset : (inUse v.coils).toFinset = insert b (inUse w.coils).toFinset := by
    ext d
    simp only [List.mem_toFinset, Finset.mem_insert]
    exact mem d
  rw [hset, Finset.sum_insert (by simpa using fresh), Nat.add_comm]
  congr 1
  exact Finset.sum_congr rfl fun d hd => Works.lengthIn_congr (same d (List.mem_toFinset.1 hd))

/-- One coil leaves the table, or another takes its place. -/
theorem Works.lengthHeld_split (hw : w.keyed) {c : Coil} (hc : c ∈ inUse w.coils) (n : Nat) :
    w.lengthHeld n = (∑ d ∈ (inUse w.coils).toFinset.erase c, w.lengthIn n d) + w.lengthIn n c := by
  rw [hw.lengthHeld, Finset.sum_erase_add _ _ (by simpa using hc)]

/-- One coil leaves the table. -/
theorem Works.lengthHeld_erase (hw : w.keyed) (hv : v.keyed) {c : Coil} (hc : c ∈ inUse w.coils)
    (mem : ∀ d, d ∈ inUse v.coils ↔ d ∈ inUse w.coils ∧ d.key ≠ c.key)
    (same : ∀ d ∈ inUse v.coils, v.coilLength d = w.coilLength d) (n : Nat) :
    w.lengthHeld n = v.lengthHeld n + w.lengthIn n c := by
  refine Works.lengthHeld_insert hv hw (fun d => ?_) (fun h => ((mem c).1 h).2 rfl)
    (fun d hd => (same d hd).symm) n
  rw [mem]
  refine ⟨fun h => or_iff_not_imp_left.2 fun hne => ⟨h, fun e => hne (hw.sameCoil h hc e)⟩, ?_⟩
  rintro (rfl | h)
  · exact hc
  · exact h.1

/-- One coil changes. -/
theorem Works.lengthHeld_change (hw : w.keyed) (hv : v.keyed) {c b : Coil}
    (hc : w.coil? c.key = some c) (hb : v.coil? c.key = some b)
    (others : ∀ k, k ≠ c.key → v.coil? k = w.coil? k)
    (same : ∀ d ∈ inUse w.coils, d.key ≠ c.key → v.coilLength d = w.coilLength d) (n : Nat) :
    v.lengthHeld n + w.lengthIn n c = w.lengthHeld n + v.lengthIn n b := by
  obtain ⟨hbm, hbk⟩ := Works.coil?_some _ _ _ hb
  have hcm := (Works.coil?_some _ _ _ hc).1
  have hset : (inUse v.coils).toFinset.erase b = (inUse w.coils).toFinset.erase c := by
    ext d
    simp only [Finset.mem_erase, List.mem_toFinset]
    constructor
    · rintro ⟨hne, hd⟩
      have hk : d.key ≠ c.key := fun e => hne (hv.sameCoil hd hbm (e.trans hbk.symm))
      exact ⟨fun e => hk (congrArg Coil.key e),
        (Works.coil?_some _ _ _ ((others d.key hk).symm.trans (hv.coil?_eq hd))).1⟩
    · rintro ⟨hne, hd⟩
      have hk : d.key ≠ c.key := fun e => hne (hw.sameCoil hd hcm e)
      exact ⟨fun e => hk ((congrArg Coil.key e).trans hbk),
        (Works.coil?_some _ _ _ ((others d.key hk).trans (hw.coil?_eq hd))).1⟩
  rw [Works.lengthHeld_split hv hbm, Works.lengthHeld_split hw hcm, hset]
  have hsum : ∑ d ∈ (inUse w.coils).toFinset.erase c, v.lengthIn n d =
      ∑ d ∈ (inUse w.coils).toFinset.erase c, w.lengthIn n d :=
    Finset.sum_congr rfl fun d hd => by
      obtain ⟨hne, hd⟩ := Finset.mem_erase.1 hd
      have hd := List.mem_toFinset.1 hd
      exact Works.lengthIn_congr (same d hd fun e => hne (hw.sameCoil hd hcm e))
  rw [hsum]
  omega

/-- A coil with an end has the same length in all records; an OPEN one while its line's run position
stands. -/
theorem Works.tied.coilLength_same (hw : w.tied isolated) {d : Coil} (hd : d ∈ inUse w.coils)
    (h : d.state = .opened → (v.line d.line).position = (w.line d.line).position) :
    v.coilLength d = w.coilLength d := by
  unfold Works.coilLength Works.coilEnd
  by_cases hs : d.state = .opened
  · rw [h hs]
  · obtain ⟨⟨e, he, -⟩, -⟩ := (hw.coils d hd).ended hs
    rw [he]
    rfl

/-! ## Moves of length -/

/-- The lots keep their produced length; of the rest, `d n` more is retired or unassigned in lot
`n`, as far as the totals do not saturate. -/
def Works.lotsAdd (w v : Works) (d : Nat → Nat) : Prop :=
  ∃ g : Lot → Lot, v.lots = mapTable (Option.map g) w.lots ∧ ∀ t, (g t).number = t.number ∧
    (g t).produced = t.produced ∧
    (t.retired + t.unassigned + d t.number < Config.positionLimit →
      (g t).retired + (g t).unassigned = t.retired + t.unassigned + d t.number)

theorem Works.lotsAdd.trans {u : Works} {d e : Nat → Nat} (h : w.lotsAdd v d) (k : v.lotsAdd u e) :
    w.lotsAdd u fun n => d n + e n := by
  obtain ⟨g, hg, hkeep⟩ := h
  obtain ⟨g', hg', hkeep'⟩ := k
  refine ⟨fun t => g' (g t), by rw [hg', hg, mapTable_mapTable], fun t => ?_⟩
  obtain ⟨a, b, c⟩ := hkeep t
  obtain ⟨a', b', c'⟩ := hkeep' (g t)
  refine ⟨a'.trans a, b'.trans b, fun hlt => ?_⟩
  dsimp only at hlt ⊢
  have h1 := c (by omega)
  have h2 := c' (by rw [a]; omega)
  rw [a] at h2
  omega

/-- No length moved between the totals of a lot. -/
theorem Works.lotsAdd.of_map {g : Lot → Lot} (h : v.lots = mapTable (Option.map g) w.lots)
    (hg : ∀ t, (g t).number = t.number ∧ (g t).produced = t.produced ∧ (g t).retired = t.retired ∧
      (g t).unassigned = t.unassigned) : w.lotsAdd v fun _ => 0 :=
  ⟨g, h, fun t => by
    obtain ⟨a, b, c, d⟩ := hg t
    exact ⟨a, b, fun _ => by rw [c, d]; rfl⟩⟩

theorem Works.lotsAdd.of_lots (h : v.lots = w.lots) : w.lotsAdd v fun _ => 0 :=
  .of_map (g := fun t => t) (h.trans (mapTable_map_id _).symm) fun _ => ⟨rfl, rfl, rfl, rfl⟩

theorem Works.lotsAdd.of_modifyLot (n : Nat) (f : Lot → Lot) (h : v.lots = (w.modifyLot n f).lots)
    (hf : ∀ t, (f t).number = t.number ∧ (f t).produced = t.produced ∧ (f t).retired = t.retired ∧
      (f t).unassigned = t.unassigned) : w.lotsAdd v fun _ => 0 :=
  .of_map h fun t => by
    split
    · exact hf t
    · exact ⟨rfl, rfl, rfl, rfl⟩

/-- R11: what leaves the coils of a lot joins its other totals. -/
theorem Works.conserved.adds {d : Nat → Nat} (hw : w.conserved) (lots : w.lotsAdd v d)
    (held : ∀ n, v.lengthHeld n + d n = w.lengthHeld n)
    (lines : ∀ j n, (v.line j).lot = some n → (v.line j).position = 0 ∨
      ((w.line j).lot = some n ∧ (v.line j).position ≤ (w.line j).position)) : v.conserved := by
  obtain ⟨g, hg, hkeep⟩ := lots
  constructor
  · intro t ht hlt
    rw [hg, mem_inUse_mapTable] at ht
    obtain ⟨r, hr, rfl⟩ := ht
    obtain ⟨hnum, hprod, hrest⟩ := hkeep r
    have htotal := hw.totals r hr (hprod ▸ hlt)
    have hheld := held r.number
    rw [hprod] at hlt
    have hsum := hrest (by omega)
    rw [hprod, hnum]
    omega
  · intro j t ht
    obtain ⟨n, hn, hl⟩ := Option.bind_eq_some_iff.1 ht
    rcases lines j n hn with h | ⟨hwn, hle⟩
    · rw [h]; exact Nat.zero_le _
    · rw [Works.lot?_mapTable hg fun t => (hkeep t).1] at hl
      obtain ⟨r, hr, rfl⟩ := Option.map_eq_some_iff.1 hl
      rw [(hkeep r).2.1]
      exact hle.trans (hw.lines j r (by rw [hwn]; exact hr))

/-- The run positions, the lots and the coils' ends stand. -/
theorem Works.rests.conserved (h : w.rests v) (hw : w.conserved) : v.conserved := by
  obtain ⟨f, hf, hkeep⟩ := h.coils
  refine hw.adds (.of_lots h.sameLots) (fun n => Works.lengthHeld_map hf (fun c hc => ?_) n)
    fun j n hn => .inr ⟨?_, (h.position j).le⟩
  · obtain ⟨hkey, -, hline, -, -, hstart, hstop, -⟩ := Coil.bones_fields (hkeep c hc).bones
    refine ⟨hkey, ?_⟩
    unfold Works.coilLength Works.coilEnd
    rw [hstart, hstop, hline, h.position]
  · exact (Line.ties_fields (h.lines j).ties).2.2.1 ▸ hn

end

end Sys2Proof.Machine
end

section
namespace Sys2Proof.Machine

/-! # Coils that open, end and leave move length (R11, R128, R129) -/

section
variable {w v u y x z : Works} {isolated : LineIx → Bool} {i : LineIx} {l : Line} {pos : Nat}
  {K : CoilKey}

/-- A length in one lot alone. -/
def only (n m : Nat) (len : Nat) : Nat := if n = m then len else 0

theorem only_self (n len : Nat) : only n n len = len := if_pos rfl

theorem only_other {n m : Nat} (h : m ≠ n) (len : Nat) : only n m len = 0 := if_neg h.symm

theorem Works.lotsAdd.of_only {n len : Nat} {f : Lot → Lot} (h : v.lots = (w.modifyLot n f).lots)
    (hf : ∀ t, (f t).number = t.number ∧ (f t).produced = t.produced ∧
      (t.retired + t.unassigned + len < Config.positionLimit →
        (f t).retired + (f t).unassigned = t.retired + t.unassigned + len)) :
    w.lotsAdd v fun k => only n k len :=
  ⟨_, h, fun t => by
    by_cases hn : t.number = n
    · rw [if_pos hn]
      dsimp only
      rw [hn, only_self]
      exact ⟨(hf t).1.trans hn, (hf t).2⟩
    · rw [if_neg hn]
      dsimp only
      rw [only_other hn]
      exact ⟨rfl, rfl, fun _ => rfl⟩⟩

theorem Works.takesCoil.lotsAdd (h : w.takesCoil x i l pos K) : w.lotsAdd x fun _ => 0 :=
  .of_modifyLot K.lot _ h.lots fun _ => ⟨rfl, rfl, rfl, rfl⟩

/-- The new coil reaches from its start to the run position. -/
theorem Works.takesCoil.lengthHeld (h : w.takesCoil x i l pos K) (hw : w.keyed)
    (same : ∀ d ∈ inUse w.coils, x.coilLength d = w.coilLength d) (n : Nat) :
    x.lengthHeld n = w.lengthHeld n + only K.lot n (l.position - pos) := by
  have hlen : x.coilLength (Coil.opening K i l pos) = l.position - pos := by
    show (x.line i).position - pos = _
    rw [h.line]
  rw [Works.lengthHeld_insert hw h.keyed h.mem (fun hm => h.fresh _ hm rfl) same,
    Works.lengthIn, hlen]
  rfl

/-- R124: the coil that ends at `stop` leaves the rope beyond it. -/
theorem Works.tied.lengthHeld_ends (hu : u.tied isolated) (hk : u.keyed) (hv : v.keyed) {c b : Coil}
    (hc : u.currentCoil? i = some c) (hb : v.coil? c.key = some b)
    (others : ∀ k, k ≠ c.key → v.coil? k = u.coil? k) {stop : Nat} {rs : List Reason}
    {packer : Option PackerIx} (hends : c.endsAs b stop rs packer) (hstart : c.start ≤ stop)
    (hstop : stop ≤ (u.line i).position) (lines : ∀ j, (v.line j).position = (u.line j).position)
    (n : Nat) : v.lengthHeld n + only c.key.lot n ((u.line i).position - stop) = u.lengthHeld n := by
  have hcq := (Works.currentCoil?_key hc).2
  have hchange := Works.lengthHeld_change hk hv hcq hb others
    (fun d hd _ => hu.coilLength_same hd fun _ => lines d.line) n
  obtain ⟨-, hline, hnone, -⟩ := hu.currentCoil? hc
  have hlenc : u.coilLength c = (u.line i).position - c.start := by
    unfold Works.coilLength Works.coilEnd
    rw [hnone, hline]
    rfl
  have hlenb : v.coilLength b = stop - c.start := by
    unfold Works.coilLength Works.coilEnd
    rw [hends.frame]
    rfl
  have hkey : b.key = c.key := by rw [hends.frame]
  unfold Works.lengthIn at hchange
  rw [hlenc, hlenb, hkey] at hchange
  by_cases hn : c.key.lot = n
  · rw [if_pos hn, if_pos hn] at hchange
    rw [← hn, only_self, hn]
    omega
  · rw [if_neg hn, if_neg hn] at hchange
    rw [only_other (Ne.symm hn)]
    exact hchange

/-- The coils, and the run positions of their lines, stand. -/
theorem Works.lengthHeld_same (coils : v.coils = w.coils)
    (lines : ∀ j, (v.line j).position = (w.line j).position) (n : Nat) :
    v.lengthHeld n = w.lengthHeld n := by
  refine Works.lengthHeld_map (f := fun c => c) (coils.trans (mapTable_map_id _).symm) (fun c _ => ?_) n
  unfold Works.coilLength Works.coilEnd
  rw [lines]
  exact ⟨rfl, rfl⟩

/-! ## The boundary of a RUNNING line -/

theorem Works.cutTo.line_keeps {c : Coil} {lot : Lot} (h : u.cutTo y i c lot pos) (j : LineIx) :
    (y.line j).lot = (u.line j).lot ∧ (y.line j).position = (u.line j).position := by
  by_cases hj : j = i
  · subst hj
    rw [h.line]
    exact ⟨rfl, rfl⟩
  · rw [h.others j hj]
    exact ⟨rfl, rfl⟩

theorem Works.cutTo.lotsAdd {c : Coil} {lot : Lot} (h : u.cutTo y i c lot pos) :
    u.lotsAdd y fun _ => 0 := .of_modifyLot c.key.lot _ h.lots fun _ => ⟨rfl, rfl, rfl, rfl⟩

/-- R129: rope joins the unassigned length of a lot. -/
theorem Works.lotsAdd.of_unassigned {n m : Nat} (h : v.lots = (w.modifyLot n fun t => { t with
    unassigned := min 281474976710655 (t.unassigned + m) }).lots) :
    w.lotsAdd v fun k => only n k m :=
  .of_only h fun t => ⟨rfl, rfl, fun hlt => by
    have hlim : Config.positionLimit = 281474976710655 := rfl
    dsimp only
    rw [hlim] at hlt
    omega⟩

/-- R127, R128: the rope beyond the cut goes to the next coil, or is unassigned. -/
theorem Works.conserved.boundary_runs (hu : u.tied isolated) (hk : u.keyed) (hcons : u.conserved)
    {c : Coil} (hc : u.currentCoil? i = some c) (hs : (u.line i).state = .running)
    (hstart : c.start ≤ pos) (hpos : pos ≤ (u.line i).position) :
    ((u.withdraw i).boundary i c pos (u.line i).cutKind).conserved := by
  obtain ⟨-, -, -, -, hlot, -⟩ := hu.currentCoil? hc
  obtain ⟨lot, hl, -⟩ := (hu.lines i).runs _ hlot
  obtain ⟨y, hy, hbound⟩ := Works.boundary_cutTo pos hc hlot hl
  rw [hbound]
  obtain ⟨b, hb, hothers, hends⟩ := hy.coil
  have hyk := hy.keyed hk
  have hline := hy.line_keeps
  have hheld := hu.lengthHeld_ends hk hyk hc hb hothers hends hstart hpos fun j => (hline j).2
  rcases hu.openNext_cases hk hc hs hl hy hstart hpos (carrySet (u.line i) c) with
    ⟨x, K, hx, -, -, hrest⟩ | ⟨why, hz, -⟩
  · refine hrest.conserved (hcons.adds (hy.lotsAdd.trans hx.lotsAdd) (fun n => ?_) fun j n hn => .inr ?_)
    · have hxpos : ∀ j, (x.line j).position = (y.line j).position := fun j => by
        by_cases hj : j = i
        · subst hj; rw [hx.line]
        · rw [hx.others j hj]
      have hsame : ∀ d ∈ inUse y.coils, x.coilLength d = y.coilLength d := fun d _ => by
        unfold Works.coilLength Works.coilEnd
        rw [hxpos]
      have hkey : K.lot = c.key.lot :=
        Option.some.inj (hx.lot.symm.trans ((hline i).1.trans hlot))
      rw [hx.lengthHeld hyk hsame, (hline i).2, hkey]
      exact hheld n
    · by_cases hj : j = i
      · subst hj
        rw [hx.line] at hn ⊢
        exact ⟨(hline j).1 ▸ hn, (hline j).2.le⟩
      · rw [hx.others j hj] at hn ⊢
        exact ⟨(hline j).1 ▸ hn, (hline j).2.le⟩
  · have hzline : ∀ j, ((y.openNext i pos (carrySet (u.line i) c)).line j).lot = (y.line j).lot ∧
        ((y.openNext i pos (carrySet (u.line i) c)).line j).position = (y.line j).position := fun j => by
      by_cases hj : j = i
      · subst hj; rw [hz.line]; exact ⟨rfl, rfl⟩
      · rw [hz.others j hj]; exact ⟨rfl, rfl⟩
    have hadd := hy.lotsAdd.trans (Works.lotsAdd.of_unassigned hz.lots)
    refine hcons.adds hadd (fun n => ?_) fun j n hn => .inr ?_
    · rw [Works.lengthHeld_same hz.coils fun j => (hzline j).2, (hline i).2, Nat.zero_add]
      exact hheld n
    · rw [(hzline j).1, (hline j).1] at hn
      exact ⟨hn, by rw [(hzline j).2, (hline j).2]⟩

/-! ## Lines that are freed -/

theorem Works.freeLine_lotsAdd (w : Works) (i : LineIx) : w.lotsAdd (w.freeLine i) fun _ => 0 := by
  rw [Works.freeLine_eq]
  exact .of_map (w := w) rfl fun t => by split <;> exact ⟨rfl, rfl, rfl, rfl⟩

/-- R129, R132: the rope beyond the end of a coil whose line is freed is unassigned. -/
theorem Works.conserved.boundary_frees (hu : u.tied isolated) (hk : u.keyed) (hcons : u.conserved)
    {c : Coil} (hc : u.currentCoil? i = some c) {stop : Nat} (hstart : c.start ≤ stop)
    (hstop : stop ≤ (u.line i).position) {kind : EndKind} (hkind : kind.opensNext = false) :
    (u.boundary i c stop kind).conserved := by
  obtain ⟨-, -, -, -, hlot, -⟩ := hu.currentCoil? hc
  have hfree := u.freesLine_boundary i c stop hkind
  have hv := (u.boundary_evolves i c stop kind).keyed hk
  have hends := u.endsCoil_coilEnded i c stop kind
  have hadd : u.lotsAdd (u.boundary i c stop kind) fun n =>
      only c.key.lot n ((u.line i).position - stop) := by
    obtain ⟨a, ha⟩ : ∃ a, u.coilEnded i c stop kind = a := ⟨_, rfl⟩
    rw [Works.boundary_eq, hkind, if_neg Bool.false_ne_true]
    rw [ha] at hends ⊢
    have hline : a.line i = (u.line i).uncoiled := hends.line
    obtain ⟨bits, hleave⟩ := Works.leaveUnassigned_eq (w := a) (i := i) (n := c.key.lot)
      (by rw [hline]; exact hlot) stop
    have h1 : u.lotsAdd a fun _ => 0 :=
      .of_modifyLot c.key.lot _ hends.lots fun _ => ⟨rfl, rfl, rfl, rfl⟩
    have h2 : a.lotsAdd (a.leaveUnassigned i stop) fun n =>
        only c.key.lot n ((u.line i).position - stop) := by
      have hpos : (a.line i).position = (u.line i).position := by rw [hline]; rfl
      rw [← hpos]
      exact .of_unassigned (by rw [hleave])
    have h3 : (a.leaveUnassigned i stop).lotsAdd ((a.leaveUnassigned i stop).freeLine i) fun _ => 0 :=
      Works.freeLine_lotsAdd _ i
    have h := (h1.trans h2).trans h3
    simpa only [Nat.zero_add, Nat.add_zero] using h
  obtain ⟨v, hvdef⟩ : ∃ v, u.boundary i c stop kind = v := ⟨_, rfl⟩
  rw [hvdef] at hfree hv hadd ⊢
  obtain ⟨b, hb, hothers, hbends⟩ := hfree.coil (Works.currentCoil?_key hc).2
  have hpos : ∀ j, (v.line j).position = (u.line j).position := fun j => by
    by_cases hj : j = i
    · subst hj; rw [hfree.line]; rfl
    · rw [hfree.others j hj]
  refine hcons.adds hadd (fun n => hu.lengthHeld_ends hk hv hc hb hothers hbends hstart hstop hpos n)
    fun j n hn => .inr ⟨?_, (hpos j).le⟩
  by_cases hj : j = i
  · subst hj
    rw [hfree.line] at hn
    exact nomatch hn
  · rwa [hfree.others j hj] at hn

theorem Works.freeLine_position (w : Works) (i j : LineIx) :
    ((w.freeLine i).line j).position = (w.line j).position := by
  rw [Works.line_freeLine]
  split
  · next e => rw [e]; rfl
  · rfl

theorem Works.freeLine_lot {n : Nat} {j : LineIx} (h : ((w.freeLine i).line j).lot = some n) :
    (w.line j).lot = some n := by
  rw [Works.line_freeLine] at h
  split at h
  · exact nomatch h
  · exact h

/-- R23: a coil of length 0 leaves with its line. -/
theorem Works.conserved.freesWithout (hw : w.tied isolated) (hk : w.keyed) (hcons : w.conserved)
    {c : Coil} (hc : w.coil? c.key = some c) (hzero : w.coilLength c = 0) :
    ((w.removeCoil c.key).freeLine i).conserved := by
  have hv : ((w.removeCoil c.key).freeLine i).keyed :=
    (Works.freeLine_evolves _ i).keyed (hk.removeCoil c.key)
  have hmem : ∀ d, d ∈ inUse ((w.removeCoil c.key).freeLine i).coils ↔
      d ∈ inUse w.coils ∧ d.key ≠ c.key := fun d => by
    rw [Works.freeLine_eq]
    exact (mem_inUse_filter _ _ _).trans (and_congr_right fun _ => decide_eq_true_iff)
  have hadd : w.lotsAdd ((w.removeCoil c.key).freeLine i) fun _ => 0 :=
    (Works.lotsAdd.of_lots (v := w.removeCoil c.key) rfl).trans (freeLine_lotsAdd _ i)
  refine hcons.adds hadd
    (fun n => ?_) fun j n hn => .inr ⟨Works.freeLine_lot (w := w.removeCoil c.key) hn,
      (Works.freeLine_position (w.removeCoil c.key) i j).le⟩
  have herase := Works.lengthHeld_erase hk hv (Works.coil?_some _ _ _ hc).1 hmem (fun d hd =>
    hw.coilLength_same ((hmem d).1 hd).1 fun _ => Works.freeLine_position (w.removeCoil c.key) i _) n
  rw [herase, Works.lengthIn, hzero, ite_self]

theorem Works.conserved.releaseStarved (hcons : w.conserved) : (w.releaseStarved i).conserved := by
  have hpos : ∀ j, ((w.releaseStarved i).line j).position = (w.line j).position :=
    (w.leaveWait i).freeLine_position i
  have hadd : w.lotsAdd (w.releaseStarved i) fun _ => 0 :=
    (Works.lotsAdd.of_lots (v := w.leaveWait i) rfl).trans ((w.leaveWait i).freeLine_lotsAdd i)
  have hcoils : (w.releaseStarved i).coils = w.coils := by
    show ((w.leaveWait i).freeLine i).coils = _
    rw [Works.freeLine_eq]
    rfl
  exact hcons.adds hadd (fun n => Works.lengthHeld_same hcoils hpos n) fun j n hn =>
      .inr ⟨Works.freeLine_lot (w := w.leaveWait i) hn, (hpos j).le⟩

/-! ## Retirement, hand-out and assignment -/

/-- R24: a coil's length joins its lot's retired length. -/
theorem Works.conserved.retired (hw : w.tied isolated) (hk : w.keyed) (hcons : w.conserved) {c : Coil}
    (hc : w.coil? c.key = some c) : (w.retired c).conserved := by
  have hv := hk.retired c
  have hlots : w.lotsAdd (w.retired c) fun n => only c.key.lot n (w.coilLength c) := by
    rw [Works.retired_eq]
    refine .of_only rfl fun t => ⟨rfl, rfl, fun hlt => ?_⟩
    have hlim : Config.positionLimit = 281474976710655 := rfl
    dsimp only
    rw [hlim] at hlt
    omega
  have hmem : ∀ d, d ∈ inUse (w.retired c).coils ↔ d ∈ inUse w.coils ∧ d.key ≠ c.key := fun d => by
    rw [Works.retired_eq]
    exact (mem_inUse_filter _ _ _).trans (and_congr_right fun _ => decide_eq_true_iff)
  have hline : ∀ j, (w.retired c).line j = w.line j := fun j =>
    Works.line_congr (by rw [Works.retired_eq]) j
  refine hcons.adds hlots (fun n => ?_) fun j n hn => .inr ?_
  · have herase := Works.lengthHeld_erase hk hv (Works.coil?_some _ _ _ hc).1 hmem (fun d hd =>
      hw.coilLength_same ((hmem d).1 hd).1 fun _ => by rw [hline]) n
    rw [herase]
    rfl
  · rw [hline] at hn ⊢
    exact ⟨hn, le_rfl⟩

/-- A line without a coil takes one at its run position. -/
theorem Works.conserved.takesCoil (hw : w.tied isolated) (hk : w.keyed) (hcons : w.conserved)
    (h : w.takesCoil x i l l.position K) (hnone : (w.line i).coil = none)
    (hl : l.position = 0 ∨ (l.lot = (w.line i).lot ∧ l.position = (w.line i).position)) :
    x.conserved := by
  have hsame : ∀ d ∈ inUse w.coils, x.coilLength d = w.coilLength d := fun d hd =>
    hw.coilLength_same hd fun hs => by
      have hcur := ((hw.coils d hd).opened hs).1
      have hj : d.line ≠ i := fun e =>
        nomatch hcur.symm.trans ((congrArg (fun m => (w.line m).coil) e).trans hnone)
      rw [h.others _ hj]
  refine hcons.adds h.lotsAdd (fun n => ?_) fun j n hn => ?_
  · rw [h.lengthHeld hk hsame]
    simp [only]
  · by_cases hj : j = i
    · subst hj
      rw [h.line] at hn ⊢
      exact hl.imp id fun ⟨h1, h2⟩ => ⟨h1 ▸ hn, h2.le⟩
    · rw [h.others j hj] at hn ⊢
      exact .inr ⟨hn, le_rfl⟩

/-- R26: a hand-out makes coils of length 0. -/
theorem Works.conserved.handOut (hw : w.tied isolated) (hk : w.keyed) (hcons : w.conserved) :
    w.handOut.conserved := by
  refine (Works.serve_preserves (fun u => u.tied isolated ∧ u.keyed ∧ u.conserved)
    (fun u j rest ⟨hu, hk, hc⟩ hwait => ⟨hu.passes hk hwait, hk.of_eq rfl rfl, ?_⟩)
    (fun u z j rest ⟨hu, hk, hc⟩ hwait ho => ?_) w ⟨hw, hk, hcons⟩).2.2
  · have hline : ∀ m, ((u.passes j rest).line m).lot = (u.line m).lot ∧
        ((u.passes j rest).line m).position = (u.line m).position := fun m => by
      rw [Works.line_passes]
      split <;> exact ⟨rfl, rfl⟩
    refine hc.adds (v := u.passes j rest) (.of_lots rfl) (Works.lengthHeld_same rfl fun m => (hline m).2)
      fun m n hn => .inr ⟨(hline m).1 ▸ hn, (hline m).2.le⟩
  · have hr := hu.served_rests hk hwait ho
    obtain ⟨⟨K, hK⟩, hz⟩ := hu.served hk hwait ho
    exact ⟨hr.tied hz, hr.keyed hK.keyed, hr.conserved (hc.takesCoil hu hk hK (hu.waits hwait).2.2.1
      (.inr ⟨rfl, rfl⟩))⟩

theorem Works.conserved.releaseEmpty (hw : w.tied isolated) (hk : w.keyed) (hcons : w.conserved)
    {c : Coil} (hc : w.currentCoil? i = some c) (hzero : w.coilLength c = 0) :
    (w.releaseEmpty i c.key).conserved := by
  obtain ⟨hcur, hcq⟩ := Works.currentCoil?_key hc
  have hfreed := hw.freesWithout hk hcur
  have hfk := (Works.freeLine_evolves (w.removeCoil c.key) i).keyed (hk.removeCoil c.key)
  have hfc := hcons.freesWithout (i := i) hw hk hcq hzero
  have hgo : ∀ v, ((w.removeCoil c.key).freeLine i).rests v → v.handOut.conserved := fun v hv =>
    (hv.conserved hfc).handOut (hv.tied hfreed) (hv.keyed hfk)
  unfold Works.releaseEmpty
  dsimp only
  split
  · exact hgo _ (Works.placeFreed_rests _ _)
  · exact hgo _ (.refl _)

/-- R130 to R132: a release moves no length but that of the coil's end. -/
theorem Works.conserved.release (hw : w.tied isolated) (hk : w.keyed) (hcons : w.conserved)
    (i : LineIx) : (w.release i).conserved := by
  have hsuspended : (w.releaseSuspended i).conserved := by
    have hx := w.withdraw_rests i
    have hxw := hx.tied hw
    have hxk := hx.keyed hk
    have hxc := hx.conserved hcons
    unfold Works.releaseSuspended
    dsimp only
    split
    · refine hxc.adds (Works.freeLine_lotsAdd (w.withdraw i) i)
        (fun n => ?_) fun j n hn => .inr ⟨Works.freeLine_lot hn, (Works.freeLine_position _ i j).le⟩
      exact Works.lengthHeld_same (by rw [Works.freeLine_eq]) (Works.freeLine_position _ i) n
    · next c hc =>
      split
      · next hzero => exact hxc.releaseEmpty hxw hxk hc hzero
      · exact hxc.boundary_frees hxw hxk hc (hxw.currentCoil? hc).2.2.2.1 le_rfl rfl
  unfold Works.release
  dsimp only
  split
  · exact hcons
  · next hs =>
    split
    · next k hk' =>
      obtain ⟨-, c, hc, hopened, hline, -⟩ := (hw.lines i).current k hk'
      have hkc := (Works.coil?_some w k c hc).2
      have hcur : w.currentCoil? i = some c := by rw [Works.currentCoil?, hk']; exact hc
      have hzero : w.coilLength c = 0 := by
        unfold Works.coilLength Works.coilEnd
        rw [(hw.currentCoil? hcur).2.2.1, hline]
        show (w.line i).position - _ = 0
        rw [(hw.lines i).primed hs, Nat.zero_sub]
      exact hkc ▸ hcons.releaseEmpty hw hk hcur hzero
    · next hnone =>
      rw [(hw.lines i).coil, hs] at hnone
      exact hnone.elim nofun nofun
  · exact hcons.releaseStarved
  · next hs =>
    split
    · exact hsuspended
    · exact (w.releaseRunning_rests i hs).conserved hcons
  · split
    · exact hsuspended
    · exact hcons

end

end Sys2Proof.Machine
end

section
namespace Sys2Proof.Machine

/-! # Every command and frame conserves length (R11) -/

section
variable {w v : Works} {isolated : LineIx → Bool} {live : Prop} {i : LineIx}

/-! ## The credit (R38, R39) -/

/-- R11: the sum of a lot's coils grows by what its line's current coil grows. -/
theorem Works.tied.lengthHeld_grows (hw : w.tied isolated) (hk : w.keyed) (hv : v.keyed)
    (coils : v.coils = w.coils) (others : ∀ j, j ≠ i → v.line j = w.line j) {mm : Nat}
    (rise : (v.line i).position = (w.line i).position + mm) {n : Nat} (hn : (w.line i).lot = some n)
    (m : Nat) : v.lengthHeld m =
      w.lengthHeld m + if (w.line i).coil = none then 0 else only n m mm := by
  have hcoil? : ∀ k, v.coil? k = w.coil? k := Works.coil?_congr coils
  have hsame : ∀ d ∈ inUse w.coils, (w.line i).coil ≠ some d.key → v.coilLength d = w.coilLength d :=
    fun d hd hne => hw.coilLength_same hd fun hs => by
      have hcur := ((hw.coils d hd).opened hs).1
      rw [others d.line fun e => hne (e ▸ hcur)]
  cases hcl : (w.line i).coil with
  | none =>
    rw [if_pos rfl, Nat.add_zero]
    refine Works.lengthHeld_map (f := fun c => c) (coils.trans (mapTable_map_id _).symm)
      (fun c hc => ⟨rfl, hsame c hc fun e => nomatch hcl.symm.trans e⟩) m
  | some k =>
    rw [if_neg nofun]
    obtain ⟨hl, c, hc, -⟩ := (hw.lines i).current k hcl
    obtain ⟨-, rfl⟩ := Works.coil?_some w k c hc
    have hcur : w.currentCoil? i = some c := by rw [Works.currentCoil?, hcl]; exact hc
    obtain ⟨-, hline, hstop, hstart, -⟩ := hw.currentCoil? hcur
    have hlot : c.key.lot = n := Option.some.inj (hl.symm.trans hn)
    have hchange := Works.lengthHeld_change hk hv hc ((hcoil? _).trans hc) (fun k _ => hcoil? k)
      (fun d hd hne => hsame d hd fun e => hne (Option.some.inj (e.symm.trans hcl))) m
    have hlen : v.coilLength c = w.coilLength c + mm := by
      unfold Works.coilLength Works.coilEnd
      rw [hstop, hline]
      show (v.line i).position - c.start = (w.line i).position - c.start + mm
      omega
    unfold Works.lengthIn at hchange
    rw [hlen, hlot] at hchange
    by_cases hm : n = m
    · subst hm
      rw [only_self]
      rw [if_pos rfl, if_pos rfl] at hchange
      omega
    · rw [only_other (Ne.symm hm)]
      rw [if_neg hm, if_neg hm] at hchange
      exact hchange

/-- R38, R39: a credit adds the same to the lot's produced length and to its coil, or its unassigned
length. -/
theorem Works.conserved.giveCredit (hw : w.tied isolated) (hk : w.keyed) (hcons : w.conserved)
    (hs : (w.line i).state = .running ∨ (w.line i).state = .releasing ∨
      (w.line i).state = .starved)
    (hprod : ∀ t ∈ inUse w.lots, t.produced ≤ Config.positionLimit) (counts : Counts) :
    (w.giveCredit i counts).conserved := by
  have hlim : Config.positionLimit = 281474976710655 := rfl
  have hv := (w.giveCredit_evolves i counts).keyed hk
  obtain ⟨n, hn⟩ : ∃ n, (w.line i).lot = some n := Option.ne_none_iff_exists'.1 fun e => by
    rw [(hw.lines i).lot] at e
    rw [e] at hs
    exact hs.elim nofun (·.elim nofun nofun)
  obtain ⟨r, hr, -⟩ := (hw.lines i).runs n hn
  obtain ⟨hrm, hrn⟩ := Works.lot?_some w n r hr
  have hle : (w.line i).position ≤ r.produced := hcons.lines i r (by rw [hn]; exact hr)
  obtain ⟨mm, hmm⟩ : ∃ mm, (w.line i).credit counts = mm := ⟨_, rfl⟩
  have heq := Works.giveCredit_eq hs hn counts hmm
  obtain ⟨u, hu⟩ : ∃ u, w.giveCredit i counts = u := ⟨_, rfl⟩
  rw [hu] at heq hv ⊢
  have hline : u.line i = (w.line i).credited counts := by
    rw [heq]
    exact Works.line_modifyLine_self w i (fun l => l.credited counts)
  have hpos : (u.line i).position = min 281474976710655 ((w.line i).position + mm) := by
    rw [hline, ← hmm]; rfl
  have hothers : ∀ j, j ≠ i → u.line j = w.line j := fun j hj => by
    rw [heq]
    exact Works.line_modifyLine_other w i j (fun l => l.credited counts) hj
  have hlots : u.lots =
      (w.modifyLot n fun t => t.credited (decide ((w.line i).state = .starved)) mm).lots := by
    rw [heq]; rfl
  have hlot : ∀ j, (u.line j).lot = (w.line j).lot := fun j => by
    by_cases hj : j = i
    · subst hj; rw [hline]; rfl
    · rw [hothers j hj]
  have hcoils : u.coils = w.coils := by rw [heq]; rfl
  have hprodr := hprod r hrm
  have hheld := hw.lengthHeld_grows hk hv hcoils hothers
    (mm := (u.line i).position - (w.line i).position) (by omega) hn
  constructor
  · intro t ht hlt
    rw [hlots] at ht
    obtain ⟨r', hr', rfl⟩ := (mem_inUse_mapTable _ _ _).1 ht
    by_cases hnum : r'.number = n
    · obtain rfl := hk.sameLot hr' hrm (hnum.trans hrn.symm)
      rw [if_pos hnum] at hlt ⊢
      have hlt' : r'.produced + mm < 281474976710655 := by
        have : min 281474976710655 (r'.produced + mm) < 281474976710655 := hlt
        omega
      have hgrow := hheld n
      have htot := hcons.totals r' hr' (by omega)
      show min 281474976710655 (r'.produced + mm) = u.lengthHeld r'.number + r'.retired +
        if decide ((w.line i).state = .starved) = true then
          min 281474976710655 (r'.unassigned + mm) else r'.unassigned
      rw [hnum] at htot ⊢
      rw [hgrow, (show (u.line i).position - (w.line i).position = mm by omega), only_self]
      by_cases hst : (w.line i).state = .starved
      · rw [if_pos ((hw.lines i).coil.2 (.inr hst)), if_pos (decide_eq_true hst)]
        omega
      · have hne : (w.line i).coil ≠ none := fun e => by
          rcases (hw.lines i).coil.1 e with h | h
          · rw [h] at hs; exact hs.elim nofun (·.elim nofun nofun)
          · exact hst h
        rw [if_neg hne, if_neg (by simpa using hst)]
        omega
    · rw [if_neg hnum] at hlt ⊢
      rw [hheld, only_other hnum, ite_self]
      exact hcons.totals r' hr' hlt
  · intro j t ht
    obtain ⟨m, hm, hl⟩ := Option.bind_eq_some_iff.1 ht
    rw [hlot] at hm
    rw [Works.lot?_congr hlots, Works.lot?_modifyLot w n m
      (fun t => t.credited (decide ((w.line i).state = .starved)) mm) fun _ => rfl] at hl
    obtain ⟨r', hr', rfl⟩ := Option.map_eq_some_iff.1 hl
    obtain ⟨hrm', hrn'⟩ := Works.lot?_some w m r' hr'
    have hold := hcons.lines j r' (by rw [hm]; exact hr')
    have hprod' := hprod r' hrm'
    by_cases hj : j = i
    · subst hj
      obtain rfl := Option.some.inj (hm.symm.trans hn)
      obtain rfl := Option.some.inj (hr.symm.trans hr')
      rw [if_pos hrn, hpos]
      show _ ≤ min 281474976710655 (r.produced + mm)
      omega
    · rw [hothers j hj]
      split
      · show _ ≤ min 281474976710655 (r'.produced + mm)
        omega
      · exact hold

/-! ## Frames of a line -/

theorem Works.conserved.countTally (hw : w.tied isolated) (hk : w.keyed) (hcons : w.conserved)
    (hs : (w.line i).state = .running ∨ (w.line i).state = .releasing ∨
      (w.line i).state = .starved) (hp : (w.line i).position ≤ Config.positionLimit)
    (hprod : ∀ t ∈ inUse w.lots, t.produced ≤ Config.positionLimit) (permille : Nat)
    (f : CountFrame) : (w.countTally permille i f).conserved := by
  unfold Works.countTally
  split
  · exact (w.resync_rests i f.counts hw hk).conserved hcons
  · have hne : (w.line i).state ≠ .primed := fun e => by
      rw [e] at hs; exact hs.elim nofun (·.elim nofun nofun)
    exact (w.creditTally_minds permille i f hne hp hw hk).2.conserved
      (hcons.giveCredit hw hk hs hprod f.counts)

theorem Works.conserved.tally (hw : w.tied isolated) (hk : w.keyed) (hcons : w.conserved)
    (hp : (w.line i).position ≤ Config.positionLimit)
    (hprod : ∀ t ∈ inUse w.lots, t.produced ≤ Config.positionLimit) (permille : Nat)
    (f : CountFrame) : (w.tally permille i f).conserved := by
  unfold Works.tally
  split
  · exact hcons
  · next hs => exact (w.takeBaselines_rests i f.counts hs hw hk).conserved hcons
  · next hs => exact hcons.countTally hw hk (.inl hs) hp hprod permille f
  · next hs => exact hcons.countTally hw hk (.inr (.inl hs)) hp hprod permille f
  · next hs => exact hcons.countTally hw hk (.inr (.inr hs)) hp hprod permille f

theorem Works.conserved.resolve (hw : w.tied isolated) (hk : w.keyed) (hcons : w.conserved)
    (hp : (w.line i).position ≤ Config.positionLimit)
    (hprod : ∀ t ∈ inUse w.lots, t.produced ≤ Config.positionLimit) (permille : Nat)
    (f : CountFrame) : (w.resolve permille i f).1.conserved := by
  unfold Works.resolve
  dsimp only
  split
  · exact hcons
  · next hs => exact (w.takeBaselines_rests i f.counts hs hw hk).conserved hcons
  all_goals
    next hs =>
    split
    · exact (w.resync_rests i f.counts hw hk).conserved hcons
    · split
      · exact hcons.countTally hw hk (by rw [hs]; simp) hp hprod permille f
      · exact hcons

theorem Works.conserved.cutCompleted {u : Works} {pos : Nat} (hu : u.tied isolated) (hk : u.keyed)
    (hcons : u.conserved) (hs : (u.line i).state ≠ .primed)
    (hpos : ∀ c, u.currentCoil? i = some c → (u.line i).state ≠ .idle →
      c.start ≤ pos ∧ pos ≤ (u.line i).position) : (u.cutCompleted i pos).1.conserved := by
  rcases Works.cutCompleted_cases u i pos with e | ⟨c, hc, hstate, e⟩
  · rw [e]; exact hcons
  · obtain ⟨hstart, hle⟩ := hpos c hc (by rcases hstate with h | h | h <;> rw [h] <;> nofun)
    by_cases hp : pos = c.start
    · have hraise : u.rests (u.raiseLine i Bit.cutIgnored) := .of_plain rfl rfl rfl rfl rfl
      rcases e with ⟨-, e⟩ | ⟨h, -⟩ | ⟨h, -⟩ | ⟨h, -⟩ | ⟨h, -⟩
      · rw [e]; exact hraise.conserved hcons
      all_goals exact absurd hp h
    · rcases hstate.resolve_left hs with hrun | hrel
      · rw [Works.cutCompleted_boundary hrun hc hp]
        exact hcons.boundary_runs hu hk hc hrun hstart hle
      · rw [Works.cutCompleted_releasing hrel hc hp]
        exact hcons.boundary_frees hu hk hc hstart hle (kind := .release) rfl

/-! ## Commands on lots and coils -/

/-- Coils keep their lengths, lines their lots and run positions, lots their totals. -/
theorem Works.conserved.of_map (hcons : w.conserved) {f : Coil → Coil}
    (coils : v.coils = mapTable (Option.map f) w.coils)
    (hf : ∀ c ∈ inUse w.coils, (f c).key = c.key ∧ (f c).line = c.line ∧ (f c).start = c.start ∧
      (f c).stop = c.stop)
    (lots : w.lotsAdd v fun _ => 0)
    (lines : ∀ j, (v.line j).lot = (w.line j).lot ∧ (v.line j).position = (w.line j).position) :
    v.conserved := by
  refine hcons.adds lots (fun n => Works.lengthHeld_map coils (fun c hc => ?_) n) fun j n hn =>
    .inr ⟨(lines j).1 ▸ hn, (lines j).2.le⟩
  obtain ⟨hkey, hline, hstart, hstop⟩ := hf c hc
  refine ⟨hkey, ?_⟩
  unfold Works.coilLength Works.coilEnd
  rw [hline, hstart, hstop, (lines _).2]

theorem Works.conserved.of_same (hcons : w.conserved) (lots : w.lotsAdd v fun _ => 0)
    (coils : v.coils = w.coils) (lines : v.lines = w.lines) : v.conserved :=
  hcons.of_map (f := fun c => c) (coils.trans (mapTable_map_id _).symm)
    (fun _ _ => ⟨rfl, rfl, rfl, rfl⟩) lots fun j => by
      rw [Works.line_congr lines]
      exact ⟨rfl, rfl⟩

/-- A change of one coil that leaves where it lies. -/
theorem Works.conserved.of_modifyCoil (hcons : w.conserved) (k : CoilKey) {f : Coil → Coil}
    (hf : ∀ c, (f c).key = c.key ∧ (f c).line = c.line ∧ (f c).start = c.start ∧
      (f c).stop = c.stop)
    (coils : v.coils = (w.modifyCoil k f).coils) (lots : v.lots = w.lots)
    (lines : v.lines = w.lines) : v.conserved :=
  hcons.of_map coils (fun c _ => by
    split
    · exact hf c
    · exact ⟨rfl, rfl, rfl, rfl⟩) (.of_lots lots) fun j => by
      rw [Works.line_congr lines]
      exact ⟨rfl, rfl⟩

theorem Works.conserved.seals (hcons : w.conserved) (p : PackerIx) (k : CoilKey) (weight : Nat) :
    (w.sealAt p k weight).conserved := by
  rw [Works.sealAt_eq]
  refine (Works.placeFreed_rests _ p).conserved (hcons.of_modifyCoil k (fun c => ?_) rfl rfl rfl)
  rw [Coil.sealedWith_eq]
  exact ⟨rfl, rfl, rfl, rfl⟩

theorem Works.conserved.opensLot (hw : w.tied isolated) (hk : w.keyed) (hcons : w.conserved) {e : LotIx} {n : Nat}
    {sp : Spec} (fresh : w.lot? n = none) (free : lowestFree w.lots = some e) :
    Works.conserved { w with lots := w.lots.set e (some (Lot.opening n sp)) } := by
  have hnone : ∀ l ∈ inUse w.lots, l.number ≠ n := fun l hl hn =>
    absurd (List.find?_eq_none.1 fresh l hl) (by simpa using hn)
  have hnew : w.lengthHeld n = 0 := by
    unfold Works.lengthHeld
    rw [List.filter_eq_nil_iff.2 fun c hc => ?_]
    · rfl
    · obtain ⟨l, hl, hnum, -⟩ := hk.issued c hc
      intro h
      exact hnone l hl (hnum.trans (of_decide_eq_true h))
  constructor
  · intro t ht hlt
    rcases (mem_inUse_set w.lots e (Lot.opening n sp) (hfree := (lowestFree_spec _ _ free).1) t).1 ht
      with rfl | ht
    · exact hnew.symm
    · exact hcons.totals t ht hlt
  · intro i t ht
    obtain ⟨m, hm, hl⟩ := Option.bind_eq_some_iff.1 ht
    rw [w.lot?_openLot free hk fresh] at hl
    rw [if_neg] at hl
    · exact hcons.lines i t (Option.bind_eq_some_iff.2 ⟨m, hm, hl⟩)
    · rintro rfl
      obtain ⟨r, hr, -⟩ := (hw.lines i).runs m hm
      exact nomatch fresh.symm.trans hr

theorem Works.conserved.removesLot (hcons : w.conserved) {n : Nat} : (w.removeLot n).conserved := by
  constructor
  · intro t ht hlt
    exact hcons.totals t ((mem_inUse_filter _ _ _).1 ht).1 hlt
  · intro i t ht
    obtain ⟨m, hm, hl⟩ := Option.bind_eq_some_iff.1 ht
    have hne : m ≠ n := fun e => by
      rw [e, w.lot?_removeLot_self] at hl
      exact nomatch hl
    refine hcons.lines i t (Option.bind_eq_some_iff.2 ⟨m, hm, ?_⟩)
    rwa [w.lot?_removeLot hne] at hl

theorem Works.closes_lotsAdd (w : Works) (n : Nat) : w.lotsAdd
    ((w.modifyLot n fun l => { l with state := .closing }).closeIfEmpty n) fun _ => 0 := by
  have h1 : w.lotsAdd (w.modifyLot n fun l => { l with state := .closing }) fun _ => 0 :=
    .of_modifyLot n _ rfl fun _ => ⟨rfl, rfl, rfl, rfl⟩
  refine h1.trans (e := fun _ => 0) ?_
  unfold Works.closeIfEmpty
  split
  · refine .of_map rfl fun t => ?_
    split <;> exact ⟨rfl, rfl, rfl, rfl⟩
  · exact .of_lots rfl

theorem Works.conserved.closes (hcons : w.conserved) (n : Nat) :
    ((w.modifyLot n fun l => { l with state := .closing }).closeIfEmpty n).conserved := by
  obtain ⟨hlines, hcoils, -⟩ :=
    (w.modifyLot n fun l => { l with state := .closing }).closeIfEmpty_frame n
  exact hcons.of_same (w.closes_lotsAdd n) hcoils hlines

theorem Works.conserved.amends (hcons : w.conserved) {n : Nat} {sp : Spec} {t : Lot}
    (ht : w.lot? n = some t) : (w.amend n sp).conserved := by
  obtain ⟨f, hf, hkeep⟩ := w.amend_map n sp
  have h := Works.amend_amendedBy sp ht
  have hto := Works.amend_amendsTo sp ht
  refine hcons.of_map hf (fun c _ => ?_)
    (.of_modifyLot n (fun l => l.amendedTo sp) h.lots fun _ => ⟨rfl, rfl, rfl, rfl⟩) fun j => ?_
  · rw [hkeep c]
    exact ⟨rfl, rfl, rfl, rfl⟩
  · obtain ⟨-, hlot, -, -, -, -, hpos⟩ := (w.line j).amended_keeps n (t.amendedTo sp)
    rw [hto.line]
    exact ⟨hlot, hpos⟩

theorem Works.conserved.assigns (hw : w.tied isolated) (hk : w.keyed) (hcons : w.conserved) {n : Nat}
    {t : Lot} (used : (w.line i).kind ≠ .unused) (h : w.lot? n = some t)
    (idle : (w.line i).state = .idle) (opened : t.state = .opened)
    (opens : (w.modifyLine i fun l => l.assigned t (isolated i)).openCoil i 0 = .ok v) :
    v.conserved := by
  obtain ⟨-, -, K, hK⟩ := hw.assigns hk used h idle opened opens
  have hpos : ((w.line i).assigned t (isolated i)).position = 0 := by
    unfold Line.assigned
    rw [Line.resetMonitor_eq]
  exact hcons.takesCoil hw hk (hpos.symm ▸ hK) ((hw.lines i).coil.2 (.inl idle)) (.inl hpos)

/-- R11: every command and frame conserves length. -/
theorem Works.Does.conserved (h : w.Does isolated live v) (hk : w.keyed) (hw : w.tied isolated)
    (hr : ∀ i, (w.line i).position ≤ Config.positionLimit ∧ (w.line i).remainder < 1000)
    (hprod : ∀ t ∈ inUse w.lots, t.produced ≤ Config.positionLimit) (hcons : w.conserved) :
    v.conserved := by
  cases h with
  | plain lots lines coils waitList queues => exact hcons.of_same (.of_lots lots) coils lines
  | tally permille i f => exact hcons.tally hw hk (hr i).1 hprod permille f
  | mark permille i kind f =>
    have hres := w.resolve_minds permille i f (hr i).1 hw hk
    have hmark := Works.applyMark_rests (w.resolve permille i f).1 i (w.resolve permille i f).2 kind
      (hres.tied hw) ((w.resolve_evolves permille i f).keyed hk)
    unfold Works.mark
    split
    · exact hcons
    all_goals exact hmark.conserved (hcons.resolve hw hk (hr i).1 hprod permille f)
  | cutDone permille i f n =>
    have hres := w.resolve_minds permille i f (hr i).1 hw hk
    have hbounds := w.resolve_bounds permille i f hw hk (hr i).1 (hr i).2
    have hcut := (hcons.resolve hw hk (hr i).1 hprod permille f).cutCompleted (i := i)
      (pos := (w.resolve permille i f).2) (hres.tied hw)
      ((w.resolve_evolves permille i f).keyed hk) (w.resolve_not_primed permille i f)
      fun c hc hne => hbounds (fun hs => hne (w.resolve_idle permille f hs)) c hc
    exact hcut.of_same (.of_lots rfl) rfl rfl
  | takes p c =>
    exact hcons.of_modifyCoil c.key (f := fun b => { b with state := .taken })
      (fun _ => ⟨rfl, rfl, rfl, rfl⟩) rfl rfl rfl
  | seals p c weight => exact hcons.seals p c.key weight
  | retires c hc sealed =>
    rw [Works.retire_eq]
    exact (hcons.retired hw hk hc).handOut (hw.retired hk hc sealed) (hk.retired c)
  | opensLot e n sp _ _ fresh free => exact hcons.opensLot hw hk fresh free
  | amends n sp t hl => exact hcons.amends hl
  | closes n => exact hcons.closes n
  | removesLot n => exact hcons.removesLot
  | assigns i n t _ used hl idle opened opens => exact hcons.assigns hw hk used hl idle opened opens
  | releases i => exact hcons.release hw hk i
  | wheels i m c => exact (w.setWheels_rests i m c hw hk).conserved hcons
  | marks c start stop hc state => exact (w.placeOperator_rests hk hc state start stop).conserved hcons

end

end Sys2Proof.Machine
end

section
namespace Sys2Proof.Machine

/-! # A SEALED coil stays as it is until it leaves the table (R22, R114) -/

/-- The SEALED coils stay as they are. -/
def Works.keepsSealed (w v : Works) : Prop :=
  ∀ c, w.coil? c.key = some c → c.state = .sealed → v.coil? c.key = some c

section
variable {w v u x y : Works} {isolated : LineIx → Bool} {live : Prop} {i : LineIx} {c : Coil}

theorem Works.keepsSealed.trans (h : w.keepsSealed v) (k : v.keepsSealed u) : w.keepsSealed u :=
  fun c hc hs => k c (h c hc hs) hs

theorem Works.keepsSealed.of_coils (h : v.coils = w.coils) : w.keepsSealed v := fun c hc _ =>
  (Works.coil?_congr h c.key).trans hc

theorem Works.minds.keepsSealed (h : w.minds v) : w.keepsSealed v := fun c hc hs => by
  obtain ⟨d, hd, hset⟩ := h.coil? hc
  rw [hd, hset.sealed hs]

/-- Only a coil that is not SEALED changes. -/
theorem Works.coilsBut.keepsSealed (h : w.coilsBut v c.key) (hc : w.coil? c.key = some c)
    (hs : c.state ≠ .sealed) : w.keepsSealed v := fun d hd hds => by
  refine (h d.key fun e => hs ?_).trans hd
  rw [e] at hd
  obtain rfl := Option.some.inj (hc.symm.trans hd)
  exact hds

theorem Works.takesCoil.keepsSealed {l : Line} {pos : Nat} {K : CoilKey}
    (h : w.takesCoil x i l pos K) : w.keepsSealed x := fun c hc _ =>
  h.keyed.coil?_eq (h.kept c (Works.coil?_some _ _ _ hc).1)

theorem Works.tied.current_not_sealed (hw : w.tied isolated) (hc : w.currentCoil? i = some c) :
    c.state ≠ .sealed := by
  rw [(hw.currentCoil? hc).1]
  nofun

theorem Works.tied.boundary_frees_sealed (hu : u.tied isolated) (hc : u.currentCoil? i = some c)
    {stop : Nat} {kind : EndKind} (hkind : kind.opensNext = false) :
    u.keepsSealed (u.boundary i c stop kind) := by
  have hcq := (Works.currentCoil?_key hc).2
  obtain ⟨b, -, hothers, -⟩ := (u.freesLine_boundary i c stop hkind).coil hcq
  exact Works.coilsBut.keepsSealed hothers hcq (hu.current_not_sealed hc)

theorem Works.tied.boundary_runs_sealed (hu : u.tied isolated) (hk : u.keyed) {pos : Nat}
    (hc : u.currentCoil? i = some c) (hs : (u.line i).state = .running) (hstart : c.start ≤ pos)
    (hpos : pos ≤ (u.line i).position) :
    u.keepsSealed ((u.withdraw i).boundary i c pos (u.line i).cutKind) := by
  obtain ⟨-, -, -, -, hlot, -⟩ := hu.currentCoil? hc
  obtain ⟨lot, hl, -⟩ := (hu.lines i).runs _ hlot
  obtain ⟨y, hy, hbound⟩ := Works.boundary_cutTo pos hc hlot hl
  rw [hbound]
  obtain ⟨b, -, hothers, -⟩ := hy.coil
  have hcut : u.keepsSealed y := Works.coilsBut.keepsSealed hothers (Works.currentCoil?_key hc).2
    (hu.current_not_sealed hc)
  rcases hu.openNext_cases hk hc hs hl hy hstart hpos (carrySet (u.line i) c) with
    ⟨x, K, hx, -, -, hrest⟩ | ⟨why, hz, -⟩
  · exact hcut.trans (hx.keepsSealed.trans hrest.tominds.keepsSealed)
  · exact hcut.trans (.of_coils hz.coils)

theorem Works.tied.cutCompleted_sealed {pos : Nat} (hu : u.tied isolated) (hk : u.keyed)
    (hs : (u.line i).state ≠ .primed)
    (hpos : ∀ c, u.currentCoil? i = some c → (u.line i).state ≠ .idle →
      c.start ≤ pos ∧ pos ≤ (u.line i).position) : u.keepsSealed (u.cutCompleted i pos).1 := by
  rcases Works.cutCompleted_cases u i pos with e | ⟨c, hc, hstate, e⟩
  · rw [e]; exact .of_coils rfl
  · obtain ⟨hstart, hle⟩ := hpos c hc (by rcases hstate with h | h | h <;> rw [h] <;> nofun)
    by_cases hp : pos = c.start
    · rcases e with ⟨-, e⟩ | ⟨h, -⟩ | ⟨h, -⟩ | ⟨h, -⟩ | ⟨h, -⟩
      · rw [e]; exact .of_coils rfl
      all_goals exact absurd hp h
    · rcases hstate.resolve_left hs with hrun | hrel
      · rw [Works.cutCompleted_boundary hrun hc hp]
        exact hu.boundary_runs_sealed hk hc hrun hstart hle
      · rw [Works.cutCompleted_releasing hrel hc hp]
        exact hu.boundary_frees_sealed hc (kind := .release) rfl

theorem Works.tied.handOut_sealed (hw : w.tied isolated) (hk : w.keyed) : w.keepsSealed w.handOut :=
  (Works.serve_preserves (fun u => u.tied isolated ∧ u.keyed ∧ w.keepsSealed u)
    (fun u j rest ⟨hu, hk, hs⟩ hwait =>
      ⟨hu.passes hk hwait, hk.of_eq rfl rfl, hs.trans (.of_coils rfl)⟩)
    (fun u z j rest ⟨hu, hk, hs⟩ hwait ho => by
      have hr := hu.served_rests hk hwait ho
      obtain ⟨⟨K, hK⟩, hz⟩ := hu.served hk hwait ho
      exact ⟨hr.tied hz, hr.keyed hK.keyed,
        hs.trans (hK.keepsSealed.trans hr.tominds.keepsSealed)⟩) w ⟨hw, hk, .of_coils rfl⟩).2.2

theorem Works.tied.releaseEmpty_sealed (hw : w.tied isolated) (hk : w.keyed)
    (hc : w.currentCoil? i = some c) : w.keepsSealed (w.releaseEmpty i c.key) := by
  obtain ⟨hcur, hcq⟩ := Works.currentCoil?_key hc
  have hfreed := hw.freesWithout hk hcur
  have hfk := (Works.freeLine_evolves (w.removeCoil c.key) i).keyed (hk.removeCoil c.key)
  have hgone : w.keepsSealed ((w.removeCoil c.key).freeLine i) := fun d hd hs => by
    refine hfk.coil?_eq ?_
    rw [Works.freeLine_eq]
    refine (mem_inUse_filter _ _ _).2 ⟨(Works.coil?_some _ _ _ hd).1, decide_eq_true fun e => ?_⟩
    rw [e] at hd
    obtain rfl := Option.some.inj (hcq.symm.trans hd)
    exact hw.current_not_sealed hc hs
  have hgo : ∀ v, ((w.removeCoil c.key).freeLine i).rests v → w.keepsSealed v.handOut := fun v hv =>
    hgone.trans (hv.tominds.keepsSealed.trans ((hv.tied hfreed).handOut_sealed (hv.keyed hfk)))
  unfold Works.releaseEmpty
  dsimp only
  split
  · exact hgo _ (Works.placeFreed_rests _ _)
  · exact hgo _ (.refl _)

theorem Works.tied.release_sealed (hw : w.tied isolated) (hk : w.keyed) (i : LineIx) :
    w.keepsSealed (w.release i) := by
  have hfree : ∀ u : Works, u.keepsSealed (u.freeLine i) := fun u =>
    .of_coils (by rw [Works.freeLine_eq])
  have hsuspended : w.keepsSealed (w.releaseSuspended i) := by
    have hx := w.withdraw_rests i
    have hxw := hx.tied hw
    unfold Works.releaseSuspended
    dsimp only
    split
    · exact hx.tominds.keepsSealed.trans (hfree _)
    · next c hc =>
      split
      · exact hx.tominds.keepsSealed.trans (hxw.releaseEmpty_sealed (hx.keyed hk) hc)
      · exact hx.tominds.keepsSealed.trans (hxw.boundary_frees_sealed hc rfl)
  unfold Works.release
  dsimp only
  split
  · exact .of_coils rfl
  · split
    · next k hk' =>
      obtain ⟨-, c, hc, -⟩ := (hw.lines i).current k hk'
      have hkc := (Works.coil?_some w k c hc).2
      have hcur : w.currentCoil? i = some c := by rw [Works.currentCoil?, hk']; exact hc
      exact hkc ▸ hw.releaseEmpty_sealed hk hcur
    · exact hfree w
  · exact (Works.keepsSealed.of_coils (w := w) (v := w.leaveWait i) rfl).trans (hfree _)
  · next hs =>
    split
    · exact hsuspended
    · exact (w.releaseRunning_rests i hs).tominds.keepsSealed
  · split
    · exact hsuspended
    · exact .of_coils rfl

/-! ## Retirement (R24) -/

/-- A key that the lot has given out and that stands in the table no longer. -/
def Works.gone (w : Works) (k : CoilKey) : Prop :=
  (∀ d ∈ inUse w.coils, d.key ≠ k) ∧ ∀ t ∈ inUse w.lots, t.number = k.lot → k.sequence < t.nextSequence

theorem Works.gone.of_map {f : Coil → Coil} {g : Lot → Lot} {k : CoilKey} (h : w.gone k)
    (coils : v.coils = mapTable (Option.map f) w.coils) (hf : ∀ d ∈ inUse w.coils, (f d).key = d.key)
    (lots : v.lots = mapTable (Option.map g) w.lots)
    (hg : ∀ t, (g t).number = t.number ∧ t.nextSequence ≤ (g t).nextSequence) : v.gone k := by
  constructor
  · intro d hd
    rw [coils] at hd
    obtain ⟨b, hb, rfl⟩ := (mem_inUse_mapTable _ _ _).1 hd
    rw [hf b hb]
    exact h.1 b hb
  · intro t ht hn
    rw [lots] at ht
    obtain ⟨r, hr, rfl⟩ := (mem_inUse_mapTable _ _ _).1 ht
    obtain ⟨hnum, hle⟩ := hg r
    exact (h.2 r hr (hnum.symm.trans hn)).trans_le hle

theorem Works.rests.gone {k : CoilKey} (h : w.rests v) (hg : w.gone k) : v.gone k := by
  obtain ⟨f, hf, hkeep⟩ := h.coils
  exact hg.of_map hf (fun d hd => (Coil.bones_fields (hkeep d hd).bones).1) (g := fun t => t)
    (h.sameLots.trans (mapTable_map_id _).symm) fun _ => ⟨rfl, le_rfl⟩

/-- A new coil's key is not one that was given out before. -/
theorem Works.takesCoil.gone {l : Line} {pos : Nat} {K k : CoilKey} (h : w.takesCoil x i l pos K)
    (hg : w.gone k) : x.gone k := by
  constructor
  · intro d hd
    rcases (h.mem d).1 hd with rfl | hd
    · rintro rfl
      obtain ⟨t, ht, hn, hs⟩ := h.issued
      exact absurd (hg.2 t ht hn) (by rw [hs]; exact Nat.lt_irrefl _)
    · exact hg.1 d hd
  · intro t ht hn
    rw [h.lots] at ht
    obtain ⟨r, hr, rfl⟩ := (mem_inUse_mapTable _ _ _).1 ht
    split at hn
    · next e =>
      rw [if_pos e]
      exact (hg.2 r hr hn).trans (Nat.lt_succ_self _)
    · next e =>
      rw [if_neg e]
      exact hg.2 r hr hn

theorem Works.tied.handOut_gone {k : CoilKey} (hw : w.tied isolated) (hk : w.keyed) (hg : w.gone k) :
    w.handOut.gone k :=
  (Works.serve_preserves (fun u => u.tied isolated ∧ u.keyed ∧ u.gone k)
    (fun u j rest ⟨hu, hk, hg⟩ hwait => ⟨hu.passes hk hwait, hk.of_eq rfl rfl, hg⟩)
    (fun u z j rest ⟨hu, hk, hg⟩ hwait ho => by
      have hr := hu.served_rests hk hwait ho
      obtain ⟨⟨K, hK⟩, hz⟩ := hu.served hk hwait ho
      exact ⟨hr.tied hz, hr.keyed hK.keyed, hr.gone (hK.gone hg)⟩) w ⟨hw, hk, hg⟩).2.2

/-- R24: a SEALED coil leaves, and the others stay. -/
theorem Works.tied.retires_sealed (hw : w.tied isolated) (hk : w.keyed) (hc : w.coil? c.key = some c)
    (sealed : c.state = .sealed) {d : Coil} (hd : w.coil? d.key = some d) (hds : d.state = .sealed) :
    (w.retire c).coil? d.key = none ∨ (w.retire c).coil? d.key = some d := by
  have hr := hw.retired hk hc sealed
  have hrk := hk.retired c
  have hmem := (Works.coil?_some _ _ _ hc).1
  have hcoils : ∀ b, b ∈ inUse (w.retired c).coils ↔ b ∈ inUse w.coils ∧ b.key ≠ c.key := fun b => by
    rw [Works.retired_eq]
    exact (mem_inUse_filter _ _ _).trans (and_congr_right fun _ => decide_eq_true_iff)
  rw [Works.retire_eq]
  by_cases hkey : d.key = c.key
  · have hgone : (w.retired c).gone c.key := by
      refine ⟨fun b hb => ((hcoils b).1 hb).2, fun t ht hn => ?_⟩
      rw [Works.retired_eq] at ht
      obtain ⟨r, hr, rfl⟩ := (mem_inUse_mapTable _ _ _).1 ht
      obtain ⟨l, hl, hnum, hlt⟩ := hk.issued c hmem
      have hnr : r.number = c.key.lot := by
        split at hn <;> exact hn
      obtain rfl := hk.sameLot hr hl (hnr.trans hnum.symm)
      split <;> exact hlt
    refine .inl (List.find?_eq_none.2 fun b hb e => ?_)
    exact (hr.handOut_gone hrk hgone).1 b hb ((of_decide_eq_true e).trans hkey)
  · refine .inr (hr.handOut_sealed hrk d (hrk.coil?_eq ?_) hds)
    exact (hcoils d).2 ⟨(Works.coil?_some _ _ _ hd).1, hkey⟩

/-! ## Every command and frame -/

theorem Works.tied.amends_sealed (hw : w.tied isolated) {n : Nat} {sp : Spec} {t : Lot}
    (ht : w.lot? n = some t) : w.keepsSealed (w.amend n sp) := fun c hc hs => by
  obtain ⟨d, hd, ⟨rfl, -⟩ | ⟨-, i, -, -, hik⟩⟩ := (Works.amend_amendsTo sp ht).coil _ c hc
  · exact hd
  · have hcur : w.currentCoil? i = some c := by rw [Works.currentCoil?, hik]; exact hc
    exact absurd hs (hw.current_not_sealed hcur)

theorem Works.Does.sealed (h : w.Does isolated live v) (hk : w.keyed) (hw : w.tied isolated)
    (hr : ∀ i, (w.line i).position ≤ Config.positionLimit ∧ (w.line i).remainder < 1000)
    {c : Coil} (hc : w.coil? c.key = some c) (hs : c.state = .sealed) :
    v.coil? c.key = none ∨ v.coil? c.key = some c := by
  have of_keeps : ∀ {u : Works}, w.keepsSealed u → u.coil? c.key = none ∨ u.coil? c.key = some c :=
    fun h => .inr (h c hc hs)
  cases h with
  | plain lots lines coils waitList queues => exact of_keeps (.of_coils coils)
  | tally permille i f => exact of_keeps (w.tally_minds permille i f (hr i).1 hw hk).keepsSealed
  | mark permille i kind f =>
    have hres := w.resolve_minds permille i f (hr i).1 hw hk
    have hmark := Works.applyMark_rests (w.resolve permille i f).1 i (w.resolve permille i f).2 kind
      (hres.tied hw) ((w.resolve_evolves permille i f).keyed hk)
    unfold Works.mark
    split
    · exact .inr hc
    all_goals exact of_keeps (hres.trans hmark.tominds).keepsSealed
  | cutDone permille i f n =>
    have hres := w.resolve_minds permille i f (hr i).1 hw hk
    have hbounds := w.resolve_bounds permille i f hw hk (hr i).1 (hr i).2
    have hcut := (hres.tied hw).cutCompleted_sealed (i := i) (pos := (w.resolve permille i f).2)
      ((w.resolve_evolves permille i f).keyed hk) (w.resolve_not_primed permille i f)
      fun c hc hne => hbounds (fun hs => hne (w.resolve_idle permille f hs)) c hc
    exact of_keeps (hres.keepsSealed.trans hcut)
  | takes p d hd head full =>
    exact of_keeps (Works.coilsBut.keepsSealed (fun k hne =>
      Works.coil?_modifyCoil_other w d.key k _ (fun _ => rfl) hne) hd (by rw [full]; nofun))
  | seals p d weight hd state =>
    rw [Works.sealAt_eq]
    have hout : w.keepsSealed (w.sealedOut p d.key weight) :=
      Works.coilsBut.keepsSealed (fun k hne => w.sealedOut_coil?_other p d.key k weight hne) hd
        (by rcases state with e | e <;> rw [e] <;> nofun)
    exact of_keeps (hout.trans (Works.placeFreed_rests _ p).tominds.keepsSealed)
  | retires d hd sealed => exact hw.retires_sealed hk hd sealed hc hs
  | opensLot => exact .inr hc
  | amends n sp t hl => exact of_keeps (hw.amends_sealed hl)
  | closes n =>
    exact of_keeps (.of_coils
      ((w.modifyLot n fun l => { l with state := .closing }).closeIfEmpty_frame n).2.1)
  | removesLot => exact .inr hc
  | assigns i n t _ used hl idle opened opens =>
    obtain ⟨-, -, K, hK⟩ := hw.assigns hk used hl idle opened opens
    exact of_keeps hK.keepsSealed
  | releases i => exact of_keeps (hw.release_sealed hk i)
  | wheels i m c => exact of_keeps (w.setWheels_rests i m c hw hk).tominds.keepsSealed
  | marks d start stop hd state =>
    exact of_keeps (w.placeOperator_rests hk hd state start stop).tominds.keepsSealed

end

end Sys2Proof.Machine
end

section
namespace Sys2Proof.Machine

/-! # Zones lie within their coil (R102) -/

/-- The detectors of a line know of no position beyond its run position. -/
structure Line.fits (l : Line) : Prop where
  rows : l.kind = .knot → l.measure = .rows
  twist : l.kind = .twist → l.position < Config.positionLimit →
    l.twist.suspectStart ≤ l.position ∧ l.twist.recoveryStart ≤ l.position
  knot : l.kind = .knot → l.position < Config.positionLimit →
    l.knot.faultStart ≤ l.position ∧ l.knot.soundStart ≤ l.position
  slip : l.position < Config.positionLimit →
    l.slip.slipStart ≤ l.position ∧ l.slip.cleanStart ≤ l.position

/-- The zone lies within a length. -/
def Zone.within (z : Zone) (len : Nat) : Prop := z.start ≤ len ∧ ∀ e, z.stop = some e → e ≤ len

/-- The zones of the coil lie within a length. -/
def Coil.fits (c : Coil) (len : Nat) : Prop := ∀ z ∈ c.zones, z.within len

/-- `State.zonesWithin` of one line. -/
structure Works.fits (w : Works) (i : LineIx) : Prop where
  line : (w.line i).fits
  coil : ∀ c ∈ inUse w.coils, (w.line i).coil = some c.key →
    (w.line i).position < Config.positionLimit → c.fits ((w.line i).position - c.start)

section
variable {w v u : Works} {isolated : LineIx → Bool} {i j : LineIx}

theorem Works.tied.coilLength_current (hw : w.tied isolated) {c : Coil}
    (hc : w.currentCoil? i = some c) : w.coilLength c = (w.line i).position - c.start := by
  obtain ⟨-, hline, hstop, -⟩ := hw.currentCoil? hc
  unfold Works.coilLength Works.coilEnd
  rw [hstop, hline]
  rfl

theorem Works.keyed.currentCoil?_iff (hk : w.keyed) {c : Coil} :
    w.currentCoil? i = some c ↔ c ∈ inUse w.coils ∧ (w.line i).coil = some c.key := by
  constructor
  · intro h
    obtain ⟨hcur, hc⟩ := Works.currentCoil?_key h
    exact ⟨(Works.coil?_some _ _ _ hc).1, hcur⟩
  · rintro ⟨hm, hcur⟩
    rw [Works.currentCoil?, hcur]
    exact hk.coil?_eq hm

theorem State.zonesWithin_iff {s : State} (hw : s.works.tied isolated) (hk : s.works.keyed) :
    s.zonesWithin ↔ ∀ i, s.works.fits i := by
  constructor
  · intro h i
    refine ⟨⟨h.rows i, h.twist i, h.knot i, h.slip i⟩, fun c hm hcur hlt => ?_⟩
    have hc := hk.currentCoil?_iff.2 ⟨hm, hcur⟩
    have hz := h.zones i c hc hlt
    rw [hw.coilLength_current hc] at hz
    exact hz
  · intro h
    refine ⟨fun i => (h i).line.rows, fun i => (h i).line.twist, fun i => (h i).line.knot,
      fun i => (h i).line.slip, fun i c hc hlt => ?_⟩
    obtain ⟨hm, hcur⟩ := hk.currentCoil?_iff.1 hc
    rw [hw.coilLength_current hc]
    exact (h i).coil c hm hcur hlt

/-! ## Changes that leave the bounds of a line -/

/-- What the bounds of a line record speak of: the other fields at fixed values. -/
def Line.gauges (l : Line) : Line :=
  { Line.reset with
    kind := l.kind, measure := l.measure, coil := l.coil, position := l.position, slip := l.slip,
    twist := l.twist, knot := l.knot }

theorem Line.gauges_fields {l l' : Line} (h : l'.gauges = l.gauges) : l'.kind = l.kind ∧
    l'.measure = l.measure ∧ l'.coil = l.coil ∧ l'.position = l.position ∧ l'.slip = l.slip ∧
    l'.twist = l.twist ∧ l'.knot = l.knot :=
  ⟨(congrArg Line.kind h :), (congrArg Line.measure h :), (congrArg Line.coil h :),
    (congrArg Line.position h :), (congrArg Line.slip h :), (congrArg Line.twist h :),
    (congrArg Line.knot h :)⟩

theorem Line.fits.of {l l' : Line} (h : l.fits) (e : l'.gauges = l.gauges) : l'.fits := by
  obtain ⟨hkind, hmeasure, -, hpos, hslip, htwist, hknot⟩ := Line.gauges_fields e
  constructor
  · rw [hkind, hmeasure]; exact h.rows
  · rw [hkind, hpos, htwist]; exact h.twist
  · rw [hkind, hpos, hknot]; exact h.knot
  · rw [hpos, hslip]; exact h.slip

/-- The line keeps its bounds, and its current coil its zones. -/
theorem Works.fits.of (h : w.fits i) (line : (v.line i).gauges = (w.line i).gauges)
    (coils : ∀ d ∈ inUse v.coils, (v.line i).coil = some d.key →
      ∃ c ∈ inUse w.coils, c.key = d.key ∧ c.start = d.start ∧ c.zones = d.zones) : v.fits i := by
  obtain ⟨-, -, hcoil, hpos, -⟩ := Line.gauges_fields line
  refine ⟨h.line.of line, fun d hd hcur hlt => ?_⟩
  obtain ⟨c, hc, hkey, hstart, hzones⟩ := coils d hd hcur
  have hf := h.coil c hc (by rw [hkey, ← hcoil]; exact hcur) (hpos ▸ hlt)
  unfold Coil.fits
  rw [hpos, ← hstart, ← hzones]
  exact hf

theorem Works.fits.of_lines (h : w.fits i) (lines : v.lines = w.lines) (coils : v.coils = w.coils) :
    v.fits i :=
  h.of (by rw [Works.line_congr lines]) fun d hd _ => ⟨d, coils ▸ hd, rfl, rfl, rfl⟩

theorem Works.fits.modifyLine (h : w.fits i) (j : LineIx) {f : Line → Line}
    (hf : ∀ l, (f l).gauges = l.gauges) : (w.modifyLine j f).fits i := by
  refine h.of ?_ fun d hd _ => ⟨d, hd, rfl, rfl, rfl⟩
  rw [Works.line_modifyLine]
  split
  · next e => rw [e]; exact hf _
  · rfl

/-- A coil changes, and the zones of the current one stay within it. -/
theorem Works.fits.modifyCoil (h : w.fits i) (k : CoilKey) {f : Coil → Coil}
    (hf : ∀ c ∈ inUse w.coils, c.key = k → (f c).key = c.key ∧ (f c).start = c.start ∧
      (c.fits ((w.line i).position - c.start) → (f c).fits ((w.line i).position - c.start))) :
    (w.modifyCoil k f).fits i := by
  refine ⟨h.line, fun d hd hcur hlt => ?_⟩
  obtain ⟨c, hc, rfl⟩ := (mem_inUse_mapTable _ _ _).1 hd
  by_cases hk : c.key = k
  · obtain ⟨hkey, hstart, hfit⟩ := hf c hc hk
    rw [if_pos hk] at hcur ⊢
    rw [hstart]
    exact hfit (h.coil c hc (by rw [← hkey]; exact hcur) hlt)
  · rw [if_neg hk] at hcur ⊢
    exact h.coil c hc hcur hlt

theorem Works.tends.keyed (h : w.tends i v) (hk : w.keyed) : v.keyed := by
  obtain ⟨f, hf, hkeep⟩ := h.coils
  exact hk.map (fun t => t) f (h.lots.trans (mapTable_map_id _).symm) hf (fun _ _ => ⟨rfl, le_rfl⟩)
    fun c _ => (Coil.bones_fields (hkeep c).1).1

/-- Tending one line leaves the bounds of the others. -/
theorem Works.tends.fits_others (h : w.tends i v) (hw : w.tied isolated) (hj : j ≠ i)
    (hfit : w.fits j) : v.fits j := by
  obtain ⟨f, hf, hkeep⟩ := h.coils
  refine hfit.of (by rw [h.others j hj]) fun d hd hcur => ?_
  rw [hf] at hd
  obtain ⟨c, hc, rfl⟩ := (mem_inUse_mapTable _ _ _).1 hd
  obtain ⟨hbones, hsame⟩ := hkeep c
  rw [h.others j hj, (Coil.bones_fields hbones).1] at hcur
  rw [hsame fun e => hj (hw.owner hcur e.symm)]
  exact ⟨c, hc, rfl, rfl, rfl⟩

/-! ## The Grade Unit (R100 to R107) -/

theorem Zone.within.mono {z : Zone} {m n : Nat} (h : z.within m) (hle : m ≤ n) : z.within n :=
  ⟨h.1.trans hle, fun e he => (h.2 e he).trans hle⟩

theorem Coil.fits.mono {c : Coil} {m n : Nat} (h : c.fits m) (hle : m ≤ n) : c.fits n :=
  fun z hz => (h z hz).mono hle

theorem Coil.fits.zoneStart {c : Coil} {len pos : Nat} (h : c.fits len) (hpos : pos ≤ len)
    (q : Cause) : c.zoneStart q pos ≤ len := by
  have hfold : ∀ (zs : List Zone) (m : Nat), (∀ z ∈ zs, z.within len) → m ≤ len →
      zs.foldl (fun m z => max m (z.stop.getD 0)) m ≤ len := by
    intro zs
    induction zs with
    | nil => exact fun m _ hm => hm
    | cons z zs ih =>
      intro m hzs hm
      refine ih _ (fun y hy => hzs y (List.mem_cons_of_mem _ hy)) (max_le hm ?_)
      cases hs : z.stop with
      | none => exact Nat.zero_le _
      | some e => exact (hzs z (List.mem_cons_self ..)).2 e hs
  exact hfold _ pos (fun z hz => h z (List.mem_filter.1 hz).1) hpos

theorem Coil.fits.placeZone {c : Coil} {len : Nat} (h : c.fits len) {z : Zone} (hz : z.within len) :
    (c.placeZone z).fits len := fun y hy => by
  rcases (c.placeZone_fields z).1 y hy with rfl | hy
  · exact hz
  · exact h y hy

theorem Coil.fits.openZone {c : Coil} {len pos : Nat} (h : c.fits len) (hpos : pos ≤ len) (q : Cause)
    (x : Int) : (c.openZone q pos x).fits len := by
  have hz : (c.placeZone ⟨q, c.zoneStart q pos, none, x⟩).fits len :=
    h.placeZone ⟨h.zoneStart hpos q, nofun⟩
  unfold Coil.openZone
  dsimp only
  split <;> exact hz

theorem Coil.fits.regraded {c : Coil} {len : Nat} (h : c.fits len) (n : Nat) :
    (c.regraded n).fits len := by
  rw [Coil.regraded_eq]
  exact h

theorem Coil.fits.map {c : Coil} {len : Nat} (h : c.fits len) {f : Zone → Zone}
    (hf : ∀ z, z.within len → (f z).within len) : Coil.fits { c with zones := c.zones.map f } len :=
  fun y hy => by
    obtain ⟨z, hz, rfl⟩ := List.mem_map.1 hy
    exact hf z (h z hz)

theorem Coil.fits.closeZone {c : Coil} {len pos : Nat} (h : c.fits len) (hpos : pos ≤ len) (q : Cause)
    (n : Nat) : (c.closeZone q pos n).fits len := by
  unfold Coil.closeZone
  split
  · refine Coil.fits.regraded (h.map fun z hz => ?_) n
    split
    · refine ⟨hz.1, fun e he => ?_⟩
      obtain rfl := Option.some.inj he
      exact max_le hpos hz.1
    · exact hz
  · exact h

/-- What a change of a coil leaves: where the coil lies. -/
theorem Coil.bones_start {c d : Coil} (h : d.bones = c.bones) : d.key = c.key ∧ d.start = c.start := by
  obtain ⟨hkey, -, -, -, -, hstart, -⟩ := Coil.bones_fields h
  exact ⟨hkey, hstart⟩

theorem Works.fits.openZone (h : w.fits i) {k : CoilKey} {pos : Nat}
    (hpos : ∀ c, w.coil? k = some c → pos ≤ (w.line i).position - c.start) (hk : w.keyed) (q : Cause)
    (x : Int) (notify : Bool) : (w.openZone k q pos x notify).fits i := by
  unfold Works.openZone
  split
  · exact h
  · split
    · exact h
    · have hopen : (w.modifyCoil k fun c =>
          (c.openZone q pos x).regraded (w.coilLength c)).fits i :=
        h.modifyCoil k fun c hc hkey => by
          obtain ⟨h1, h2⟩ := Coil.bones_start
            ((Coil.regraded_bones _ (w.coilLength c)).trans (c.openZone_bones q pos x))
          exact ⟨h1, h2, fun hf =>
            (hf.openZone (hpos c (hkey ▸ hk.coil?_eq hc)) q x).regraded _⟩
      dsimp only
      split
      · exact hopen.of_lines rfl rfl
      · exact hopen

theorem Works.fits.requestOpen (h : w.fits i) (hk : w.keyed) {pos : Nat}
    (hpos : w.currentCoil? i ≠ none → pos ≤ (w.line i).position) (q : Cause) (x : Int) :
    (w.requestOpen i q pos x).fits i := by
  unfold Works.requestOpen
  split
  · exact h.modifyLine i fun _ => rfl
  · next c hc =>
    refine h.openZone (fun d hd => ?_) hk q x true
    obtain rfl := Option.some.inj (hd.symm.trans (Works.currentCoil?_key hc).2)
    exact Nat.sub_le_sub_right (hpos (by rw [hc]; nofun)) _

theorem Works.fits.requestClose (h : w.fits i) {pos : Nat}
    (hpos : w.currentCoil? i ≠ none → pos ≤ (w.line i).position) (q : Cause) :
    (w.requestClose i q pos).fits i := by
  unfold Works.requestClose
  split
  · exact h
  · next c hc =>
    refine h.modifyCoil c.key fun d _ _ => ?_
    obtain ⟨h1, h2⟩ := Coil.bones_start (d.closeZone_bones q (pos - d.start) (w.coilLength d))
    exact ⟨h1, h2, fun hf => hf.closeZone (Nat.sub_le_sub_right (hpos (by rw [hc]; nofun)) _) q _⟩

theorem Works.fits.raiseExtreme (h : w.fits i) (q : Cause) (x : Int) :
    (w.raiseExtreme i q x).fits i := by
  unfold Works.raiseExtreme
  split
  · exact h
  · exact h.modifyCoil _ fun d _ _ => ⟨rfl, rfl, fun hf => hf.map fun z hz => by split <;> exact hz⟩

/-- The position that a request names lies behind a run position. -/
def ZoneRequest.upTo (pos : Nat) : ZoneRequest → Prop
  | .openAt _ p _ | .closeAt _ p => p ≤ pos
  | .raise .. => True

theorem Works.fits.ask (h : w.fits i) (hk : w.keyed) {r : ZoneRequest}
    (hr : r.upTo (w.line i).position) : (w.ask i r).fits i := by
  cases r with
  | openAt q p x => exact h.requestOpen hk (fun _ => hr) q x
  | closeAt q p => exact h.requestClose (fun _ => hr) q
  | raise q x => exact h.raiseExtreme q x

theorem Works.fits.askAll (as : List ZoneRequest) : ∀ {w : Works}, w.fits i → w.keyed →
    (∀ r ∈ as, r.upTo (w.line i).position) → (w.askAll i as).fits i := by
  induction as with
  | nil => exact fun h _ _ => h
  | cons r as ih =>
    intro w h hk has
    have ht := w.ask_tends i r
    refine ih (h.ask hk (has r (List.mem_cons_self ..))) (ht.keyed hk) fun q hq => ?_
    rw [ht.position]
    exact has q (List.mem_cons_of_mem _ hq)

theorem Works.fits.regrade (h : w.fits i) (k : CoilKey) : (w.regrade k).fits i :=
  h.modifyCoil k fun c _ _ =>
    have hb := Coil.bones_start (c.regraded_bones (w.coilLength c))
    ⟨hb.1, hb.2, fun hf => hf.regraded _⟩

theorem Works.fits.gainReason (h : w.fits i) (k : CoilKey) (r : Reason) : (w.gainReason k r).fits i :=
  h.modifyCoil k fun c _ _ => by
    split
    · exact ⟨rfl, rfl, id⟩
    · have hb := Coil.bones_start ((Coil.regraded_bones _ (w.coilLength c)).trans (c.withReason_bones r))
      refine ⟨hb.1, hb.2, fun hf => Coil.fits.regraded ?_ _⟩
      rw [Coil.withReason_eq]
      exact hf

theorem Works.fits.closeJoint (h : w.fits i) : (w.closeJoint i).fits i := by
  unfold Works.closeJoint
  split
  · exact h
  · split
    · next hle => exact (h.requestClose (fun _ => hle) .joint).modifyLine i fun _ => rfl
    · exact h

theorem Coil.countJoint_zones (c : Coil) : c.countJoint.zones = c.zones := by
  unfold Coil.countJoint
  dsimp only
  split
  · rw [Coil.withReason_eq]
  · rfl

theorem Works.fits.markJoint (h : w.fits i) (hk : w.keyed) {pos : Nat}
    (hpos : w.currentCoil? i ≠ none → pos ≤ (w.line i).position) : (w.markJoint i pos).fits i := by
  unfold Works.markJoint
  split
  · exact h.modifyLine i fun _ => rfl
  · next c hc =>
    have hle := hpos (by rw [hc]; nofun)
    have hcount : (w.modifyCoil c.key Coil.countJoint).fits i := h.modifyCoil c.key fun d _ _ => by
      have hb := Coil.bones_start d.countJoint_bones
      refine ⟨hb.1, hb.2, fun hf => ?_⟩
      unfold Coil.fits
      rw [d.countJoint_zones]
      exact hf
    have hck : (w.modifyCoil c.key Coil.countJoint).keyed :=
      (Works.tends.of_modifyCoil w Coil.countJoint (Works.currentCoil?_key hc).1
        Coil.countJoint_bones).keyed hk
    have hcc := Works.coil?_modifyCoil_self w c.key Coil.countJoint c
      (fun d => (Coil.bones_start d.countJoint_bones).1) (Works.currentCoil?_key hc).2
    refine Works.fits.closeJoint (Works.fits.regrade ?_ c.key)
    split
    · refine Works.fits.modifyLine (hcount.modifyCoil c.key (f := Coil.mergeJoint) fun d _ _ =>
        ⟨rfl, rfl, fun hf => hf.map fun z hz => ?_⟩) i fun _ => rfl
      split <;> exact hz
    · refine Works.fits.modifyLine (hcount.openZone (fun d hd => ?_) hck _ _ _) i fun _ => rfl
      obtain rfl := Option.some.inj (hd.symm.trans hcc)
      rw [(Coil.bones_start c.countJoint_bones).2]
      exact (Nat.sub_le _ _).trans (Nat.sub_le_sub_right hle _)

theorem Works.fits.applyMark (h : w.fits i) (hk : w.keyed) {pos : Nat}
    (hpos : w.currentCoil? i ≠ none → pos ≤ (w.line i).position) (kind : MarkKind) :
    (w.applyMark i pos kind).fits i := by
  cases kind with
  | joint => exact h.markJoint hk hpos
  | flawStart => exact h.requestOpen hk hpos _ _
  | flawEnd => exact h.requestClose hpos _

theorem Works.fits.openCarried (carry : List (Cause × Int)) {k : CoilKey} : ∀ {w : Works}, w.fits i →
    w.keyed → (w.line i).coil = some k → (w.openCarried k carry).fits i := by
  induction carry with
  | nil => exact fun h _ _ => h
  | cons q rest ih =>
    intro w h hk hcur
    have ht := w.openZone_tends i hcur q.1 0 q.2 false
    exact ih (h.openZone (fun _ _ => Nat.zero_le _) hk q.1 q.2 false) (ht.keyed hk) (ht.coil.trans hcur)

theorem Works.fits.reopenZones (h : w.fits i) (hk : w.keyed) :
    (w.reopenZones i (w.line i).position).fits i := by
  have hopen : ∀ (v : Works) (b : Bool) (q : Cause) (x : Int), v.fits i → v.keyed →
      (v.line i).position = (w.line i).position →
      let u := if b then v.requestOpen i q (w.line i).position x else v
      u.fits i ∧ u.keyed ∧ (u.line i).position = (w.line i).position := by
    intro v b q x hv hvk hpos
    dsimp only
    split
    · have ht := v.requestOpen_tends i q (w.line i).position x
      exact ⟨hv.requestOpen hvk (fun _ => hpos.ge) q x, ht.keyed hvk, ht.position.trans hpos⟩
    · exact ⟨hv, hvk, hpos⟩
  obtain ⟨h1, k1, p1⟩ := hopen w _ .twist (w.line i).twist.extreme h hk rfl
  obtain ⟨h2, k2, p2⟩ := hopen _ _ .knot (w.line i).knot.extreme h1 k1 p1
  exact (hopen _ _ .slip 0 h2 k2 p2).1

end

end Sys2Proof.Machine
end

section
namespace Sys2Proof.Machine

/-! # Tallies and marks keep zones within their coil (R41, R46 to R51) -/

/-- R102: every line's bounds stand. -/
def Works.within (w : Works) : Prop := ∀ i, w.fits i

/-! ## The requests of the monitors (R66 to R70, R89 to R91, R44, R45) -/

/-- The positions that requests name lie behind a run position. -/
def ZoneRequest.allUpTo (as : List ZoneRequest) (pos : Nat) : Prop := ∀ r ∈ as, r.upTo pos

theorem ZoneRequest.allUpTo.nil (pos : Nat) : ZoneRequest.allUpTo [] pos := fun _ h => nomatch h

theorem ZoneRequest.allUpTo.one {r : ZoneRequest} {pos : Nat} (h : r.upTo pos) :
    ZoneRequest.allUpTo [r] pos := fun _ hq => List.mem_singleton.1 hq ▸ h

/-- The positions that a Twist Monitor holds lie behind a run position. -/
def TwistMonitor.behind (m : TwistMonitor) (pos : Nat) : Prop :=
  m.suspectStart ≤ pos ∧ m.recoveryStart ≤ pos

/-- The positions that a Knot Monitor holds lie behind a run position. -/
def KnotMonitor.behind (m : KnotMonitor) (pos : Nat) : Prop := m.faultStart ≤ pos ∧ m.soundStart ≤ pos

/-- The positions that a slip detector holds lie behind a run position. -/
def SlipDetector.behind (m : SlipDetector) (pos : Nat) : Prop := m.slipStart ≤ pos ∧ m.cleanStart ≤ pos

section
variable {pos pre : Nat}

theorem TwistMonitor.behind.testSuspect {m : TwistMonitor} (h : m.behind pos) (n p : Nat) :
    (m.testSuspect n p).1.behind pos ∧ ZoneRequest.allUpTo (m.testSuspect n p).2.asks pos := by
  unfold TwistMonitor.testSuspect
  split
  · exact ⟨h, .one (r := .openAt _ _ _) h.1⟩
  · exact ⟨h, .nil pos⟩

theorem TwistMonitor.behind.testRecovery {m : TwistMonitor} (h : m.behind pos) (n p : Nat) :
    (m.testRecovery n p).1.behind pos ∧ ZoneRequest.allUpTo (m.testRecovery n p).2.asks pos := by
  unfold TwistMonitor.testRecovery
  split
  · exact ⟨h, .one (r := .closeAt _ _) h.2⟩
  · exact ⟨h, .nil pos⟩

theorem TwistMonitor.behind.stayOut {m : TwistMonitor} (h : m.behind pos) (dev : Int) :
    (m.stayOut dev).1.behind pos ∧ ZoneRequest.allUpTo (m.stayOut dev).2.asks pos := by
  unfold TwistMonitor.stayOut
  refine ⟨h, ?_⟩
  dsimp only
  split
  · exact .one (r := .raise _ _) trivial
  · exact .nil pos

theorem TwistMonitor.behind.judge {m : TwistMonitor} (h : m.behind pos) (hpre : pre ≤ pos) (sp : Spec)
    (v : Verdict) (dev : Int) (p : Nat) :
    (m.judge sp v dev pre p).1.behind pos ∧ ZoneRequest.allUpTo (m.judge sp v dev pre p).2.asks pos := by
  have hsuspect : (m.enterSuspect dev pre).behind pos := ⟨hpre, h.2⟩
  unfold TwistMonitor.judge
  split
  · exact ⟨h, .nil pos⟩
  · exact ⟨h, .nil pos⟩
  · exact hsuspect.testSuspect _ _
  · exact hsuspect.testSuspect _ _
  · exact ⟨h, .nil pos⟩
  · exact TwistMonitor.behind.testSuspect (m := { m with extreme := furtherExtreme m.extreme dev }) h _ _
  · exact TwistMonitor.behind.testRecovery
      (m := { m with band := .recovering, recoveryStart := pre }) ⟨h.1, hpre⟩ _ _
  · exact h.stayOut dev
  · exact h.testRecovery _ _
  · exact h.stayOut dev

theorem TwistMonitor.behind.tally {m : TwistMonitor} (h : m.behind pos) (hpre : pre ≤ pos) (sp : Spec)
    (dl dq p : Nat) :
    (m.tally sp dl dq pre p).1.behind pos ∧ ZoneRequest.allUpTo (m.tally sp dl dq pre p).2.asks pos := by
  unfold TwistMonitor.tally
  dsimp only
  split
  · exact ⟨h, .nil pos⟩
  · next t _ =>
    exact TwistMonitor.behind.judge (m := { m with
      window := spanDrop sp.twistSpan (takeSegment m.window dl dq), lastValue := t }) h hpre _ _ _ _

theorem KnotMonitor.behind.row {m : KnotMonitor} (h : m.behind pos) (sp : Spec) {r : Row}
    (hr : r.start ≤ pos) :
    (m.row sp r).1.behind pos ∧ ZoneRequest.allUpTo (m.row sp r).2.asks pos := by
  have hfault : (m.faultRow r.start).behind pos := by
    refine ⟨?_, h.2⟩
    show (if m.faultRun = 0 then r.start else m.faultStart) ≤ pos
    split
    · exact hr
    · exact h.1
  have hsound : (m.soundRow r.start).behind pos := by
    refine ⟨h.1, ?_⟩
    show (if m.soundRun = 0 then r.start else m.soundStart) ≤ pos
    split
    · exact hr
    · exact h.2
  unfold KnotMonitor.row
  split
  · split
    · unfold KnotMonitor.faultWhileFaulted
      dsimp only
      split
      · split
        · exact ⟨hfault, .one (r := .raise _ _) trivial⟩
        · exact ⟨hfault, .nil pos⟩
      · exact ⟨hfault, .nil pos⟩
    · unfold KnotMonitor.faultWhileSound
      dsimp only
      split
      · exact ⟨hfault, .one (r := .openAt _ _ _) hfault.1⟩
      · exact ⟨hfault, .nil pos⟩
  · split
    · unfold KnotMonitor.soundWhileFaulted
      dsimp only
      split
      · exact ⟨hsound, .one (r := .closeAt _ _) hsound.2⟩
      · exact ⟨hsound, .nil pos⟩
    · exact ⟨hsound, .nil pos⟩

theorem SlipDetector.behind.slipTally {m : SlipDetector} (h : m.behind pos) (hpre : pre ≤ pos)
    (dis : Nat) :
    (m.slipTally pre dis).1.behind pos ∧ ZoneRequest.allUpTo (m.slipTally pre dis).2.asks pos := by
  unfold SlipDetector.slipTally
  split
  · exact ⟨h, .one (r := .raise _ _) trivial⟩
  · split
    · exact ⟨⟨hpre, h.2⟩, .nil pos⟩
    · exact ⟨h, .nil pos⟩
    · exact ⟨h, .one (r := .openAt _ _ _) h.1⟩

theorem SlipDetector.behind.cleanTally {m : SlipDetector} (h : m.behind pos) (hpre : pre ≤ pos) :
    (m.cleanTally pre).1.behind pos ∧ ZoneRequest.allUpTo (m.cleanTally pre).2.asks pos := by
  unfold SlipDetector.cleanTally
  split
  · split
    · exact ⟨⟨h.1, hpre⟩, .nil pos⟩
    · exact ⟨h, .nil pos⟩
    · exact ⟨h, .one (r := .closeAt _ _) h.2⟩
  · exact ⟨h, .nil pos⟩

end

section
variable {w v u : Works} {isolated : LineIx → Bool} {i j : LineIx}

theorem Works.within.tends (h : w.within) (hw : w.tied isolated) (ht : w.tends i v) (hi : v.fits i) :
    v.within := fun j => by
  by_cases hj : j = i
  · exact hj ▸ hi
  · exact ht.fits_others hw hj (h j)

/-! ## The credit -/

/-- A detector moves; the run position is not at its limit. -/
theorem Works.fits.setLine (h : w.fits i) {f : Line → Line} (hcoil : (f (w.line i)).coil = (w.line i).coil)
    (hpos : (f (w.line i)).position = (w.line i).position) (hf : (f (w.line i)).fits) :
    (w.modifyLine i f).fits i := by
  have hline := Works.line_modifyLine_self w i f
  refine ⟨by rw [hline]; exact hf, fun c hc hcur hlt => ?_⟩
  rw [hline, hcoil] at hcur
  rw [hline, hpos] at hlt ⊢
  exact h.coil c hc hcur hlt

/-- The bounds of a line whose run position is below its limit. -/
theorem Line.fits.of_behind {l : Line} (rows : l.kind = .knot → l.measure = .rows)
    (twist : l.kind = .twist → l.twist.behind l.position)
    (knot : l.kind = .knot → l.knot.behind l.position) (slip : l.slip.behind l.position) : l.fits :=
  ⟨rows, fun hk _ => twist hk, fun hk _ => knot hk, fun _ => slip⟩

/-- At the limit of run positions only the measure source is bound. -/
theorem Works.tends.fits_saturated (h : w.tends i v) (hw : w.fits i)
    (hpos : ¬ (w.line i).position < Config.positionLimit) : v.fits i := by
  have hline := h.line
  have hkind : (v.line i).kind = (w.line i).kind := (congrArg Line.kind hline :)
  have hmeasure : (v.line i).measure = (w.line i).measure := (congrArg Line.measure hline :)
  have hno : ¬ (v.line i).position < Config.positionLimit := by rwa [h.position]
  exact ⟨⟨by rw [hkind, hmeasure]; exact hw.line.rows, fun _ e => absurd e hno,
    fun _ e => absurd e hno, fun e => absurd e hno⟩, fun _ _ _ e => absurd e hno⟩

theorem Works.fits.twistTally (h : w.fits i) (hk : w.keyed) (hkind : (w.line i).kind = .twist)
    (hlt : (w.line i).position < Config.positionLimit) {pre : Nat} (hpre : pre ≤ (w.line i).position)
    (dl dq : Nat) : (w.twistTally i dl dq pre).fits i := by
  obtain ⟨hm, hasks⟩ := TwistMonitor.behind.tally (h.line.twist hkind hlt) hpre (w.line i).spec dl dq
    (w.line i).position
  unfold Works.twistTally
  dsimp only
  rw [Works.applyTwist_eq]
  have hset : (w.modifyLine i fun l => { l with twist := ((w.line i).twist.tally (w.line i).spec dl dq
      pre (w.line i).position).1 }).fits i :=
    h.setLine rfl rfl (.of_behind h.line.rows (fun _ => hm) (fun e => nomatch hkind.symm.trans e)
      (h.line.slip hlt))
  refine hset.askAll _ (hk.of_eq rfl rfl) ?_
  rw [Works.line_modifyLine_self]
  exact hasks

theorem Works.fits.knotRow (h : w.fits i) (hk : w.keyed) (hkind : (w.line i).kind = .knot)
    (hlt : (w.line i).position < Config.positionLimit) {r : Row} (hr : r.start ≤ (w.line i).position) :
    (w.knotRow i r).fits i := by
  obtain ⟨hm, hasks⟩ := KnotMonitor.behind.row (h.line.knot hkind hlt) (w.line i).spec hr
  unfold Works.knotRow
  dsimp only
  rw [Works.applyKnot_eq]
  have hset : (w.modifyLine i fun l =>
      { l with knot := ((w.line i).knot.row (w.line i).spec r).1 }).fits i :=
    h.setLine rfl rfl (.of_behind h.line.rows (fun e => nomatch hkind.symm.trans e) (fun _ => hm)
      (h.line.slip hlt))
  refine hset.askAll _ (hk.of_eq rfl rfl) ?_
  rw [Works.line_modifyLine_self]
  exact hasks

theorem Works.fits.knotRows (rs : List Row) : ∀ {w : Works}, w.fits i → w.keyed →
    (w.line i).kind = .knot → (w.line i).position < Config.positionLimit →
    (∀ r ∈ rs, r.start ≤ (w.line i).position) → (rs.foldl (fun w r => w.knotRow i r) w).fits i := by
  induction rs with
  | nil => exact fun h _ _ _ _ => h
  | cons r rs ih =>
    intro w h hk hkind hlt hrs
    have ht := w.knotRow_tends i r
    have hkind' : ((w.knotRow i r).line i).kind = (w.line i).kind := (congrArg Line.kind ht.line :)
    refine ih (h.knotRow hk hkind hlt (hrs r (List.mem_cons_self ..))) (ht.keyed hk)
      (hkind'.trans hkind) (ht.position ▸ hlt) fun q hq => ?_
    rw [ht.position]
    exact hrs q (List.mem_cons_of_mem _ hq)

theorem Works.fits.countRows (h : w.fits i) (rs : List Row) : (w.countRows i rs).fits i := by
  unfold Works.countRows
  split
  · exact h.modifyCoil _ fun _ _ _ => ⟨rfl, rfl, id⟩
  · exact h.modifyLine i fun _ => rfl

theorem Works.fits.knotTally (h : w.fits i) (hk : w.keyed) (hkind : (w.line i).kind = .knot)
    (hlt : (w.line i).position < Config.positionLimit) {pre rows : Nat}
    (hrows : ∀ n < rows, rowStart pre (w.line i).spec.rowPitch (n + 1) ≤ (w.line i).position)
    (es : List FaultEntry) (overflow : Bool) : (w.knotTally i rows es overflow pre).fits i := by
  unfold Works.knotTally
  dsimp only
  obtain ⟨v, hv⟩ : ∃ v, (w.modifyLine i fun l => { l with
      staleEntries := countUp l.staleEntries (staleCount (w.line i).baselines.rows rows es) }) = v :=
    ⟨_, rfl⟩
  have h1 : v.fits i := by rw [← hv]; exact h.modifyLine i fun _ => rfl
  have t1 : w.tends i v := by rw [← hv]; exact .of_modifyLine w i _ rfl
  rw [hv]
  have t2 := t1.trans (v.countRows_tends i
    (classifyRows (w.line i).spec (w.line i).baselines.rows rows es overflow pre))
  refine (h1.countRows _).knotRows _ (t2.keyed hk) ((congrArg Line.kind t2.line :).trans hkind)
    (t2.position ▸ hlt) fun r hr => ?_
  obtain ⟨n, hn, rfl⟩ := List.mem_map.1 hr
  rw [t2.position]
  exact hrows n (List.mem_range.1 hn)

theorem Works.fits.monitorTally (h : w.fits i) (hk : w.keyed)
    (hlt : (w.line i).position < Config.positionLimit) {pre : Nat} (hpre : pre ≤ (w.line i).position)
    (measure : Nat) (d : Counts) (f : CountFrame)
    (hrows : (w.line i).kind = .knot → ∀ n < d.rows.toNat,
      rowStart pre (w.line i).spec.rowPitch (n + 1) ≤ (w.line i).position) :
    (w.monitorTally i measure d f pre).fits i := by
  unfold Works.monitorTally
  split
  · next hkind => exact h.twistTally hk hkind hlt hpre _ _
  · next hkind => exact h.knotTally hk hkind hlt (hrows hkind) _ _
  · exact h

theorem Works.fits.applySlip (h : w.fits i) (hk : w.keyed) {r : SlipRequest}
    (hr : ZoneRequest.allUpTo r.asks (w.line i).position) : (w.applySlip i r).fits i := by
  cases r with
  | nothing => exact h
  | openAt p x =>
    exact (h.requestOpen hk (fun _ => hr (.openAt .slip p x) (List.mem_singleton.2 rfl)) _ _).of_lines
      rfl rfl
  | closeAt p => exact h.requestClose (fun _ => hr (.closeAt .slip p) (List.mem_singleton.2 rfl)) _
  | raise x => exact h.raiseExtreme _ _

theorem Works.fits.setSlip (h : w.fits i) (hk : w.keyed)
    (hlt : (w.line i).position < Config.positionLimit) {x : SlipDetector × SlipRequest}
    (hx : x.1.behind (w.line i).position ∧ ZoneRequest.allUpTo x.2.asks (w.line i).position) :
    ((w.modifyLine i fun l => { l with slip := x.1 }).applySlip i x.2).fits i := by
  have hset : (w.modifyLine i fun l => { l with slip := x.1 }).fits i :=
    h.setLine rfl rfl (.of_behind h.line.rows (fun e => h.line.twist e hlt)
      (fun e => h.line.knot e hlt) hx.1)
  refine hset.applySlip (hk.of_eq rfl rfl) ?_
  rw [Works.line_modifyLine_self]
  exact hx.2

theorem Works.fits.countSlip (h : w.fits i) : (w.countSlip i).fits i := by
  have hline : (w.modifyLine i fun l => { l with slipTallies := countUp l.slipTallies 1 }).fits i :=
    h.modifyLine i fun _ => rfl
  unfold Works.countSlip
  dsimp only
  split
  · exact hline
  · exact hline.modifyCoil _ fun _ _ _ => ⟨rfl, rfl, id⟩

theorem Works.fits.slipCheck (h : w.fits i) (hk : w.keyed)
    (hlt : (w.line i).position < Config.positionLimit) {pre : Nat} (hpre : pre ≤ (w.line i).position)
    (permille measure : Nat) (check : Option Nat) :
    (w.slipCheck permille i measure check pre).fits i := by
  unfold Works.slipCheck
  split
  · exact h
  · split
    · exact h
    · have ht := w.countSlip_tends i
      have hlt' := ht.position ▸ hlt
      exact h.countSlip.setSlip (ht.keyed hk) hlt'
        (SlipDetector.behind.slipTally (h.countSlip.line.slip hlt') (ht.position ▸ hpre) _)
    · exact h.setSlip hk hlt (SlipDetector.behind.cleanTally (h.line.slip hlt) hpre)

theorem Works.fits.gradeTally (h : w.fits i) : (w.gradeTally i).fits i := by
  unfold Works.gradeTally
  dsimp only
  split
  · exact h.closeJoint
  · exact h.closeJoint.regrade _

/-! ## The planned-cut test, resync and first baselines -/

theorem Works.fits.overlengthTest (h : w.fits j) (i : LineIx) : (w.overlengthTest i).fits j := by
  rcases Works.overlengthTest_cases w i with e | ⟨c, -, -, e⟩ <;> rw [e]
  · exact h
  · exact (h.modifyLine i (f := fun l => { l with halted := true }) fun _ => rfl).gainReason _ _

theorem Works.fits.orderCut (h : w.fits j) (i : LineIx) (r : Option PackerIx) (start : Nat) :
    (w.orderCut i r start).fits j := h.modifyLine i fun _ => rfl

theorem Works.fits.plannedCutTest (h : w.fits j) (i : LineIx) : (w.plannedCutTest i).fits j := by
  rcases Works.plannedCutTest_cases w i with e | ⟨c, -, -, ⟨-, e⟩ | ⟨-, e⟩⟩ <;> rw [e]
  · exact h
  · exact h.overlengthTest i
  · rcases Works.requestCut_cases w i c.start with ⟨-, k⟩ | ⟨p, -, ⟨-, k⟩ | ⟨-, k⟩⟩ <;> rw [k]
    · exact h.orderCut i none c.start
    · exact h.orderCut i (some p) c.start
    · have hheld := h.modifyLine i (f := fun l => { l with cut := .held, reserved := some p })
        fun _ => rfl
      have hjoined : ((w.modifyLine i fun l => { l with cut := .held, reserved := some p }).joinHeld p
          i).fits j := hheld.of_lines rfl rfl
      exact hjoined.overlengthTest i

theorem Works.fits.takeBaselines (h : w.fits j) (i : LineIx) (counts : Counts) :
    (w.takeBaselines i counts).fits j :=
  (h.modifyLine i (f := fun l =>
    { l with baselines := counts, baselinesValid := true, state := .running }) fun _ => rfl).plannedCutTest i

theorem Works.fits.closeMonitorZones (h : w.fits i) : (w.closeMonitorZones i).fits i := by
  have t1 := w.requestClose_tends i .twist (w.line i).position
  have t2 := t1.trans (Works.requestClose_tends _ i .knot (w.line i).position)
  exact ((h.requestClose (fun _ => le_rfl) .twist).requestClose (fun _ => t1.position.ge)
    .knot).requestClose (fun _ => t2.position.ge) .slip

theorem Line.fits.resynced {l : Line} (h : l.fits) (counts : Counts) : (l.resynced counts).fits := by
  rw [Line.resynced_eq]
  refine ⟨h.rows, fun hk hlt => ?_, fun hk hlt => ?_, h.slip⟩
  · have hk : l.kind = .twist := hk
    dsimp only
    rw [if_pos hk]
    exact ⟨Nat.zero_le _, Nat.zero_le _⟩
  · have hk : l.kind = .knot := hk
    dsimp only
    rw [if_pos hk]
    exact ⟨Nat.zero_le _, Nat.zero_le _⟩

theorem Works.fits.resync (h : w.fits i) (counts : Counts) : (w.resync i counts).fits i := by
  have hset : (w.modifyLine i fun l => l.resynced counts).fits i :=
    h.setLine (by rw [Line.resynced_eq]) (by rw [Line.resynced_eq]) (h.line.resynced counts)
  have hmark : ((w.modifyLine i fun l => l.resynced counts).markUncertain i).fits i := by
    unfold Works.markUncertain
    split
    · exact hset
    · exact hset.gainReason _ _
  exact Works.fits.closeMonitorZones (hmark.of_lines rfl rfl)

theorem Works.within.resync (h : w.within) (hw : w.tied isolated) (i : LineIx) (counts : Counts) :
    (w.resync i counts).within :=
  h.tends hw (w.resync_tends i counts) ((h i).resync counts)

/-! ## A credited tally -/

theorem Works.fits.giveCredit (h : w.fits i) (hp : (w.line i).position ≤ Config.positionLimit)
    (counts : Counts) : (w.giveCredit i counts).fits i := by
  obtain ⟨hlines, hcoils⟩ := w.giveCredit_kept i counts
  have hline := Works.line_of_lines (u := w) (f := fun l => l.credited counts) hlines
  have hrise : (w.line i).position ≤ ((w.line i).credited counts).position :=
    Nat.le_min.2 ⟨hp, Nat.le_add_right _ _⟩
  have hfit := h.line
  constructor
  · rw [hline]
    refine ⟨hfit.rows, fun hk hlt => ?_, fun hk hlt => ?_, fun hlt => ?_⟩
    · exact (hfit.twist hk (hrise.trans_lt hlt)).imp (·.trans hrise) (·.trans hrise)
    · exact (hfit.knot hk (hrise.trans_lt hlt)).imp (·.trans hrise) (·.trans hrise)
    · exact (hfit.slip (hrise.trans_lt hlt)).imp (·.trans hrise) (·.trans hrise)
  · rw [hline, hcoils]
    intro c hc hcur hlt
    exact (h.coil c hc hcur (hrise.trans_lt hlt)).mono (Nat.sub_le_sub_right hrise _)

/-- R38, R88: every row of a credited tally starts behind the run position. -/
theorem Line.credited_rows {l : Line} (hrows : l.measure = .rows) (counts : Counts)
    (hlt : (l.credited counts).position < Config.positionLimit) {n : Nat}
    (hn : n < (counts.minus l.baselines).rows.toNat) :
    rowStart l.position l.spec.rowPitch (n + 1) ≤ (l.credited counts).position := by
  have hlim : Config.positionLimit = 281474976710655 := rfl
  have hpos : (l.credited counts).position = min 281474976710655 (l.position +
      ((counts.minus l.baselines).rows.toNat * (l.spec.rowPitch * 100) + l.remainder) / 1000) := by
    unfold Line.credited Line.measureLength Line.measureUnit
    rw [hrows]
    rfl
  have hmul : n * l.spec.rowPitch ≤ (counts.minus l.baselines).rows.toNat * l.spec.rowPitch :=
    Nat.mul_le_mul_right _ hn.le
  rw [← Nat.mul_assoc] at hpos
  unfold rowStart
  rw [Nat.add_sub_cancel]
  omega

theorem Works.fits.creditTally (h : w.fits i) (hk : w.keyed)
    (hp : (w.line i).position ≤ Config.positionLimit) (permille : Nat) (f : CountFrame) :
    (w.creditTally permille i f).fits i := by
  obtain ⟨hlines, -⟩ := w.giveCredit_kept i f.counts
  have hline := Works.line_of_lines (u := w) (f := fun l => l.credited f.counts) hlines
  have hcredit := h.giveCredit hp f.counts
  have hck := (w.giveCredit_evolves i f.counts).keyed hk
  have hrise : (w.line i).position ≤ ((w.line i).credited f.counts).position :=
    Nat.le_min.2 ⟨hp, Nat.le_add_right _ _⟩
  unfold Works.creditTally
  dsimp only
  obtain ⟨u, hu⟩ : ∃ u, w.giveCredit i f.counts = u := ⟨_, rfl⟩
  rw [hu] at hline hcredit hck ⊢
  refine Works.fits.plannedCutTest ?_ i
  by_cases hlt : (u.line i).position < Config.positionLimit
  · have hpre : (w.line i).position ≤ (u.line i).position := by rw [hline]; exact hrise
    have hmon := hcredit.monitorTally hck hlt hpre
      ((w.line i).measureLength (f.counts.minus (w.line i).baselines))
      (f.counts.minus (w.line i).baselines) f fun hkind n hn => by
        rw [hline] at hkind hlt ⊢
        exact Line.credited_rows (h.line.rows hkind) f.counts hlt hn
    have ht := u.monitorTally_tends i
      ((w.line i).measureLength (f.counts.minus (w.line i).baselines))
      (f.counts.minus (w.line i).baselines) f (w.line i).position
    exact (hmon.slipCheck (ht.keyed hck) (ht.position ▸ hlt) (ht.position ▸ hpre) _ _ _).gradeTally
  · exact (u.checked_tends i _ _ _ _ _ _).fits_saturated hcredit hlt

theorem Works.within.creditTally (h : w.within) (hw : w.tied isolated) (hk : w.keyed)
    (hs : (w.line i).state ≠ .primed) (hp : (w.line i).position ≤ Config.positionLimit)
    (permille : Nat) (f : CountFrame) : (w.creditTally permille i f).within := fun j => by
  by_cases hj : j = i
  · exact hj ▸ (h i).creditTally hk hp permille f
  · obtain ⟨hlines, hcoils⟩ := w.giveCredit_kept i f.counts
    have hcredit : (w.giveCredit i f.counts).fits j := (h j).of
      (by rw [Works.line_of_lines_other (u := w) (f := fun l => l.credited f.counts) hlines hj])
      fun d hd _ => ⟨d, hcoils ▸ hd, rfl, rfl, rfl⟩
    have hct := (w.giveCredit_minds i f.counts hs hp).tied hw
    refine Works.fits.plannedCutTest ?_ i
    exact (Works.checked_tends (w.giveCredit i f.counts) i _ _ _ _ _ _).fits_others hct hj hcredit

theorem Works.within.countTally (h : w.within) (hw : w.tied isolated) (hk : w.keyed)
    (hs : (w.line i).state ≠ .primed) (hp : (w.line i).position ≤ Config.positionLimit)
    (permille : Nat) (f : CountFrame) : (w.countTally permille i f).within := by
  unfold Works.countTally
  split
  · exact h.resync hw i f.counts
  · exact h.creditTally hw hk hs hp permille f

theorem Works.within.takeBaselines (h : w.within) (i : LineIx) (counts : Counts) :
    (w.takeBaselines i counts).within := fun j => (h j).takeBaselines i counts

theorem Works.within.tally (h : w.within) (hw : w.tied isolated) (hk : w.keyed)
    (hp : (w.line i).position ≤ Config.positionLimit) (permille : Nat) (f : CountFrame) :
    (w.tally permille i f).within := by
  unfold Works.tally
  split
  · exact h
  · exact h.takeBaselines i f.counts
  all_goals
    next hs => exact h.countTally hw hk (by rw [hs]; nofun) hp permille f

theorem Works.within.resolve (h : w.within) (hw : w.tied isolated) (hk : w.keyed)
    (hp : (w.line i).position ≤ Config.positionLimit) (permille : Nat) (f : CountFrame) :
    (w.resolve permille i f).1.within := by
  rcases Works.resolve_cases w permille i f with e | ⟨-, e⟩ | ⟨-, hs, e | e⟩ <;> rw [e]
  · exact h
  · exact h.takeBaselines i f.counts
  · exact h.resync hw i f.counts
  · exact h.countTally hw hk hs hp permille f

theorem Works.within.mark (h : w.within) (hw : w.tied isolated) (hk : w.keyed)
    (hp : (w.line i).position ≤ Config.positionLimit) (hr : (w.line i).remainder < 1000)
    (permille : Nat) (kind : MarkKind) (f : CountFrame) : (w.mark permille i kind f).within := by
  have hres := w.resolve_minds permille i f hp hw hk
  have hfit := h.resolve hw hk hp permille f
  have hbounds := w.resolve_bounds permille i f hw hk hp hr
  have hmark : (w.line i).state ≠ .idle →
      ((w.resolve permille i f).1.applyMark i (w.resolve permille i f).2 kind).within := fun hs =>
    hfit.tends (hres.tied hw) (Works.applyMark_tends _ i _ kind)
      ((hfit i).applyMark ((w.resolve_evolves permille i f).keyed hk) (fun hne => by
        obtain ⟨c, hc⟩ := Option.ne_none_iff_exists'.1 hne
        exact (hbounds hs c hc).2) kind)
  unfold Works.mark
  split
  · exact h
  all_goals
    next hs => exact hmark (by rw [hs]; nofun)

end

end Sys2Proof.Machine
end

section
namespace Sys2Proof.Machine

/-! # Every command and frame keeps zones within their coil (R102) -/

section
variable {w v u x y : Works} {isolated : LineIx → Bool} {live : Prop} {i j : LineIx} {c : Coil}

/-! ## Lines without a coil, and new coils -/

theorem Line.fits.of_uncoiled {l l' : Line} (h : l.fits)
    (e : Line.gauges { l' with coil := none } = Line.gauges { l with coil := none }) : l'.fits := by
  have h' := Line.fits.of (l := { l with coil := none }) (l' := { l' with coil := none })
    ⟨h.rows, h.twist, h.knot, h.slip⟩ e
  exact ⟨h'.rows, h'.twist, h'.knot, h'.slip⟩

/-- A line whose coil, if it has one, has no zones. -/
theorem Works.fits.of_empty (line : (v.line i).fits)
    (empty : ∀ d ∈ inUse v.coils, (v.line i).coil = some d.key → d.zones = []) : v.fits i :=
  ⟨line, fun d hd hcur _ z hz => by
    rw [empty d hd hcur] at hz
    exact nomatch hz⟩

theorem Works.fits.of_none (line : (v.line i).fits) (none : (v.line i).coil = none) : v.fits i :=
  .of_empty line fun _ _ hcur => nomatch none.symm.trans hcur

/-- Only the current coil of another line changes. -/
theorem Works.coilsBut.fits_others (h : w.coilsBut v c.key) (hv : v.keyed) (hw : w.tied isolated)
    (hc : w.currentCoil? i = some c) (hj : j ≠ i) (line : v.line j = w.line j) (hfit : w.fits j) :
    v.fits j := by
  refine hfit.of (by rw [line]) fun d hd hcur => ?_
  rw [line] at hcur
  have hne : d.key ≠ c.key := fun e =>
    hj (hw.owner hcur ((Works.currentCoil?_key hc).1.trans (congrArg some e.symm)))
  exact ⟨d, (Works.coil?_some _ _ _ ((h d.key hne).symm.trans (hv.coil?_eq hd))).1, rfl, rfl, rfl⟩

/-- Another line takes a coil. -/
theorem Works.takesCoil.fits_others {l : Line} {pos : Nat} {K : CoilKey} (h : y.takesCoil x i l pos K)
    (hj : j ≠ i) (held : ∀ k, (y.line j).coil = some k → ∃ d ∈ inUse y.coils, d.key = k)
    (hfit : y.fits j) : x.fits j := by
  refine hfit.of (by rw [h.others j hj]) fun d hd hcur => ?_
  rcases (h.mem d).1 hd with rfl | hd
  · rw [h.others j hj] at hcur
    obtain ⟨b, hb, hbk⟩ := held _ hcur
    exact absurd hbk (h.fresh b hb)
  · exact ⟨d, hd, rfl, rfl, rfl⟩

theorem Works.tied.held (hw : w.tied isolated) {k : CoilKey} (h : (w.line i).coil = some k) :
    ∃ d ∈ inUse w.coils, d.key = k := by
  obtain ⟨-, d, hd, -⟩ := (hw.lines i).current k h
  exact ⟨d, Works.coil?_some _ _ _ hd⟩

/-- The new coil has no zones. -/
theorem Works.takesCoil.fits {l : Line} {pos : Nat} {K : CoilKey} (h : y.takesCoil x i l pos K)
    (hl : l.fits) : x.fits i := by
  refine .of_empty (by rw [h.line]; exact hl.of_uncoiled rfl) fun d hd hcur => ?_
  rw [h.line] at hcur
  rcases (h.mem d).1 hd with rfl | hd
  · rfl
  · exact absurd (Option.some.inj hcur).symm (h.fresh d hd)

theorem Works.within.takesCoil {l : Line} {pos : Nat} {K : CoilKey} (h : w.within)
    (hw : w.tied isolated) (hx : w.takesCoil x i l pos K) (hl : l.fits) : x.within := fun j => by
  by_cases hj : j = i
  · exact hj ▸ hx.fits hl
  · exact hx.fits_others hj (fun _ => hw.held) (h j)

/-! ## Boundaries (R122 to R129) -/

theorem Works.fits.withdraw (h : w.fits j) (i : LineIx) : (w.withdraw i).fits j := by
  rcases Works.withdraw_cases w i with e | ⟨p, -, -, e⟩ <;> rw [e]
  · exact h
  · exact Works.fits.modifyLine (w := w.leaveHeld p i) (h.of_lines rfl rfl) i fun _ => rfl

theorem Works.fits.placeFreed (h : w.fits j) (p : PackerIx) : (w.placeFreed p).fits j := by
  rcases Works.placeFreed_cases w p with ⟨-, e⟩ | ⟨i, rest, -, e⟩ <;> rw [e]
  · exact h
  · exact Works.fits.orderCut (w := { w with held := w.held.set p rest }) (h.of_lines rfl rfl) i _ _

/-- R102: the line's next coil, or none, stands in the place of the one that ended. -/
theorem Works.cutTo.within {lot : Lot} {pos : Nat} (h : u.cutTo y i c lot pos) (hk : u.keyed)
    (hu : u.tied isolated) (hc : u.currentCoil? i = some c) (hfit : u.within) : y.within := fun j => by
  by_cases hj : j = i
  · subst hj
    exact .of_none ((hfit j).line.of_uncoiled (by rw [h.line]; rfl)) (by rw [h.line]; rfl)
  · obtain ⟨b, -, hothers, -⟩ := h.coil
    exact Works.coilsBut.fits_others hothers (h.keyed hk) hu hc hj (h.others j hj) (hfit j)

theorem Works.cutTo.keepsCurrent {lot : Lot} {pos : Nat} (h : u.cutTo y i c lot pos) (hu : u.tied isolated)
    {k : CoilKey} (hj : (y.line j).coil = some k) : ∃ d ∈ inUse y.coils, d.key = k := by
  obtain ⟨b, hb, hothers, -⟩ := h.coil
  have hji : j ≠ i := by
    rintro rfl
    rw [h.line] at hj
    exact nomatch hj
  rw [h.others j hji] at hj
  obtain ⟨-, d, hd, -⟩ := (hu.lines j).current k hj
  by_cases hkc : k = c.key
  · exact ⟨b, hkc ▸ Works.coil?_some _ _ _ hb⟩
  · exact ⟨d, Works.coil?_some _ _ _ ((hothers k hkc).trans hd)⟩

theorem Works.within.boundary_runs {pos : Nat} (h : u.within) (hu : u.tied isolated) (hk : u.keyed)
    (hc : u.currentCoil? i = some c) (hs : (u.line i).state = .running) (hstart : c.start ≤ pos)
    (hpos : pos ≤ (u.line i).position) :
    ((u.withdraw i).boundary i c pos (u.line i).cutKind).within := by
  obtain ⟨-, -, -, -, hlot, -⟩ := hu.currentCoil? hc
  obtain ⟨lot, hl, -⟩ := (hu.lines i).runs _ hlot
  obtain ⟨y, hy, hbound⟩ := Works.boundary_cutTo pos hc hlot hl
  rw [hbound]
  have hyfit := hy.within hk hu hc h
  have hylot : (y.line i).lot = some c.key.lot := by rw [hy.line]; exact hlot
  unfold Works.openNext
  split
  · next x ho =>
    obtain ⟨K, hK⟩ := (hy.keyed hk).takesCoil_of_openCoil ho
    have hwait := (Works.openCoil_frame y x i pos ho).1
    have hxt := hu.cutTo_opens hk hc hs hl hy hstart hpos hK hwait
    have hx : x.within := fun j => by
      by_cases hj : j = i
      · exact hj ▸ hK.fits (hyfit i).line
      · exact hK.fits_others hj (fun _ => hy.keepsCurrent hu) (hyfit j)
    have hplan := x.plannedCutTest_rests i hxt hK.keyed
    have hfit : (x.plannedCutTest i).within := fun j => (hx j).plannedCutTest i
    dsimp only
    split
    · next k hk' =>
      exact hfit.tends (hplan.tied hxt) (Works.openCarried_tends _ _ hk')
        ((hfit i).openCarried _ (hplan.keyed hK.keyed) hk')
    · exact hfit
  · next why ho =>
    have hz := Works.starvesAs_starve hylot pos why
    intro j
    by_cases hj : j = i
    · subst hj
      exact .of_none ((hyfit j).line.of_uncoiled (by rw [hz.line]; rfl))
        (by rw [hz.line, hy.line]; rfl)
    · exact (hyfit j).of (by rw [hz.others j hj]) fun d hd _ => ⟨d, hz.coils ▸ hd, rfl, rfl, rfl⟩

/-- A line becomes IDLE, and no other line's coil changes. -/
theorem Works.within.frees (h : w.within) (line : v.line i = (w.line i).toIdle)
    (others : ∀ j, j ≠ i → v.line j = w.line j)
    (coils : ∀ j, j ≠ i → ∀ d ∈ inUse v.coils, (w.line j).coil = some d.key → d ∈ inUse w.coils) :
    v.within := fun j => by
  by_cases hj : j = i
  · subst hj
    exact .of_none ((h j).line.of_uncoiled (by rw [line]; rfl)) (by rw [line]; rfl)
  · refine (h j).of (by rw [others j hj]) fun d hd hcur => ⟨d, coils j hj d hd ?_, rfl, rfl, rfl⟩
    rw [← others j hj]
    exact hcur

theorem Works.within.freeLine (h : w.within) (i : LineIx) : (w.freeLine i).within :=
  h.frees (i := i) (by rw [Works.line_freeLine, if_pos rfl])
    (fun j hj => by rw [Works.line_freeLine, if_neg hj]) fun j _ d hd _ => by
      rwa [Works.freeLine_eq] at hd

theorem Works.within.boundary_frees (h : u.within) (hu : u.tied isolated) (hk : u.keyed)
    (hc : u.currentCoil? i = some c) {stop : Nat} {kind : EndKind}
    (hkind : kind.opensNext = false) : (u.boundary i c stop kind).within := by
  have hfree := u.freesLine_boundary i c stop hkind
  have hv := (u.boundary_evolves i c stop kind).keyed hk
  obtain ⟨b, -, hothers, -⟩ := hfree.coil (Works.currentCoil?_key hc).2
  refine h.frees hfree.line hfree.others fun j hj d hd hcur => ?_
  have hne : d.key ≠ c.key := fun e =>
    hj (hu.owner hcur ((Works.currentCoil?_key hc).1.trans (congrArg some e.symm)))
  exact (Works.coil?_some _ _ _ ((hothers d.key hne).symm.trans (hv.coil?_eq hd))).1

theorem Works.within.cutCompleted {pos : Nat} (h : u.within) (hu : u.tied isolated) (hk : u.keyed)
    (hs : (u.line i).state ≠ .primed)
    (hpos : ∀ c, u.currentCoil? i = some c → (u.line i).state ≠ .idle →
      c.start ≤ pos ∧ pos ≤ (u.line i).position) : (u.cutCompleted i pos).1.within := by
  rcases Works.cutCompleted_cases u i pos with e | ⟨c, hc, hstate, e⟩
  · rw [e]; exact h
  · obtain ⟨hstart, hle⟩ := hpos c hc (by rcases hstate with h | h | h <;> rw [h] <;> nofun)
    by_cases hp : pos = c.start
    · rcases e with ⟨-, e⟩ | ⟨h', -⟩ | ⟨h', -⟩ | ⟨h', -⟩ | ⟨h', -⟩
      · rw [e]; exact fun j => (h j).of_lines rfl rfl
      all_goals exact absurd hp h'
    · rcases hstate.resolve_left hs with hrun | hrel
      · rw [Works.cutCompleted_boundary hrun hc hp]
        exact h.boundary_runs hu hk hc hrun hstart hle
      · rw [Works.cutCompleted_releasing hrel hc hp]
        exact h.boundary_frees hu hk hc (kind := .release) rfl

/-! ## Hand-out and releases (R24, R26, R130 to R132) -/

theorem Works.within.handOut (h : w.within) (hw : w.tied isolated) (hk : w.keyed) :
    w.handOut.within :=
  (Works.serve_preserves (fun u => u.tied isolated ∧ u.keyed ∧ u.within)
    (fun u j rest ⟨hu, hk, hfit⟩ hwait =>
      ⟨hu.passes hk hwait, hk.of_eq rfl rfl, fun m => Works.fits.modifyLine
        (w := { u with waitList := rest }) ((hfit m).of_lines rfl rfl) j fun _ => rfl⟩)
    (fun u z j rest ⟨hu, hk, hfit⟩ hwait ho => by
      have hr := hu.served_rests hk hwait ho
      obtain ⟨⟨K, hK⟩, hz⟩ := hu.served hk hwait ho
      have hzfit := hfit.takesCoil hu hK ((hfit j).line.of_uncoiled rfl)
      refine ⟨hr.tied hz, hr.keyed hK.keyed, ?_⟩
      rw [Works.resumeServed_resumedWith]
      exact fun m => (hzfit.tends hz (Works.reopenZones_tends _ j _)
        ((hzfit j).reopenZones hK.keyed) m).plannedCutTest j) w ⟨hw, hk, h⟩).2.2

theorem Works.within.retired (h : w.within) (c : Coil) : (w.retired c).within := fun i => by
  have hline : (w.retired c).line i = w.line i := Works.line_congr (by rw [Works.retired_eq]) i
  refine (h i).of (by rw [hline]) fun d hd _ => ⟨d, ?_, rfl, rfl, rfl⟩
  rw [Works.retired_eq] at hd
  exact ((mem_inUse_filter _ _ _).1 hd).1

theorem Works.within.releaseEmpty (h : w.within) (hw : w.tied isolated) (hk : w.keyed)
    (hc : (w.line i).coil = some c.key) : (w.releaseEmpty i c.key).within := by
  have hfreed := hw.freesWithout hk hc
  have hfk := (Works.freeLine_evolves (w.removeCoil c.key) i).keyed (hk.removeCoil c.key)
  have hremoved : (w.removeCoil c.key).within := fun j =>
    (h j).of rfl fun d hd _ => ⟨d, ((mem_inUse_filter _ _ _).1 hd).1, rfl, rfl, rfl⟩
  have hfit : ((w.removeCoil c.key).freeLine i).within := hremoved.freeLine i
  have hgo : ∀ v : Works, ((w.removeCoil c.key).freeLine i).rests v → v.within → v.handOut.within :=
    fun v hv hvfit => hvfit.handOut (hv.tied hfreed) (hv.keyed hfk)
  unfold Works.releaseEmpty
  dsimp only
  split
  · exact hgo _ (Works.placeFreed_rests _ _) fun j => (hfit j).placeFreed _
  · exact hgo _ (.refl _) hfit

theorem Works.within.releaseRunning (h : w.within) (i : LineIx) : (w.releaseRunning i).within :=
  fun j => Works.fits.modifyLine ((h j).withdraw i) i fun l => by split <;> rfl

theorem Works.within.release (h : w.within) (hw : w.tied isolated) (hk : w.keyed) (i : LineIx) :
    (w.release i).within := by
  have hsuspended : (w.releaseSuspended i).within := by
    have hx := w.withdraw_rests i
    have hxfit : (w.withdraw i).within := fun j => (h j).withdraw i
    unfold Works.releaseSuspended
    dsimp only
    split
    · exact hxfit.freeLine i
    · next c hc =>
      split
      · exact hxfit.releaseEmpty (hx.tied hw) (hx.keyed hk) (Works.currentCoil?_key hc).1
      · exact hxfit.boundary_frees (hx.tied hw) (hx.keyed hk) hc rfl
  unfold Works.release
  dsimp only
  split
  · exact h
  · split
    · next k hk' =>
      obtain ⟨-, c, hc, -⟩ := (hw.lines i).current k hk'
      have hkc := (Works.coil?_some w k c hc).2
      exact hkc ▸ h.releaseEmpty hw hk (hkc ▸ hk')
    · exact h.freeLine i
  · exact Works.within.freeLine (w := w.leaveWait i) (fun j => (h j).of_lines rfl rfl) i
  · split
    · exact hsuspended
    · exact h.releaseRunning i
  · split
    · exact hsuspended
    · exact h

/-! ## Commands of the host -/

theorem Line.fits.assigned {l : Line} (h : l.fits) (t : Lot) (b : Bool) : (l.assigned t b).fits := by
  unfold Line.assigned
  rw [Line.resetMonitor_eq]
  refine ⟨h.rows, fun hk _ => ?_, fun hk _ => ?_, fun _ => ⟨le_rfl, le_rfl⟩⟩
  · have hk : l.kind = .twist := hk
    dsimp only
    rw [if_pos hk]
    exact ⟨le_rfl, le_rfl⟩
  · have hk : l.kind = .knot := hk
    dsimp only
    rw [if_pos hk]
    exact ⟨le_rfl, le_rfl⟩

theorem Line.amended_gauges (l : Line) (n : Nat) (t : Lot) : (l.amended n t).gauges = l.gauges := by
  unfold Line.amended
  split
  · split <;> rfl
  · rfl

theorem Works.within.amends (h : w.within) {n : Nat} {sp : Spec} {t : Lot} (ht : w.lot? n = some t) :
    (w.amend n sp).within := fun j => by
  obtain ⟨f, hf, hkeep⟩ := w.amend_map n sp
  refine (h j).of (by rw [(Works.amend_amendsTo sp ht).line, Line.amended_gauges]) fun d hd _ => ?_
  rw [hf] at hd
  obtain ⟨c, hc, rfl⟩ := (mem_inUse_mapTable _ _ _).1 hd
  exact ⟨c, hc, by rw [hkeep c], by rw [hkeep c], by rw [hkeep c]⟩

/-- R32: a line that judges knots measures rows. -/
theorem judgedPair_knot (m : MeasureSource) (c : CheckSource) : (judgedPair .knot m c).1 = .rows := by
  unfold judgedPair
  by_cases hm : m = .rows
  · subst hm
    rfl
  · exact congrArg Prod.fst (if_pos (decide_eq_true hm) :
      (if pairConflicts .knot m c then kindDefaults .knot else (m, c)) = kindDefaults .knot)

theorem Works.fits.setWheels (h : w.fits i) (m : MeasureSource) (c : CheckSource) :
    (w.setWheels i m c).fits i := by
  have hslip : (if (judgedPair (w.line i).kind m c).2 = (w.line i).check then w
      else w.resetSlip i).fits i := by
    split
    · exact h
    · unfold Works.resetSlip
      dsimp only
      refine Works.fits.setLine (f := fun l => { l with slip := l.slip.toNormal }) ?_ rfl rfl ?_
      · split
        · exact h.requestClose (fun _ => le_rfl) _
        · exact h
      · split
        · have hl := (h.requestClose (pos := (w.line i).position) (fun _ => le_rfl) .slip).line
          exact ⟨hl.rows, hl.twist, hl.knot, hl.slip⟩
        · exact ⟨h.line.rows, h.line.twist, h.line.knot, h.line.slip⟩
  obtain ⟨u, hu⟩ : ∃ u, (if (judgedPair (w.line i).kind m c).2 = (w.line i).check then w
      else w.resetSlip i) = u := ⟨_, rfl⟩
  have hkind : (u.line i).kind = (w.line i).kind := by
    rw [← hu]
    split
    · rfl
    · exact (congrArg Line.kind (w.resetSlip_tends i).line :)
  rw [hu] at hslip
  have hset : (u.modifyLine i fun l => { l with
      measure := (judgedPair (w.line i).kind m c).1,
      check := (judgedPair (w.line i).kind m c).2 }).fits i :=
    hslip.setLine rfl rfl ⟨fun hk => by
      have hk : (u.line i).kind = .knot := hk
      show (judgedPair (w.line i).kind m c).1 = .rows
      rw [← hkind, hk]
      exact judgedPair_knot m c, hslip.line.twist, hslip.line.knot, hslip.line.slip⟩
  unfold Works.setWheels
  dsimp only
  rw [hu]
  split
  · exact hset.of_lines rfl rfl
  · exact hset

theorem Works.within.setWheels (h : w.within) (hw : w.tied isolated) (i : LineIx) (m : MeasureSource)
    (c : CheckSource) : (w.setWheels i m c).within := fun j => by
  by_cases hj : j = i
  · exact hj ▸ (h i).setWheels m c
  · have hslip : (if (judgedPair (w.line i).kind m c).2 = (w.line i).check then w
        else w.resetSlip i).fits j := by
      split
      · exact h j
      · exact (w.resetSlip_tends i).fits_others hw hj (h j)
    obtain ⟨u, hu⟩ : ∃ u, (if (judgedPair (w.line i).kind m c).2 = (w.line i).check then w
        else w.resetSlip i) = u := ⟨_, rfl⟩
    rw [hu] at hslip
    have hset : (u.modifyLine i fun l => { l with
        measure := (judgedPair (w.line i).kind m c).1,
        check := (judgedPair (w.line i).kind m c).2 }).fits j :=
      hslip.of (by rw [Works.line_modifyLine_other _ _ _ _ hj]) fun d hd _ => ⟨d, hd, rfl, rfl, rfl⟩
    unfold Works.setWheels
    dsimp only
    rw [hu]
    split
    · exact hset.of_lines rfl rfl
    · exact hset

/-- R107: a mark lies within its coil. -/
theorem Works.within.placeOperator (h : w.within) (hw : w.tied isolated) (hk : w.keyed)
    (hc : w.coil? c.key = some c) {start stop : Nat} (order : start ≤ stop)
    (within : stop ≤ w.coilLength c) : (w.placeOperator c.key start stop).within := fun i => by
  have hmem := (Works.coil?_some _ _ _ hc).1
  by_cases hcur : (w.line i).coil = some c.key
  · have hlen := hw.coilLength_current (hk.currentCoil?_iff.2 ⟨hmem, hcur⟩)
    refine (h i).modifyCoil c.key fun d hd hdk => ?_
    obtain rfl := hk.sameCoil hd hmem hdk
    have hb := Coil.bones_start ((Coil.regraded_bones _ (w.coilLength d)).trans
      (d.placeZone_bones ⟨.operator, start, some stop, 0⟩))
    refine ⟨hb.1, hb.2, fun hf => Coil.fits.regraded (hf.placeZone ?_) _⟩
    rw [← hlen]
    exact ⟨order.trans within, fun e he => Option.some.inj he ▸ within⟩
  · refine (h i).of rfl fun d hd hdcur => ?_
    obtain ⟨b, hb, rfl⟩ := (mem_inUse_mapTable _ _ _).1 hd
    by_cases hbk : b.key = c.key
    · rw [if_pos hbk] at hdcur
      refine absurd hdcur ?_
      rw [((Coil.bones_start ((Coil.regraded_bones _ _).trans (b.placeZone_bones _))).1), hbk]
      exact hcur
    · rw [if_neg hbk]
      exact ⟨b, hb, rfl, rfl, rfl⟩

/-- A coil that is no line's current coil changes. -/
theorem Works.within.of_ended (h : w.within) (hw : w.tied isolated) (hc : w.coil? c.key = some c)
    (hs : c.state ≠ .opened) (hv : v.keyed) (hbut : w.coilsBut v c.key) (lines : v.lines = w.lines) :
    v.within := fun i => by
  refine (h i).of (by rw [Works.line_congr lines]) fun d hd hcur => ?_
  rw [Works.line_congr lines] at hcur
  have hne : d.key ≠ c.key := fun e => by
    obtain ⟨-, b, hb, hbs, -⟩ := (hw.lines i).current _ hcur
    rw [e] at hb
    obtain rfl := Option.some.inj (hc.symm.trans hb)
    exact hs hbs
  exact ⟨d, (Works.coil?_some _ _ _ ((hbut d.key hne).symm.trans (hv.coil?_eq hd))).1, rfl, rfl, rfl⟩

theorem Works.Does.within (h : w.Does isolated live v) (hk : w.keyed) (hw : w.tied isolated)
    (hr : ∀ i, (w.line i).position ≤ Config.positionLimit ∧ (w.line i).remainder < 1000)
    (hfit : w.within) : v.within := by
  have hvk := h.keyed hk
  cases h with
  | plain lots lines coils => exact fun j => (hfit j).of_lines lines coils
  | tally permille i f => exact hfit.tally hw hk (hr i).1 permille f
  | mark permille i kind f => exact hfit.mark hw hk (hr i).1 (hr i).2 permille kind f
  | cutDone permille i f n =>
    have hres := w.resolve_minds permille i f (hr i).1 hw hk
    have hbounds := w.resolve_bounds permille i f hw hk (hr i).1 (hr i).2
    have hcut := (hfit.resolve hw hk (hr i).1 permille f).cutCompleted (i := i)
      (pos := (w.resolve permille i f).2) (hres.tied hw)
      ((w.resolve_evolves permille i f).keyed hk) (w.resolve_not_primed permille i f)
      fun c hc hne => hbounds (fun hs => hne (w.resolve_idle permille f hs)) c hc
    exact fun j => (hcut j).of_lines rfl rfl
  | takes p c hc head full =>
    exact hfit.of_ended hw hc (by rw [full]; nofun) hvk
      (fun k hne => Works.coil?_modifyCoil_other w c.key k _ (fun _ => rfl) hne) rfl
  | seals p c weight hc state =>
    rw [Works.sealAt_eq]
    have hout : (w.sealedOut p c.key weight).within :=
      hfit.of_ended hw hc (by rcases state with e | e <;> rw [e] <;> nofun)
        (hk.map (fun t => t) (fun b => if b.key = c.key then _ else b) (mapTable_map_id _).symm rfl
          (fun _ _ => ⟨rfl, le_rfl⟩) fun b _ => by
            split
            · rw [Coil.sealedWith_eq]
            · rfl)
        (fun k hne => w.sealedOut_coil?_other p c.key k weight hne) rfl
    exact fun j => (hout j).placeFreed p
  | retires c hc sealed =>
    rw [Works.retire_eq]
    exact (hfit.retired c).handOut (hw.retired hk hc sealed) (hk.retired c)
  | opensLot => exact fun j => (hfit j).of_lines rfl rfl
  | amends n sp t hl => exact hfit.amends hl
  | closes n =>
    obtain ⟨hlines, hcoils, -⟩ :=
      (w.modifyLot n fun l => { l with state := .closing }).closeIfEmpty_frame n
    exact fun j => (hfit j).of_lines hlines hcoils
  | removesLot => exact fun j => (hfit j).of_lines rfl rfl
  | assigns i n t _ used hl idle opened opens =>
    obtain ⟨-, -, K, hK⟩ := hw.assigns hk used hl idle opened opens
    exact hfit.takesCoil hw hK ((hfit i).line.assigned t (isolated i))
  | releases i => exact hfit.release hw hk i
  | wheels i m c => exact hfit.setWheels hw i m c
  | marks c start stop hc _ order within => exact hfit.placeOperator hw hk hc order within

end

end Sys2Proof.Machine
end

section
namespace Sys2Proof.Machine

/-! # The laws of the records hold after every step (R5, R11, R17, R22, R25, R102, R138) -/

section
variable {w v : Works} {isolated : LineIx → Bool} {live : Prop}

/-! ## Records without lots -/

/-- The tables and lists are empty. -/
structure Works.bare (w : Works) : Prop where
  lots : inUse w.lots = []
  coils : inUse w.coils = []
  waitList : w.waitList = []
  queues : ∀ p : PackerIx, w.queues[p] = []

theorem State.emptyWhileLoading_iff (s : State) :
    s.emptyWhileLoading ↔ (s.partState = .loading → s.works.bare) :=
  ⟨fun h hl => have ⟨h1, h2, h3, h4⟩ := h hl; ⟨h1, h2, h3, h4⟩,
    fun h hl => ⟨(h hl).lots, (h hl).coils, (h hl).waitList, (h hl).queues⟩⟩

theorem Works.bare.lot? (h : w.bare) (n : Nat) : w.lot? n = none := by
  rw [Works.lot?, h.lots]
  rfl

theorem Works.bare.coil? (h : w.bare) (k : CoilKey) : w.coil? k = none := by
  rw [Works.coil?, h.coils]
  rfl

/-- R174: linked records without lots hold nothing. -/
theorem Works.tied.bare (hw : w.tied isolated) (hk : w.keyed) (lots : inUse w.lots = []) : w.bare := by
  have hlot : ∀ n, w.lot? n = none := fun n => by
    rw [Works.lot?, lots]
    rfl
  have hcoils : inUse w.coils = [] := List.eq_nil_iff_forall_not_mem.2 fun c hc => by
    obtain ⟨l, hl, -⟩ := hk.issued c hc
    rw [lots] at hl
    exact nomatch hl
  refine ⟨lots, hcoils, List.eq_nil_iff_forall_not_mem.2 fun i hi => ?_, fun p =>
    List.eq_nil_iff_forall_not_mem.2 fun k hm => ?_⟩
  · have hs := (hw.lines i).starve.1 (by rw [(hw.waiting.2 i).1 hi]; nofun)
    obtain ⟨n, hn⟩ : ∃ n, (w.line i).lot = some n := Option.ne_none_iff_exists'.1 fun e => by
      rw [(hw.lines i).lot, hs] at e
      exact nomatch e
    obtain ⟨t, ht, -⟩ := (hw.lines i).runs n hn
    exact nomatch (hlot n).symm.trans ht
  · obtain ⟨c, hc, -⟩ := (hw.queues p).2 k hm
    have hm := (Works.coil?_some w k c hc).1
    rw [hcoils] at hm
    exact nomatch hm

theorem Works.bare.idle (h : w.bare) (hw : w.tied isolated) (i : LineIx) : (w.line i).state = .idle := by
  refine (hw.lines i).lot.1 (Option.eq_none_iff_forall_ne_some.2 fun n hn => ?_)
  obtain ⟨t, ht, -⟩ := (hw.lines i).runs n hn
  exact nomatch (h.lot? n).symm.trans ht

/-- R174: in LOADING no lot opens. -/
theorem Works.Does.bare (h : w.Does isolated live v) (hw : w.tied isolated) (hk : w.keyed)
    (hv : v.tied isolated) (hbare : w.bare) (loading : ¬ live) : v.bare := by
  refine hv.bare (h.keyed hk) ?_
  have hlot := hbare.lot?
  have hcoil := hbare.coil?
  have hidle := hbare.idle hw
  have hnone : ∀ i, w.currentCoil? i = none := fun i => by
    rw [Works.currentCoil?]
    cases (w.line i).coil with
    | none => rfl
    | some k => exact hcoil k
  cases h with
  | plain lots => rw [lots]; exact hbare.lots
  | tally permille i f =>
    unfold Works.tally
    simp only [hidle i]
    exact hbare.lots
  | mark permille i kind f =>
    unfold Works.mark
    simp only [hidle i]
    exact hbare.lots
  | cutDone permille i f n =>
    have hres : w.resolve permille i f = (w, 0) := by
      unfold Works.resolve
      simp only [hidle i]
    show inUse (w.cutDone permille i f).1.lots = []
    unfold Works.cutDone
    dsimp only
    rw [hres]
    rcases w.cutCompleted_cases i 0 with e | ⟨c, hc, -⟩
    · rw [e]; exact hbare.lots
    · exact nomatch (hnone i).symm.trans hc
  | takes p c hc => exact nomatch (hcoil _).symm.trans hc
  | seals p c weight hc => exact nomatch (hcoil _).symm.trans hc
  | retires c hc => exact nomatch (hcoil _).symm.trans hc
  | opensLot e n sp _ _ _ _ ready => exact absurd ready loading
  | amends n sp t hl => exact nomatch (hlot n).symm.trans hl
  | closes n t hl => exact nomatch (hlot n).symm.trans hl
  | removesLot n t hl => exact nomatch (hlot n).symm.trans hl
  | assigns i n t v used hl => exact nomatch (hlot n).symm.trans hl
  | releases i busy => exact absurd (hidle i) busy
  | wheels i m c => rw [(w.setWheels_rests i m c hw hk).sameLots]; exact hbare.lots
  | marks c start stop hc => exact nomatch (hcoil _).symm.trans hc

/-- R28: records without lots, all of whose lines stand as a restart or a load makes them. -/
theorem Works.bare.tied (h : w.bare) (lines : ∀ i, w.line i = (w.line i).toIdle) : w.tied isolated where
  lines i := .of_idle (lines i)
  coils c hc := by
    rw [h.coils] at hc
    exact nomatch hc
  waiting := by
    refine ⟨h.waitList ▸ List.nodup_nil, fun i => ?_⟩
    rw [h.waitList, lines i]
    exact ⟨nofun, nofun⟩
  queues p := by
    unfold Works.queueTied
    rw [h.queues p]
    exact ⟨List.nodup_nil, nofun⟩

theorem Works.bare.taken (h : w.bare) : w.taken := fun hne => absurd h.waitList hne

theorem Works.bare.conserved (h : w.bare) : w.conserved where
  totals t ht := by
    rw [h.lots] at ht
    exact nomatch ht
  lines i t ht := by
    obtain ⟨n, -, hn⟩ := Option.bind_eq_some_iff.1 ht
    exact nomatch (h.lot? n).symm.trans hn

theorem Works.bare.fits (h : w.bare) {i : LineIx} (line : (w.line i).fits) : w.fits i :=
  .of_empty line fun d hd _ => by
    rw [h.coils] at hd
    exact nomatch hd

/-! ## Suspensions and gap counts -/

variable {s m : State}

theorem State.readies.tied (h : s.readies m) (roles : s.rolesApart)
    (hw : s.works.tied s.link.lineIsolated) : m.works.tied m.link.lineIsolated := by
  have hsus := h.suspended roles fun j => (hw.lines j).suspended
  have hlot : ∀ n, m.works.lot? n = s.works.lot? n := Works.lot?_congr h.lots
  have hcoil : ∀ k, m.works.coil? k = s.works.coil? k := Works.coil?_congr h.coils
  refine ⟨fun j => ?_, fun c hc => ?_, hw.waiting.of h.waitList fun j => by rw [h.line j],
    fun p => (hw.queues p).of (by rw [h.queues]) fun k c _ hc => ⟨c, (hcoil k).trans hc, rfl, rfl⟩⟩
  · have hj := hw.lines j
    have hs := hsus j
    unfold State.suspendedAs at hs
    have hline := h.line j
    obtain ⟨b, hb⟩ : ∃ b, (m.works.line j).suspended = b := ⟨_, rfl⟩
    rw [hb] at hline hs
    refine ⟨?_, ?_, ?_, ?_, hb.symm ▸ hs, ?_, fun n hn => ?_, fun k hk => ?_, ?_⟩
    · rw [hline]; exact hj.lot
    · rw [hline]; exact hj.coil
    · rw [hline]; exact hj.starve
    · rw [hline]; exact hj.unused
    · rw [hline]; exact hj.amendment
    · rw [hline] at hn ⊢
      rw [hlot]
      exact hj.runs n hn
    · rw [hline] at hk ⊢
      rw [hcoil]
      exact hj.current k hk
    · rw [hline]; exact hj.primed
  · rw [h.coils] at hc
    have hct := hw.coils c hc
    exact ⟨fun hs => by rw [h.line]; exact hct.opened hs, hct.ended, hct.final, fun t ht =>
      hct.revision t ((hlot _).symm.trans ht)⟩

theorem State.readies.taken (h : s.readies m) (ht : s.works.taken) : m.works.taken :=
  ht.of_same h.coils h.waitList

theorem State.readies.conserved (h : s.readies m) (hc : s.works.conserved) : m.works.conserved :=
  hc.of_map (f := fun c => c) (h.coils.trans (mapTable_map_id _).symm)
    (fun _ _ => ⟨rfl, rfl, rfl, rfl⟩) (.of_lots h.lots) fun j => by
      rw [h.line j]
      exact ⟨rfl, rfl⟩

theorem State.readies.within (h : s.readies m) (hf : s.works.within) : m.works.within := fun j =>
  (hf j).of (by rw [h.line j]; rfl) fun d hd _ => ⟨d, h.coils ▸ hd, rfl, rfl, rfl⟩

theorem State.readies.bare (h : s.readies m) (hb : s.works.bare) : m.works.bare :=
  ⟨h.lots ▸ hb.lots, h.coils ▸ hb.coils, h.waitList.trans hb.waitList, fun p => by
    rw [h.queues]; exact hb.queues p⟩

/-! ## Restarts and loads -/

theorem Works.cleared_bare (v : Works) : v.cleared.bare :=
  ⟨v.cleared_tables.1, v.cleared_tables.2, rfl, fun _ => Vector.getElem_replicate ..⟩

theorem Line.cleared_fits {l : Line} (h : l.kind = .knot → l.measure = .rows) : l.cleared.fits :=
  ⟨h, fun _ _ => ⟨le_rfl, le_rfl⟩, fun _ _ => ⟨le_rfl, le_rfl⟩, fun _ => ⟨le_rfl, le_rfl⟩⟩

theorem Image.lineRecord_fits (img : Image) (i : LineIx) : (img.lineRecord i).fits := by
  refine ⟨fun hk => ?_, fun _ _ => ⟨le_rfl, le_rfl⟩, fun _ _ => ⟨le_rfl, le_rfl⟩,
    fun _ => ⟨le_rfl, le_rfl⟩⟩
  have hk : img.lineKind i = .knot := hk
  show (judgedPair (img.lineKind i) _ _).1 = .rows
  rw [hk]
  exact judgedPair_knot _ _

/-- R12, R173: a load gives each line and packer one station. -/
theorem Image.rolesApart (img : Image) {t : State} (stations : t.link.stations = img.stations) :
    t.rolesApart := by
  have hrole : ∀ (d : StationIx) (r : Role) (a : Bool), t.link.bond d = some (r, a) →
      (∃ i, r = .line i ∧ img.lines[i].address = d.val + 1) ∨
      ∃ p, r = .packer p ∧ img.packers[p].address = d.val + 1 := by
    intro d r a hd
    obtain ⟨st, hst, hb⟩ := Option.map_eq_some_iff.1 hd
    rw [stations, Image.stations_get] at hst
    have hr : st.role = r := congrArg Prod.fst hb
    cases hl : img.lineAt d with
    | some i =>
      rw [hl] at hst
      obtain rfl := Option.some.inj hst
      exact .inl ⟨i, hr.symm, (Image.lineAt_eq_some.1 hl).2⟩
    | none =>
      rw [hl] at hst
      obtain ⟨p, hp, rfl⟩ := Option.map_eq_some_iff.1 hst
      exact .inr ⟨p, hr.symm, (Image.packerAt_eq_some.1 hp).2⟩
  intro d e r a b hd he
  rcases hrole d r a hd with ⟨i, hi, had⟩ | ⟨p, hp, had⟩
  · rcases hrole e r b he with ⟨j, hj, hae⟩ | ⟨q, hq, -⟩
    · obtain rfl := Role.line.inj (hi.symm.trans hj)
      exact Fin.ext (Nat.succ.inj (had.symm.trans hae))
    · exact nomatch hi.symm.trans hq
  · rcases hrole e r b he with ⟨j, hj, -⟩ | ⟨q, hq, hae⟩
    · exact nomatch hp.symm.trans hj
    · obtain rfl := Role.packer.inj (hp.symm.trans hq)
      exact Fin.ext (Nat.succ.inj (had.symm.trans hae))

end

/-! ## Every step -/

/-- What O25 says of the records `w` and of those after a step. -/
structure Works.obeys (w v : Works) (isolated : LineIx → Bool) : Prop where
  tied : v.tied isolated
  taken : v.taken
  conserved : w.conserved → v.conserved
  within : w.within → v.within
  sealed : ∀ c, w.coil? c.key = some c → c.state = .sealed →
    v.coil? c.key = none ∨ v.coil? c.key = some c

theorem State.readies.obeys {s m : State} {v : Works} (h : s.readies m) (hk : s.works.keyed)
    (hw : s.works.tied s.link.lineIsolated) (ht : s.works.taken) (roles : s.rolesApart)
    (hr : s.ranged) {live : Prop} (hv : m.works.Does m.link.lineIsolated live v) :
    s.works.obeys v m.link.lineIsolated := by
  have hmk : m.works.keyed := hk.of_eq h.lots h.coils
  have hmw := h.tied roles hw
  have hmr : ∀ i, (m.works.line i).position ≤ Config.positionLimit ∧ (m.works.line i).remainder < 1000 :=
    fun i => by
      rw [h.line i]
      exact ⟨(hr.lines i).position, (hr.lines i).remainder⟩
  have hprod : ∀ t ∈ inUse m.works.lots, t.produced ≤ Config.positionLimit := fun t ht =>
    (hr.lots t (h.lots ▸ ht)).produced
  obtain ⟨h1, h2⟩ := hv.tied hmk hmw (h.taken ht) hmr
  exact ⟨h1, h2, fun hc => hv.conserved hmk hmw hmr hprod (h.conserved hc),
    fun hf => hv.within hmk hmw hmr (h.within hf),
    fun c hc hs => hv.sealed hmk hmw hmr ((Works.coil?_congr h.coils _).trans hc) hs⟩

/-- A step leaves the tables empty, as a restart or a load does. -/
theorem Works.bare.obeys {w v : Works} {isolated : LineIx → Bool} (h : v.bare)
    (lines : ∀ i, v.line i = (v.line i).toIdle) (fits : w.within → ∀ i, (v.line i).fits) :
    w.obeys v isolated :=
  ⟨h.tied lines, h.taken, fun _ => h.conserved, fun hw i => h.fits (fits hw i),
    fun _ _ _ => .inl (h.coil? _)⟩

theorem State.Steps.obeys {s t : State} (h : s.Steps t) (hk : s.works.keyed)
    (hw : s.works.tied s.link.lineIsolated) (ht : s.works.taken) (roles : s.rolesApart)
    (hempty : s.emptyWhileLoading) (hr : s.ranged) : s.works.obeys t.works t.link.lineIsolated := by
  cases h with
  | @does m _ ready works bonds =>
    rw [funext (Link.lineIsolated_congr bonds)]
    exact ready.obeys hk hw ht roles hr works
  | cleared v from_ works =>
    rw [works]
    refine v.cleared_bare.obeys (fun i => by rw [Works.line_cleared]; rfl) fun hf i => ?_
    rw [Works.line_cleared]
    refine Line.cleared_fits ?_
    rcases from_ with rfl | rfl
    · exact (hf i).line.rows
    · have hreset : Works.reset.line i = Line.reset := Vector.getElem_replicate ..
      rw [hreset]
      exact nofun
  | loaded img loading works =>
    have hb := (s.emptyWhileLoading_iff).1 hempty loading
    have hbare : t.works.bare := ⟨works.lots ▸ hb.lots, works.coils ▸ hb.coils,
      works.waitList.trans hb.waitList, fun p => by rw [works.queues]; exact hb.queues p⟩
    refine hbare.obeys (fun i => by rw [works.lines]; rfl) fun _ i => ?_
    rw [works.lines]
    exact img.lineRecord_fits i

theorem State.Steps.rolesApart {s t : State} (h : s.Steps t) (roles : s.rolesApart) : t.rolesApart := by
  cases h with
  | does ready works bonds =>
    intro d e r a b hd he
    exact ready.roles roles d e r a b ((bonds d).symm.trans hd) ((bonds e).symm.trans he)
  | cleared v from_ works bonds => exact fun d _ _ _ _ hd _ => nomatch (bonds d).symm.trans hd
  | loaded img loading works stations => exact img.rolesApart stations

theorem State.Steps.emptyWhileLoading {s t : State} (h : s.Steps t) (hk : s.works.keyed)
    (hw : s.works.tied s.link.lineIsolated) (ht : s.works.taken) (roles : s.rolesApart)
    (hr : s.ranged) (hempty : s.emptyWhileLoading) : t.emptyWhileLoading := by
  rw [State.emptyWhileLoading_iff] at hempty ⊢
  intro hl
  cases h with
  | @does m _ ready works bonds part =>
    have hml := part hl
    exact works.bare (ready.tied roles hw) (hk.of_eq ready.lots ready.coils)
      (ready.obeys hk hw ht roles hr works).tied (ready.bare (hempty (ready.part.symm.trans hml)))
      fun h => h hml
  | cleared v from_ works => rw [works]; exact v.cleared_bare
  | loaded img loading works stations ready => exact absurd hl ready

/-- Settles O25: what a step does (`State.Steps`), the records staying linked under each thing that
a command or frame does (`Works.Does`). -/
theorem lawsOfTheRecordsStay : Obligations.LawsOfTheRecordsStay := by
  unfold Obligations.LawsOfTheRecordsStay
  intro s t hkeys hr hlinked hstep
  have hk := (s.keysLawful_iff).1 hkeys
  obtain ⟨hw, ht, roles, hempty⟩ := (s.recordsLinked_iff).1 hlinked
  have hsteps := step_steps hstep
  have hobeys := hsteps.obeys hk hw ht roles hempty hr
  have htk := (t.keysLawful_iff).1 (keysStayLawful s t hkeys hstep)
  refine ⟨(t.recordsLinked_iff).2 ⟨hobeys.tied, hobeys.taken, hsteps.rolesApart roles,
    hsteps.emptyWhileLoading hk hw ht roles hr hempty⟩, fun hc => ?_, fun hz => ?_, fun c hc hs => ?_⟩
  · exact (t.lengthConserved_iff).2 (hobeys.conserved ((s.lengthConserved_iff).1 hc))
  · exact (State.zonesWithin_iff hobeys.tied htk).2
      (hobeys.within ((State.zonesWithin_iff hw hk).1 hz))
  · exact (hobeys.sealed c (hk.coil?_eq hc) hs).imp id fun h =>
      ⟨h, hw.coilLength_same hc fun ho => nomatch ho.symm.trans hs⟩

end Sys2Proof.Machine
end
